-- ==== Sys2Proof/Word.lean ====
section
/-! DEFINITION. The plainest types of the model: a byte of the host line, and a string. -/

namespace Sys2Proof

/-- One byte of the host line (R176). -/
abbrev Byte := BitVec 8

/-- A string of characters, one per byte on the line (R179). Whether each lies in the display character set is
checked where a rule says so. -/
abbrev Text := List Char

end Sys2Proof
end

