-- ==== Sys2Proof/Syntax.lean ====
section
/-! DEFINITION. The commands of the HS-42, one constructor of `Instr` per row of spec/opcode_table.json, and the types
of their operands. A request's operands are the fields its rule lists, as they stand in the body, in or out of range. -/

namespace Sys2Proof

/-- A coded field of a request: one of the values its rule names, or a code that names none of them
("a value of another kind", refused RANGE with detail FIELD by each owner's rule). -/
inductive Coded (α : Type) where
  | named (a : α)
  | other (code : Nat)
deriving DecidableEq, Repr

/-- A calendar date (R3): year, month, day. -/
structure Date where
  year : Nat
  month : Nat
  day : Nat
deriving DecidableEq, Repr

/-- Direction of a service, and side of a station (R15, R52). -/
inductive Direction where
  | up | down
deriving DecidableEq, Repr

/-- Day type of a table header (R14). -/
inductive DayType where
  | weekday | saturday | sunday
deriving DecidableEq, Repr

/-- TABLE-READ's selector (R26). -/
inductive TableSel where
  | current | next
deriving DecidableEq, Repr

/-- Kind of a running message (R34, Table 3-3). -/
inductive RunKind where
  | delay | cancel | reinstate | platform | departed
deriving DecidableEq, Repr

/-- TARIFF-READ's and FARE-TRIAL's tariff selector (R62, R72). -/
inductive TariffSel where
  | active | pending
deriving DecidableEq, Repr

/-- TARIFF-READ's part (R62). -/
inductive TariffPart where
  | summary | station | rules
deriving DecidableEq, Repr

/-- A discount of a concession class in use, and its peak-exempt flag (R54). -/
structure ClassRule where
  discount : Nat
  exempt : Bool
deriving DecidableEq, Repr

/-- The rules of a tariff as TARIFF-RULES carries them (R53 to R55, R58). `classes` holds classes 1 to 7 in order,
`none` for an unused one; class 0 and the SINGLE factor are fixed and not carried. -/
structure Rules where
  /-- Each band's upper limit and rate (R53). -/
  bands : List (Nat × Nat)
  boarding : Nat
  fMin : Nat
  fMax : Nat
  cMax : Nat
  step : Nat
  returnFactor : Nat
  openSingleFactor : Nat
  openReturnFactor : Nat
  classes : List (Option ClassRule)
  /-- Each peak window's start and end (R55). -/
  windows : List (Nat × Nat)
  surcharge : Nat
deriving DecidableEq, Repr

/-- Ticket types (R54, Table 4-4). -/
inductive TicketType where
  | single | ret | openSingle | openReturn
deriving DecidableEq, Repr

/-- FARE-TRIAL's peak selector (R72). -/
inductive PeakSel where
  | inPeak | outPeak
deriving DecidableEq, Repr

/-- SALE-QUOTE's service selector (R76). -/
inductive ServiceSel where
  | next | number | openTicket
deriving DecidableEq, Repr

/-- Payment kinds (R75). -/
inductive Payment where
  | cash | card | voucher
deriving DecidableEq, Repr

/-- SALE-PRINTED's outcome (R83). -/
inductive PrintOutcome where
  | printed | spoiled
deriving DecidableEq, Repr

/-- Panel addresses 1 to 4 (R111). -/
inductive Addr where
  | p1 | p2 | p3 | p4
deriving DecidableEq, Repr

/-- Panel kinds (R111). -/
inductive PanelKind where
  | departures | messages | sales
deriving DecidableEq, Repr

/-- Direction filters (R111). -/
inductive DirFilter where
  | all | up | down
deriving DecidableEq, Repr

/-- Priorities of a host message (R115). -/
inductive MsgPriority where
  | urgent | normal
deriving DecidableEq, Repr

/-- The seven energy levels, from highest performance to lowest (0.4.6). -/
inductive Level where
  | ela | el0 | el1 | el2 | el3 | el4 | el5
deriving DecidableEq, Repr

/-- LEVEL-LIMIT's field: absent, the word NONE, or a level's number (R153). -/
inductive LimitField where
  | absent | noLimit | level (n : Nat) | other (code : Nat)
deriving DecidableEq, Repr

/-- The five field inputs (R168). -/
inductive FieldInput where
  | call | presence | card | door | aux
deriving DecidableEq, Repr

/-- Senses of a field input (R169). -/
inductive Sense where
  | never | rising | falling | either
deriving DecidableEq, Repr

/-- DOOR-OPEN's sense (R184). -/
inductive DoorSense where
  | edge | level
deriving DecidableEq, Repr

/-- Notice priorities (R183). -/
inductive NoticePriority where
  | high | low
deriving DecidableEq, Repr

/-- What NOTICE-CONFIG carries for one source (R184). -/
structure NoticeField where
  source : Nat
  enable : Option Bool
  priority : Option (Coded NoticePriority)
deriving DecidableEq, Repr

/-- One value for each field input. -/
structure Five (α : Type) where
  call : α
  presence : α
  card : α
  door : α
  aux : α
deriving DecidableEq, Repr

/-- What WAKE-CONFIG carries for one field input (R169). -/
structure InputField where
  sense : Option (Coded Sense)
  activity : Option (Coded Bool)
  wake : Option (Coded Bool)
deriving DecidableEq, Repr

/-- What WAKE-CONFIG carries (R169): every field optional. -/
structure WakeFields where
  inputs : Five InputField
  approach : Option (Coded Bool)
  clock : Option (Coded Bool)
  link : Option (Coded Bool)
  returnTime : Option Nat
deriving DecidableEq, Repr

/-- The replies of a panel (Table 8-3). STATE carries the shown toggle, the busy flag and a temperature. -/
inductive PanelAnswer where
  | state (toggle busy : Bool) (temperature : Int)
  | taken
  | busy
  | fault
deriving DecidableEq, Repr

/-- The commands: one constructor per row of spec/opcode_table.json. -/
inductive Instr where
  -- Device and host line (R176 to R178, R187)
  /-- Power is applied; `strap` is the level of BAUDSEL. -/
  | powerOn (strap : Bool)
  | resetnAsserted
  | resetnReleased (strap : Bool)
  /-- A frame with this kind, tag and body has passed the length and CRC checks. -/
  | frameComplete (kind tag : Byte) (body : List Byte)
  | interByteGap
  | replySent
  | hostByteReceived (b : Byte)
  | powerLoss
  -- Device requests and notices (R180 to R184)
  | identify
  | restart
  | clearRetained
  | noticeRead
  | noticeClear (sources : List Nat)
  | noticeConfig (fields : List NoticeField) (doorSense : Option (Coded DoorSense))
  -- Station clock (R4, R8, R12)
  | clockSet (year month day hour minute second : Nat)
  | clockRead
  | clockSecond
  -- Timetable store (R17 to R34)
  | tableOpen (date : Date) (dayType : Coded DayType) (darkUntil darkFrom version : Nat)
  | tableAdd (number : Nat) (direction : Coded Direction) (minute platform : Nat) (calls : List Nat)
  | tableClose
  | tableDrop
  | tablePromote (version : Nat)
  | tableRead (selector : Coded TableSel) (index : Nat)
  | serviceSettings (grace window margin : Option Nat)
  | running (number stamp : Nat) (kind : Coded RunKind) (argument : Int)
  -- Tariff and fare engine (R56 to R72)
  | tariffOpen (version : Nat) (date : Date)
  | tariffStation (code : Nat) (name : Text) (distance : Nat) (side : Coded Direction)
  | tariffRules (rules : Rules)
  | tariffClose
  | tariffRead (selector : Coded TariffSel) (part : Coded TariffPart) (index : Nat)
  | fareTrial (selector : Coded TariffSel) (code : Nat) (ticket : Coded TicketType) (cls quantity : Nat)
      (peak : Coded PeakSel)
  -- Sale controller (R75 to R91)
  | saleQuote (code : Nat) (ticket : Coded TicketType) (cls quantity : Nat) (selector : Coded ServiceSel)
      (service : Option Nat)
  | saleCommit (payment : Coded Payment) (reference : Option Text)
  | salePrinted (serial : Nat) (outcome : Coded PrintOutcome)
  | saleCancel
  | saleStatus
  | salesClose
  | salesOpen
  | saleSettings (kinds : Option (List (Coded Payment))) (types : Option (List (Coded TicketType)))
  | quoteTimerExpiry
  | printTimerExpiry
  -- Sales journal (R101 to R107)
  | journalRead (fromSerial count : Nat)
  | journalRelease (through : Nat)
  | takingsRead
  | journalSettings (low : Option Nat)
  -- Board composer (R111 to R128)
  | panelProfile (address : Nat) (presence : Option (Coded Bool)) (kind : Option (Coded PanelKind))
      (rows : Option Nat) (filter : Option (Coded DirFilter)) (threshold : Option Nat)
  | boardText (id : Nat) (priority : Coded MsgPriority) (lines : List Text) (expiry : Option Nat)
  /-- The id, or `none` for the word ALL. -/
  | boardTextDrop (id : Option Nat)
  /-- The address, or `none` for ALL. -/
  | boardRefresh (address : Option Nat) (urgent : Coded Bool)
  | boardStatus
  | accrualTimerExpiry
  | rotationTimerExpiry
  | serveEntry
  -- Panel line controller (R131 to R144)
  | panelReset (address : Nat)
  | panelStatus
  | probeStart
  | railSettleExpiry
  /-- A reply from the panel at `source`, with whether its check passes. -/
  | panelReply (source : Addr) (checkPasses : Bool) (answer : PanelAnswer)
  | replyWaitExpiry
  | drawingWaitExpiry
  | probeIntervalExpiry
  | retryWaitExpiry
  | unknownReprobeDelay (panel : Addr)
  | offlineProbeTimerExpiry (panel : Addr)
  | coldProbeTimerExpiry (panel : Addr)
  | railIdleExpiry
  -- Energy manager (R146 to R161)
  /-- The level selector, APPROACH being ELA. -/
  | levelTable (selector : Coded Level) (draw rate depth rotation lamp timeout : Option Nat)
  | levelCeiling (value : Option Nat)
  | levelLimit (value : LimitField)
  | supplyCapacity (current : Option Nat)
  | supplyReport (charge : Int)
  | energySettings (quietStart quietEnd raiseSettle dormantSettle : Option Nat)
  | energyStatus
  | raiseSettleExpiry
  | loweringComplete
  | staleTimerExpiry
  -- Activity and wake unit (R164 to R175)
  | activity
  | wakeConfig (fields : WakeFields)
  | wakeStatus
  /-- The filtered level of an input changes to high or low. -/
  | fieldInputEdge (input : FieldInput) (high : Bool)
  | filterInitialLevel (input : FieldInput) (high : Bool)
  | demandTimerExpiry
  | briefEpisodeStart
  | returnTimerExpiry
  | briefEpisodeReturn
deriving DecidableEq, Repr

end Sys2Proof
end

