-- ==== Sys2Proof/Decode.lean ====
section
/-! DEFINITION. The command a word spells by the bits of spec/opcode_table.json. The table gives no row any bits, so no
word spells a command. -/

namespace Sys2Proof

/-- The command whose table bits are `w`: none, since spec/opcode_table.json gives no row fixed bits or fields. -/
def decodeTableWord (_nbits _w : Nat) : Option Instr :=
  none

end Sys2Proof
end

