-- ==== Sys2Proof/Machine/Types.lean ====
section
/-! DEFINITION. The records that State is made of, block by block, and the replies. Plain data throughout. -/

namespace Sys2Proof.Machine

/-! ### Indexed collections -/

/-- One value for each panel address. -/
structure Four (α : Type) where
  p1 : α
  p2 : α
  p3 : α
  p4 : α
deriving DecidableEq, Repr

/-- One value for each energy level. -/
structure PerLevel (α : Type) where
  ela : α
  el0 : α
  el1 : α
  el2 : α
  el3 : α
  el4 : α
  el5 : α
deriving DecidableEq, Repr

/-- One value for each payment kind. -/
structure PerPayment (α : Type) where
  cash : α
  card : α
  voucher : α
deriving DecidableEq, Repr

/-- One value for each ticket type. -/
structure PerTicket (α : Type) where
  single : α
  ret : α
  openSingle : α
  openReturn : α
deriving DecidableEq, Repr

/-! ### Station clock (Chapter 1) -/

/-- What the clock holds in SET (R1). `phase` is the part of the present second already elapsed, in milliseconds. -/
structure ClockSetting where
  date : Date
  tod : Nat
  phase : Nat
  lastStep : Option Int
deriving DecidableEq, Repr

/-- Causes of a rollover event (R7). -/
inductive RolloverCause where
  | count | step | first
deriving DecidableEq, Repr

/-! ### Timetable store (Chapters 2 and 3) -/

/-- A table header (R14). -/
structure Header where
  date : Date
  dayType : DayType
  darkUntil : Nat
  darkFrom : Nat
  version : Nat
deriving DecidableEq, Repr

/-- The planned fields of a service (R15). -/
structure Planned where
  number : Nat
  direction : Direction
  minute : Nat
  platform : Nat
  calls : List Nat
deriving DecidableEq, Repr

/-- The status of a current service (R32). -/
inductive Status where
  | scheduled | delayed | cancelled | departed | lapsed
deriving DecidableEq, Repr

/-- A service of the current table: its planned fields and its seven running fields (R32). -/
structure Service where
  plan : Planned
  status : Status
  delay : Nat
  platform : Nat
  altered : Bool
  stamp : Option Nat
  approach : Bool
  sold : Nat
deriving DecidableEq, Repr

/-- The current table in PRESENT (R13). -/
structure CurrentTable where
  header : Header
  services : List Service
deriving DecidableEq, Repr

/-- The next table in LOADING (`ready` false) or READY (R13). -/
structure NextTable where
  ready : Bool
  header : Header
  records : List Planned
deriving DecidableEq, Repr

/-- The Timetable Store. `current = none` is EMPTY, `next = none` is NONE. -/
structure Tts where
  current : Option CurrentTable
  next : Option NextTable
  grace : Nat
  window : Nat
  margin : Nat
deriving DecidableEq, Repr

/-! ### Tariff and fare engine (Chapter 4) -/

/-- A station of a tariff (R52). -/
structure Station where
  code : Nat
  name : Text
  distance : Nat
  side : Direction
deriving DecidableEq, Repr

/-- A complete tariff, as the active one is (R51). -/
structure Tariff where
  version : Nat
  effective : Date
  stations : List Station
  rules : Rules
deriving DecidableEq, Repr

/-- The pending tariff in LOADING (`ready` false) or READY (R51). -/
structure PendingTariff where
  ready : Bool
  version : Nat
  effective : Date
  stations : List Station
  rules : Option Rules
deriving DecidableEq, Repr

/-- The Tariff and Fare Engine. `active = none` is ABSENT, `pending = none` is NONE. -/
structure Tfe where
  active : Option Tariff
  pending : Option PendingTariff
deriving DecidableEq, Repr

/-- Every stage of a fare, with its flags (R66 to R72). R72 gives the base fare "a flag that tells whether the floor or the
ceiling of stage 2 acted"; the model answers two, one for each. DESIGN CHOICE, log 36. -/
structure FareStages where
  product : Nat
  charge : Nat
  base : Nat
  floorActed : Bool
  ceilingActed : Bool
  typed : Nat
  discounted : Nat
  stepped : Nat
  zeroRaised : Bool
  fare : Nat
  capActed : Bool
  total : Nat
deriving DecidableEq, Repr

/-- A fare result (Table 4-7). -/
structure FareResult where
  name : Text
  side : Direction
  fare : Nat
  total : Nat
  peak : Bool
  version : Nat
deriving DecidableEq, Repr

/-! ### Sale controller (Chapter 5) -/

/-- A bound service: its number and scheduled minute (Table 5-1). -/
structure Bound where
  number : Nat
  minute : Nat
deriving DecidableEq, Repr

/-- A quote (Table 5-1). -/
structure Quote where
  dest : Nat
  name : Text
  side : Direction
  ticket : TicketType
  cls : Nat
  quantity : Nat
  bound : Option Bound
  fare : Nat
  total : Nat
  peak : Bool
  version : Nat
deriving DecidableEq, Repr

/-- A committed sale (Table 5-1). -/
structure Sale where
  quote : Quote
  serial : Nat
  date : Date
  payment : Payment
  reference : Option Text
deriving DecidableEq, Repr

/-- The sale slot (R73). `left` is the milliseconds left on the quote timer or the print timer. -/
inductive Slot where
  | idle
  | quoted (quote : Quote) (left : Nat)
  | printing (sale : Sale) (left : Nat)
deriving DecidableEq, Repr

/-- The state of the slot without its contents. -/
inductive SlotState where
  | idle | quoted | printing
deriving DecidableEq, Repr

/-- Causes of withdrawal (Table 5-3). -/
inductive Withdrawal where
  | expiry | service | tariff | day | level | closed
deriving DecidableEq, Repr

/-- Reasons for sales closed, in their order (Table 5-5). -/
inductive Reason where
  | clock | tariff | journal | level | host | serials
deriving DecidableEq, Repr

/-- The Sale Controller. -/
structure Slc where
  slot : Slot
  kinds : PerPayment Bool
  types : PerTicket Bool
  hostClosed : Bool
  lastReason : Option Withdrawal
deriving DecidableEq, Repr

/-! ### Sales journal (Chapter 6) -/

/-- Kinds of a journal record (R95). -/
inductive RecordKind where
  | issued | spoiled | unconfirmed
deriving DecidableEq, Repr

/-- A journal record (Table 6-2). -/
structure JRecord where
  serial : Nat
  kind : RecordKind
  date : Date
  completion : Option Nat
  dest : Nat
  ticket : TicketType
  cls : Nat
  quantity : Nat
  bound : Option Nat
  total : Nat
  payment : Payment
  reference : Option Text
  version : Nat
  handed : Bool
deriving DecidableEq, Repr

/-- The standing of a serial below the next serial (R84, R105). -/
inductive Standing where
  | kind (k : RecordKind)
  | released
deriving DecidableEq, Repr

/-- The Sales Journal; `records` from the oldest. -/
structure Sjn where
  records : List JRecord
  reserved : Bool
  next : Nat
  released : Nat
  lifetime : PerPayment Nat
  handedBack : PerPayment Nat
  low : Nat
  lowArmed : Bool
  fullArmed : Bool
deriving DecidableEq, Repr

/-! ### Board composer (Chapter 7) -/

/-- A row of a DEPARTURES page (R110, R114). The platform field is a digit and a change marker, or empty. -/
structure DepartureRow where
  time : Text
  destination : Text
  platform : Option (Nat × Bool)
  status : Text
deriving DecidableEq, Repr

/-- A page (R110). -/
inductive Page where
  | departures (rows : List DepartureRow)
  | messages (rows : List Text)
  | sales (rows : List Text)
deriving DecidableEq, Repr

/-- A panel profile (R111). -/
structure Profile where
  isPresent : Bool
  kind : PanelKind
  rows : Nat
  filter : DirFilter
  threshold : Nat
deriving DecidableEq, Repr

/-- A host message (R115). -/
structure HostEntry where
  id : Nat
  priority : MsgPriority
  lines : List Text
  expiry : Option Nat
  arrival : Nat
deriving DecidableEq, Repr

/-- An automatic message (R117). -/
structure AutoEntry where
  service : Nat
  minute : Nat
  terminus : Nat
  arrival : Nat
deriving DecidableEq, Repr

/-- An entry of the refresh queue (R120). -/
structure QueueEntry where
  panel : Addr
  urgent : Bool
deriving DecidableEq, Repr

/-- The Board Composer. Timers in milliseconds; `position` names an entry by its arrival number (log 18);
`sales` is the last sales event: `none` open, `some r` closed with first reason `r`. -/
structure Bdc where
  profiles : Four Profile
  host : List HostEntry
  auto : List AutoEntry
  arrivals : Nat
  composed : Four (Option Page)
  queue : List QueueEntry
  credit : Nat
  accrual : Option Nat
  position : Option Nat
  rotation : Option Nat
  lamp : Nat
  sales : Option Reason
deriving DecidableEq, Repr

/-! ### Panel line controller (Chapter 8) -/

/-- Link states of a panel (R130). -/
inductive LinkState where
  | absent | unknown | ready | refreshing | cold | offline | faulted
deriving DecidableEq, Repr

/-- The record of a panel (Table 8-1); `none` in a toggle or in the shown page is "unknown". `probeTimer` counts
milliseconds toward a probe: the offline probe, the cold probe or the re-probe of an UNKNOWN panel (log 17). -/
structure PanelRecord where
  link : LinkState
  shown : Option Bool
  next : Option Bool
  page : Option Page
  temperature : Option Int
  attempts : Nat
  silences : Nat
  probeDue : Bool
  probeTimer : Option Nat
deriving DecidableEq, Repr

/-- What a refresh in flight carries (R133, R134): the page, the toggle of the present attempt, whether a SHOW of it was
answered TAKEN, the drawing duration in seconds and the probes sent in the present attempt. -/
structure Refresh where
  page : Page
  toggle : Option Bool
  credited : Bool
  duration : Nat
  probes : Nat
deriving DecidableEq, Repr

/-- What a transaction does (R132). -/
inductive Work where
  | probe
  | refresh (r : Refresh)
deriving DecidableEq, Repr

/-- Where a transaction stands (R144). In `load`, `show` and `probing` a frame is on the line; `settle` waits for the
rail, `drawing`, `interval` and `retry` wait the milliseconds they hold. `probing` holds the milliseconds to the next
PROBE's time, 500 ms after the sending of the one on the line (R134). -/
inductive LinePhase where
  | settle
  | load
  | show
  | drawing (left : Nat)
  | probing (left : Nat)
  | interval (left : Nat)
  | retry (left : Nat)
deriving DecidableEq, Repr

/-- A transaction in flight (R132). `discarded` marks one whose panel became ABSENT with a frame on the line (R137). -/
structure Transaction where
  panel : Addr
  work : Work
  phase : LinePhase
  discarded : Bool
deriving DecidableEq, Repr

/-- Rail modes (R143). -/
inductive RailMode where
  | always | gated | off
deriving DecidableEq, Repr

/-- Rail states (R143); SETTLING holds the milliseconds left. -/
inductive Rail where
  | off
  | settling (left : Nat)
  | on
deriving DecidableEq, Repr

/-- The state of the rail without the time left. -/
inductive RailState where
  | off | settling | on
deriving DecidableEq, Repr

/-- The Panel Line Controller. -/
structure Plc where
  panels : Four PanelRecord
  line : Option Transaction
  cold : Bool
  mode : RailMode
  rail : Rail
  idle : Option Nat
  railLevel : Level
deriving DecidableEq, Repr

/-! ### Energy manager (Chapter 9) -/

/-- An entry of the level table (Table 9-2). ELA and EL5 carry no demand timeout. -/
structure LevelEntry where
  draw : Nat
  rate : Nat
  depth : Nat
  rotation : Nat
  lamp : Nat
  timeout : Option Nat
deriving DecidableEq, Repr

/-- The phase of the level transition with its destination (R156 to R158); RAISE-SETTLE holds the milliseconds left. -/
inductive Transition where
  | none
  | raising (dest : Level) (left : Nat)
  | lowering (dest : Level)
deriving DecidableEq, Repr

/-- The Energy Manager (Table 9-1). A limit that is `none` is inactive. -/
structure Enm where
  table : PerLevel LevelEntry
  capacity : Nat
  ceiling : Level
  effective : Level
  quietStart : Nat
  quietEnd : Nat
  raiseSettle : Nat
  dormantSettle : Nat
  battery : Option Level
  charge : Option Nat
  stale : Bool
  staleTimer : Option Nat
  coldLimit : Option Level
  quietLimit : Option Level
  hostLimit : Option Level
  present : Level
  target : Level
  previous : Option Level
  transition : Transition
  draw : Nat
deriving DecidableEq, Repr

/-! ### Activity and wake unit (Chapter 10) -/

/-- The demand timer (R164, R166), in milliseconds. -/
inductive DemandTimer where
  | stopped | held
  | running (left : Nat)
deriving DecidableEq, Repr

/-- Edges of a filtered level (R168). -/
inductive Edge where
  | rising | falling
deriving DecidableEq, Repr

/-- The configuration of a field input (R169). -/
structure InputConfig where
  sense : Sense
  activity : Bool
  wake : Bool
deriving DecidableEq, Repr

/-- The wake configuration (Table 10-2); the return time in seconds. -/
structure WakeConfig where
  inputs : Five InputConfig
  approach : Bool
  clock : Bool
  link : Bool
  returnTime : Nat
deriving DecidableEq, Repr

/-- The CALL re-wake lock when set: the active level, and whether the other level was seen since (R171). -/
structure CallLock where
  active : Bool
  otherSeen : Bool
deriving DecidableEq, Repr

/-- Sources of a woke record (R170, R175). -/
inductive WokeSource where
  | restart | field (input : FieldInput) | approach | clock | link
deriving DecidableEq, Repr

/-- A woke record (R170). -/
structure Woke where
  source : WokeSource
  edge : Option Edge
  minute : Option Nat
deriving DecidableEq, Repr

/-- The return timer of a brief episode (R174), in milliseconds; `expired` until the episode ends. -/
inductive ReturnTimer where
  | stopped | expired
  | running (left : Nat)
deriving DecidableEq, Repr

/-- The Activity and Wake Unit (Table 10-1). `urgent` is the urgent-entry condition as last reported (R126). -/
structure Awu where
  demand : Level
  timer : DemandTimer
  filtered : Five (Option Bool)
  config : WakeConfig
  lock : Option CallLock
  woke : Option Woke
  wokeFlags : Five Bool
  brief : Bool
  returnTimer : ReturnTimer
  urgent : Bool
deriving DecidableEq, Repr

/-! ### Host link (Chapter 11) -/

/-- Notice sources (Table 11-4). -/
inductive Source where
  | supplyCritical | doorOpen | printTimeout | journalFull | panelFault | journalLow | quoteWithdrawn | panelOffline
  | panelBack | panelCold | levelChanged | limitChanged | woke | supplyStale | dayRollover | noTimetable
deriving DecidableEq, Repr

/-- A notice source's flags and configuration (R182, R184). -/
structure Notice where
  pending : Bool
  seen : Bool
  enable : Bool
  priority : NoticePriority
deriving DecidableEq, Repr

/-- The cause of a minute event (R6). -/
inductive MinuteCause where
  | count | set
deriving DecidableEq, Repr

/-- A minute event (R6): the present service date and service minute, and the cause. -/
structure MinuteEvent where
  date : Date
  minute : Nat
  cause : MinuteCause
deriving DecidableEq, Repr

/-- A rollover event (R7): the date entered, the date left, absent when the clock was UNSET before, and the cause. -/
structure RolloverEvent where
  entered : Date
  left : Option Date
  cause : RolloverCause
deriving DecidableEq, Repr

/-- The DAY-ROLLOVER record (R185). -/
structure DayRecord where
  date : Date
  cause : RolloverCause
  tariff : Option Nat
deriving DecidableEq, Repr

/-- The receiver of the host line (R177): hunting, or in a frame with the bytes after its start byte. -/
inductive Receiver where
  | hunting
  | inFrame (bytes : List Byte)
deriving DecidableEq, Repr

/-- A complete frame (R177). -/
structure Frame where
  kind : Byte
  tag : Byte
  body : List Byte
deriving DecidableEq, Repr

/-- What waits while a reply is being sent: a complete frame as its bytes (R178), or a request row of the table, which is
such a frame with tag 0 (log 1). -/
inductive Arrival where
  | frame (f : Frame)
  | request (c : Instr)
deriving DecidableEq, Repr

/-- Reply statuses (Table 11-2). -/
inductive ReplyStatus where
  | done | malformed | unknownKind | range | busy | closed | full | late | noneLeft | notReady | unknown
deriving DecidableEq, Repr

/-- Refusal details (Table 11-2). -/
inductive Detail where
  | none | field | backward | tooFar | list | duplicate | date | version | stations | rules | bands | floor | step
  | ceiling | window | cls | station | service | ticketType | binding | payment | handed | beyond | expired | panel
deriving DecidableEq, Repr

/-- Outcomes of a running message (R35). -/
inductive RunOutcome where
  | applied | stale | final
deriving DecidableEq, Repr

/-- The clock fields of a reply in SET (Table 1-4). -/
structure ClockFields where
  date : Date
  tod : Nat
  minute : Nat
  localDate : Date
  hour : Nat
  localMinute : Nat
  second : Nat
  lastStep : Option Int
deriving DecidableEq, Repr

/-- The state of a table or tariff in a reply: EMPTY or PRESENT for the current table, ABSENT or PRESENT for the active
tariff, NONE, LOADING or READY for the next table and the pending tariff (R13, R51). -/
inductive LoadState where
  | empty | absent | none | loading | ready | present
deriving DecidableEq, Repr

/-- A record read from a table (R26). -/
inductive TableRecord where
  | planned (p : Planned)
  | current (s : Service)
deriving DecidableEq, Repr

/-- What TARIFF-READ's SUMMARY carries of a tariff that has a heading (R62). -/
structure TariffHeading where
  version : Nat
  effective : Date
  stations : Nat
  hasRules : Bool
deriving DecidableEq, Repr

/-- A ticket record (Table 5-4, Table 11-8). -/
structure Ticket where
  serial : Nat
  date : Date
  ticket : TicketType
  cls : Nat
  quantity : Nat
  dest : Nat
  name : Text
  bound : Option Bound
  fare : Nat
  total : Nat
  peak : Bool
  version : Nat
deriving DecidableEq, Repr

/-- The slot as SALE-STATUS returns it (R91); the timers in seconds. -/
inductive SlotReport where
  | idle
  | quoted (quote : Quote) (seconds : Nat)
  | printing (ticket : Ticket) (payment : Payment) (reference : Option Text) (seconds : Nat)
deriving DecidableEq, Repr

/-- A notice as NOTICE-READ returns it (R183). -/
structure NoticeReport where
  number : Nat
  priority : NoticePriority
  enable : Bool
deriving DecidableEq, Repr

/-- The configuration of a notice source as NOTICE-CONFIG returns it (R184). -/
structure NoticeSetting where
  number : Nat
  enable : Bool
  priority : NoticePriority
deriving DecidableEq, Repr

/-- A displayable message in BOARD-STATUS (R128). -/
inductive MessageReport where
  | host (id : Nat) (priority : MsgPriority) (expiry : Option Nat) (arrival : Nat)
  | auto (service minute : Nat)
deriving DecidableEq, Repr

/-- A panel in PANEL-STATUS (R144). -/
structure PanelReport where
  link : LinkState
  shown : Option Bool
  next : Option Bool
  pageKnown : Bool
  temperature : Option Int
  silences : Nat
  probeDue : Bool
  timerSeconds : Option Nat
deriving DecidableEq, Repr

/-- Phases of a refresh as PANEL-STATUS names them (R144). -/
inductive PhaseName where
  | settle | load | show | drawing | probing | retryWait
deriving DecidableEq, Repr

/-- The transaction in flight in PANEL-STATUS (R144). -/
inductive LineReport where
  | free
  | probe (panel : Addr)
  | refresh (panel : Addr) (attempts : Nat) (phase : PhaseName)
deriving DecidableEq, Repr

/-- A level in the host's numbering, with the approach flag (R161, 0.4.6). -/
structure HostLevel where
  number : Nat
  approach : Bool
deriving DecidableEq, Repr

/-- The phase in ENERGY-STATUS (R161). -/
inductive EnergyPhase where
  | none
  | raiseSettle (dest : HostLevel) (milliseconds : Nat)
  | lowerDrain (dest : HostLevel) (waitsLine waitsSlot : Bool)
deriving DecidableEq, Repr

/-- ENERGY-STATUS (R161). -/
structure EnergyReport where
  present : HostLevel
  brief : Bool
  target : HostLevel
  phase : EnergyPhase
  previous : Option HostLevel
  ceiling : Level
  effective : Level
  demand : Level
  battery : Option Level
  cold : Option Level
  quiet : Option Level
  host : Option Level
  charge : Option Nat
  stale : Bool
  staleSeconds : Option Nat
  enabled : PerLevel Bool
  capacity : Nat
  draw : Nat
deriving DecidableEq, Repr

/-- The demand timer in a reply: running with seconds left, held, or stopped (R172). -/
inductive TimerReport where
  | stopped | held
  | running (seconds : Nat)
deriving DecidableEq, Repr

/-- WAKE-STATUS (R172); the CALL lock is clear, or set with its active level (Table 10-1). -/
structure WakeReport where
  woke : Option Woke
  flags : Five Bool
  filtered : Five Bool
  lock : Option Bool
  demand : Level
  timer : TimerReport
  brief : Bool
  returnSeconds : Option Nat
deriving DecidableEq, Repr

/-- TAKINGS-READ's figures for one payment kind (R107). -/
structure TakingsReport where
  lifetime : Nat
  released : Nat
  outstanding : Nat
deriving DecidableEq, Repr

/-- The fields that follow the status and detail of a reply (each owner's rule). -/
inductive ReplyBody where
  | nothing
  | identity (vendor part : Text) (revision services calls stations records panels messages autos body frames : Nat)
  | clearBusy (records : Nat) (reserved : Bool) (slot : SlotState)
  | notices (pending : List NoticeReport) (day : Option DayRecord)
  | noticesCleared (cleared left : List Nat)
  | noticeSettings (settings : List NoticeSetting) (doorSense : DoorSense)
  | clock (fields : Option ClockFields)
  | clockPlaced (fields : Option ClockFields) (rollover : Bool)
  | header (h : Header)
  | inserted (index count : Nat)
  | tableClosed (date : Date) (version count : Nat)
  | tableDropped (was : LoadState) (count : Nat)
  | promoted (date : Date) (version count : Nat)
  | tableRead (state : LoadState) (header : Option Header) (count : Nat) (record : Option TableRecord)
  | serviceSettings (grace window margin : Nat)
  | running (outcome : RunOutcome) (service : Service) (expected : Nat) (clamped : Option Bool)
  | heading (version : Nat) (effective : Date)
  | tariffClosed (activated : Bool) (version : Nat) (effective : Option Date) (stations : Nat)
  | tariffSummary (state : LoadState) (heading : Option TariffHeading)
  | station (s : Station)
  | noStation (state : LoadState) (stations : Nat)
  | rules (r : Rules)
  | noRules (state : LoadState)
  | trial (result : FareResult) (stages : FareStages)
  | reasons (reasons : List Reason)
  | salesState (isOpen : Bool) (reasons : List Reason)
  | quoted (quote : Quote) (seconds : Nat) (service : Option (Nat × Nat))
  | ticket (t : Ticket)
  | concluded (serial : Nat) (kind : RecordKind)
  | standing (s : Option Standing)
  | slot (s : SlotState)
  | saleStatus (slot : SlotReport) (isOpen : Bool) (reasons : List Reason) (first : Option Reason) (hostClosed : Bool)
      (last : Option Withdrawal)
  | saleSettings (kinds : PerPayment Bool) (types : PerTicket Bool)
  | records (returned : List JRecord) (newest : Option Nat) (count : Nat)
  | noRecords (newest : Option Nat) (count : Nat)
  | released (removed : Nat) (sums : PerPayment Nat) (through : Nat) (records free : Nat)
  | releaseRefused (serial : Option Nat) (through : Nat) (records free : Nat)
  | takings (kinds : PerPayment TakingsReport) (next through records : Nat) (oldest newest : Option Nat)
      (notHanded issued spoiled unconfirmed : Nat) (reserved : Bool) (free low : Nat) (lowArmed fullArmed : Bool)
  | journalSettings (low free : Nat) (lowArmed fullArmed : Bool)
  | profile (p : Profile) (clamped : Bool)
  | message (replaced : Bool) (dropped : Option Nat) (count : Nat)
  | removed (count : Nat)
  | queue (entries : List QueueEntry)
  | boardStatus (credit depth rate : Nat) (accrualSeconds : Option Nat) (serving : Level) (queue : List QueueEntry)
      (urgent : Bool) (composed : Four (Bool × Bool)) (messages : List MessageReport) (position rotationSeconds : Option Nat)
      (lamp : Nat)
  | link (was : LinkState)
  | panelStatus (mode : RailMode) (rail : RailState) (idleSeconds : Option Nat) (line : LineReport) (cold : Bool)
      (panels : Four PanelReport)
  | levelEntry (entry : LevelEntry) (clamped : Bool)
  | ceiling (written effective : Level)
  | limit (host : Option Level) (target : HostLevel)
  | capacity (current : Nat) (enabled : PerLevel Bool)
  | supply (charge : Nat) (battery : Option Level) (target : HostLevel)
  | energySettings (quietStart quietEnd raiseSettle dormantSettle : Nat)
  | energyStatus (report : EnergyReport)
  | activity (demand : Level) (seconds : Option Nat)
  | wakeConfig (config : WakeConfig)
  | wakeStatus (report : WakeReport)
deriving DecidableEq, Repr

/-- A field that R179 gives no bytes for: a value of a list that the owner's rule names, as a code; a set of such values; the
length of a list whose rule does not carry it; a date that is no service date; a field that is absent. -/
inductive OpenField where
  | coded (code : Int)
  | set (codes : List Int)
  | count (n : Nat)
  | calendar (d : Date)
  | absent
deriving DecidableEq, Repr

/-- A field of a body: a number, signed or not, a string or a service date, whose bytes R179 gives, or an open one. -/
inductive Field where
  | number (n : Nat)
  | signed (n : Int)
  | text (t : Text)
  | date (d : Date)
  | other (f : OpenField)
deriving DecidableEq, Repr

/-- An owner's answer to a request: status, refusal detail and fields (R179). -/
structure Answer where
  status : ReplyStatus
  detail : Detail
  body : ReplyBody
deriving DecidableEq, Repr

/-- A reply on its way (R179). -/
structure Reply where
  kind : Byte
  tag : Byte
  answer : Answer
deriving DecidableEq, Repr

/-- The Host Link. -/
structure Hlk where
  receiver : Receiver
  waiting : List Arrival
  reply : Option Reply
  restartDue : Bool
  notices : List Notice
  doorSense : DoorSense
  day : Option DayRecord
  hold : Bool
  fastLine : Bool
deriving DecidableEq, Repr

/-- Whether the part is powered, held inactive by RESETN, unpowered, or unpowered while RESETN is held low (R176, R187). -/
inductive Power where
  | on | held | off | offHeld
deriving DecidableEq, Repr

end Sys2Proof.Machine
end

