-- ==== Sys2Proof/Config.lean ====
section
/-! DEFINITION. What the manual leaves open, as constants without a body: nothing can be proved of their values. -/

namespace Sys2Proof.Config

/-- The request that a body of this kind spells, where Section 11.8 lays out no body for the kind; it counts only where
the fields of the request, written as R179 has them, are that body. UNSPECIFIED BY THE SPEC: log 3. -/
opaque bodyForm (kind : Byte) (body : List Byte) : Option Instr

/-- At the `n`-th rollover that both withdraws a quote and activates a tariff, whether the rollover reaches the sale
slot before the tariff event ("Either may be taken first", R61). Log 8. -/
opaque dayFirst (n : Nat) : Bool

/-- Whether a remaining time of `ms` milliseconds that is no whole number of seconds is reported rounded up; no rule
says. Log 10. -/
opaque roundsUp (ms : Nat) : Bool

/-- The level WAKE-STATUS reports for an input whose filtered level has not been taken since the restart; no rule says
(R168, R172). Log 13. -/
opaque levelBeforeTaking (input : FieldInput) : Bool

/-- The level of the BAUDSEL strap when the restart of a RESTART request samples it: the strap is an input of the part
that no command carries there (R176). Log 12. -/
opaque strapAt (n : Nat) : Bool

/-- The drawing duration in seconds for a last temperature that Table 8-4 has no row for: below −15, or absent (R134).
Log 32. -/
opaque openDrawing (temperature : Option Int) : Nat

/-- The completion time of a sale that is concluded while the clock stands on a date before the sale's: R86 names the
sale's date, the next, UNSET and further on. Log 37. -/
opaque openCompletion (sale now : Date) (timeOfDay : Nat) : Option Nat

/-- The code of the negative number −1 − n in so many bytes: R179 gives the order of its bytes, no rule its code. Log 22. -/
opaque negativeCode (width n : Nat) : Nat

/-- The bytes that a number takes at a place of a body of this kind, requests and replies alike, where Section 11.8 lays out
no body (R179). Log 22. -/
opaque numberWidth (kind : Byte) (place : Nat) : Nat

/-- The bytes of a field that R179 gives no coding for, at a place of a body of this kind. Log 22. -/
opaque openBytes (kind : Byte) (place : Nat) (field : Machine.OpenField) : List Byte

/-- The bytes before the fields of a body of this kind that tell which of its fields are present, where it has any such
bytes. Log 22. -/
opaque presenceBytes (kind : Byte) (isPresent : List Bool) : List Byte

end Sys2Proof.Config
end

