-- ==== Sys2Proof/Machine/State.lean ====
section
/-! DEFINITION. State, what can stop a step, and the state after reset. -/

namespace Sys2Proof.Machine

/-- Everything the spec gives the part, block by block (0.3), and two fields of the model's own: `free`, a counter the
free choices are drawn with (log 8), and `pending`, the commands that wait, oldest first. -/
structure State where
  /-- `none` is UNSET (R1). -/
  clock : Option ClockSetting
  tts : Tts
  tfe : Tfe
  slc : Slc
  sjn : Sjn
  bdc : Bdc
  plc : Plc
  enm : Enm
  awu : Awu
  hlk : Hlk
  /-- The level of the BAUDSEL strap (R176). -/
  strap : Bool
  power : Power
  free : Nat
  pending : List Instr
deriving DecidableEq, Repr

/-- Faults. The spec stops the part nowhere (INVENTORY.md, Faults), so there is none: no meaning raises a fault, and
nothing is lost by it (safe). -/
inductive Fault where
deriving DecidableEq, Repr

/-- Refusals. -/
inductive Refusal where
  /-- A command without a meaning. Raised by no arm of `exec`: every command of the table has its meaning (safe). -/
  | notModelled (mnemonic : String)
deriving DecidableEq, Repr

/-- Defaults of the level table (Table 9-2). -/
def defaultLevelTable : PerLevel LevelEntry where
  ela := ⟨900, 120, 10, 60, 100, none⟩
  el0 := ⟨700, 60, 8, 120, 80, some 120⟩
  el1 := ⟨450, 30, 6, 300, 60, some 300⟩
  el2 := ⟨250, 12, 4, 0, 40, some 900⟩
  el3 := ⟨120, 4, 2, 0, 20, some 1800⟩
  el4 := ⟨40, 1, 1, 0, 0, some 3600⟩
  el5 := ⟨8, 0, 0, 0, 0, none⟩

/-- Default profile of a panel (Table 7-1). -/
def defaultProfile : Profile := ⟨false, .departures, 4, .all, 2⟩

/-- Defaults of the wake configuration (Table 10-2). -/
def defaultWakeConfig : WakeConfig where
  inputs := ⟨⟨.falling, true, true⟩, ⟨.never, false, false⟩, ⟨.never, false, false⟩, ⟨.never, false, false⟩,
    ⟨.never, false, false⟩⟩
  approach := false
  clock := false
  link := false
  returnTime := 120

/-- The record of an ABSENT panel: every other field absent or 0 (R130). -/
def absentPanel : PanelRecord := ⟨.absent, none, none, none, none, 0, 0, false, none⟩

/-- A notice source with its default enable, nothing pending (R184). -/
def quietNotice (p : NoticePriority) : Notice := ⟨false, false, true, p⟩

/-- The sixteen sources with the default configuration of Table 11-4, nothing pending. -/
def defaultNotices : List Notice :=
  List.replicate 5 (quietNotice .high) ++ List.replicate 11 (quietNotice .low)

/-- A value repeated for every panel. -/
def Four.all {α : Type} (a : α) : Four α := ⟨a, a, a, a⟩

/-- The part right after a power-on with the retained store at its defaults (R162, R175, R176, R182; log 11). The restart
has raised WOKE (R175) and NO-TIMETABLE (R25) and started the raise from EL4 to EL2 (R162). -/
def State.reset : State where
  clock := none
  tts := ⟨none, none, 5, 4, 2⟩
  tfe := ⟨none, none⟩
  slc := ⟨.idle, ⟨true, true, true⟩, ⟨true, true, true, true⟩, false, none⟩
  sjn := ⟨[], false, 1, 0, ⟨0, 0, 0⟩, ⟨0, 0, 0⟩, 64, true, true⟩
  bdc :=
    { profiles := .all defaultProfile, host := [], auto := [], arrivals := 0, composed := .all none, queue := [],
      credit := 0, accrual := some 3600000, position := none, rotation := none, lamp := 0, sales := some .clock }
  plc :=
    { panels := .all absentPanel, line := none, cold := false, mode := .gated, rail := .off, idle := none,
      railLevel := .el2 }
  enm :=
    { table := defaultLevelTable, capacity := 5000, ceiling := .el1, effective := .el1, quietStart := 0, quietEnd := 0,
      raiseSettle := 200, dormantSettle := 800, battery := some .el2, charge := none, stale := true,
      staleTimer := some 900000, coldLimit := none, quietLimit := none, hostLimit := none, present := .el4,
      target := .el2, previous := none, transition := .raising .el2 200, draw := 250 }
  awu :=
    { demand := .el1, timer := .running 300000, filtered := ⟨none, none, none, none, none⟩, config := defaultWakeConfig,
      lock := none, woke := some ⟨.restart, none, none⟩, wokeFlags := ⟨false, false, false, false, false⟩,
      brief := false, returnTimer := .stopped, urgent := false }
  hlk :=
    { receiver := .hunting, waiting := [], reply := none, restartDue := false,
      notices := (defaultNotices.set 12 ⟨true, false, true, .low⟩).set 15 ⟨true, false, true, .low⟩,
      doorSense := .edge, day := none, hold := true, fastLine := false }
  strap := false
  power := .on
  free := 0
  pending := []

end Sys2Proof.Machine
end

