-- ==== Sys2Proof/Machine/Ops.lean ====
section
/-! DEFINITION. Indexed collections, levels, the calendar, the clock's derivations and the timers' reported seconds. -/

namespace Sys2Proof.Machine

/-! ### Indexed collections -/

/-- The value of a panel address. -/
def Four.get {α : Type} (f : Four α) : Addr → α
  | .p1 => f.p1
  | .p2 => f.p2
  | .p3 => f.p3
  | .p4 => f.p4

/-- The collection with the value of one panel address replaced. -/
def Four.set {α : Type} (f : Four α) (a : Addr) (v : α) : Four α :=
  match a with
  | .p1 => { f with p1 := v }
  | .p2 => { f with p2 := v }
  | .p3 => { f with p3 := v }
  | .p4 => { f with p4 := v }

/-- A function applied at every panel address. -/
def Four.map {α β : Type} (g : α → β) (f : Four α) : Four β := ⟨g f.p1, g f.p2, g f.p3, g f.p4⟩

/-- The panel addresses in ascending order. -/
def allPanels : List Addr := [.p1, .p2, .p3, .p4]

/-- The panel a request's address names, 1 to 4 (R111). -/
def panelOf : Nat → Option Addr
  | 1 => some .p1
  | 2 => some .p2
  | 3 => some .p3
  | 4 => some .p4
  | _ => none

/-- The value of an energy level. -/
def PerLevel.get {α : Type} (p : PerLevel α) : Level → α
  | .ela => p.ela
  | .el0 => p.el0
  | .el1 => p.el1
  | .el2 => p.el2
  | .el3 => p.el3
  | .el4 => p.el4
  | .el5 => p.el5

/-- The collection with the value of one level replaced. -/
def PerLevel.set {α : Type} (p : PerLevel α) (l : Level) (v : α) : PerLevel α :=
  match l with
  | .ela => { p with ela := v }
  | .el0 => { p with el0 := v }
  | .el1 => { p with el1 := v }
  | .el2 => { p with el2 := v }
  | .el3 => { p with el3 := v }
  | .el4 => { p with el4 := v }
  | .el5 => { p with el5 := v }

/-- The value of a payment kind. -/
def PerPayment.get {α : Type} (p : PerPayment α) : Payment → α
  | .cash => p.cash
  | .card => p.card
  | .voucher => p.voucher

/-- The collection with the value of one payment kind replaced. -/
def PerPayment.set {α : Type} (p : PerPayment α) (k : Payment) (v : α) : PerPayment α :=
  match k with
  | .cash => { p with cash := v }
  | .card => { p with card := v }
  | .voucher => { p with voucher := v }

/-- A function applied at every payment kind, knowing the kind. -/
def PerPayment.build {β : Type} (g : Payment → β) : PerPayment β := ⟨g .cash, g .card, g .voucher⟩

/-- The value of a ticket type. -/
def PerTicket.get {α : Type} (p : PerTicket α) : TicketType → α
  | .single => p.single
  | .ret => p.ret
  | .openSingle => p.openSingle
  | .openReturn => p.openReturn

/-- The value of a field input. -/
def fiveGet {α : Type} (p : Five α) : FieldInput → α
  | .call => p.call
  | .presence => p.presence
  | .card => p.card
  | .door => p.door
  | .aux => p.aux

/-- The collection with the value of one field input replaced. -/
def fiveSet {α : Type} (p : Five α) (i : FieldInput) (v : α) : Five α :=
  match i with
  | .call => { p with call := v }
  | .presence => { p with presence := v }
  | .card => { p with card := v }
  | .door => { p with door := v }
  | .aux => { p with aux := v }

/-- The elements in an order: each inserted before the first that `before` does not put ahead of it. -/
def insertOrdered {α : Type} (before : α → α → Bool) (a : α) : List α → List α
  | [] => [a]
  | b :: l => if before b a then b :: insertOrdered before a l else a :: b :: l

/-- The list sorted by `before`, equal elements in their order of appearance when `before a a` holds. -/
def sortBy {α : Type} (before : α → α → Bool) (l : List α) : List α :=
  l.foldl (fun acc a => insertOrdered before a acc) []

/-! ### Levels (0.4.6) -/

/-- Place of a level from highest performance (0) to lowest (6). -/
def levelRank : Level → Nat
  | .ela => 0
  | .el0 => 1
  | .el1 => 2
  | .el2 => 3
  | .el3 => 4
  | .el4 => 5
  | .el5 => 6

/-- The one of two levels of lower performance. -/
def lowerOf (a b : Level) : Level := if levelRank a ≤ levelRank b then b else a

/-- A level with the levels below it, downward. -/
def levelsFrom : Level → List Level
  | .ela => [.ela, .el0, .el1, .el2, .el3, .el4, .el5]
  | .el0 => [.el0, .el1, .el2, .el3, .el4, .el5]
  | .el1 => [.el1, .el2, .el3, .el4, .el5]
  | .el2 => [.el2, .el3, .el4, .el5]
  | .el3 => [.el3, .el4, .el5]
  | .el4 => [.el4, .el5]
  | .el5 => [.el5]

/-- The level one step lower; EL5 is the lowest. -/
def levelDown : Level → Level
  | .ela => .el0
  | .el0 => .el1
  | .el1 => .el2
  | .el2 => .el3
  | .el3 => .el4
  | .el4 => .el5
  | .el5 => .el5

/-- The level the host numbers 0 to 5. -/
def levelOf : Nat → Option Level
  | 0 => some .el0
  | 1 => some .el1
  | 2 => some .el2
  | 3 => some .el3
  | 4 => some .el4
  | 5 => some .el5
  | _ => none

/-- A level in the host's numbering: ELA is 0 with the approach flag set. -/
def hostLevel : Level → HostLevel
  | .ela => ⟨0, true⟩
  | .el0 => ⟨0, false⟩
  | .el1 => ⟨1, false⟩
  | .el2 => ⟨2, false⟩
  | .el3 => ⟨3, false⟩
  | .el4 => ⟨4, false⟩
  | .el5 => ⟨5, false⟩

/-- EL4 or EL5: Standby or Dormant. -/
def resting : Level → Bool
  | .el4 => true
  | .el5 => true
  | _ => false

/-! ### The calendar (R3) -/

/-- Years of 29 February: those divisible by 4, but 2100, which the Gregorian calendar excepts. -/
def leapYear (y : Nat) : Bool := y % 4 == 0 && y != 2100

/-- Days of a month. -/
def daysInMonth (y m : Nat) : Nat :=
  match m with
  | 2 => if leapYear y then 29 else 28
  | 4 => 30
  | 6 => 30
  | 9 => 30
  | 11 => 30
  | _ => 31

/-- A date of the calendar. -/
def realDate (d : Date) : Bool :=
  decide (1 ≤ d.month) && decide (d.month ≤ 12) && decide (1 ≤ d.day) && decide (d.day ≤ daysInMonth d.year d.month)

/-- A service date within the span of R3. -/
def inSpan (d : Date) : Bool := realDate d && decide (2000 ≤ d.year) && decide (d.year ≤ 2099)

/-- The last service date. -/
def lastDate : Date := ⟨2099, 12, 31⟩

/-- The next calendar date. -/
def nextDate (d : Date) : Date :=
  if d.day < daysInMonth d.year d.month then ⟨d.year, d.month, d.day + 1⟩
  else if d.month < 12 then ⟨d.year, d.month + 1, 1⟩
  else ⟨d.year + 1, 1, 1⟩

/-- The calendar date before. -/
def prevDate (d : Date) : Date :=
  if 1 < d.day then ⟨d.year, d.month, d.day - 1⟩
  else if 1 < d.month then ⟨d.year, d.month - 1, daysInMonth d.year (d.month - 1)⟩
  else ⟨d.year - 1, 12, 31⟩

/-- Earlier in the calendar. -/
def dateBefore (a b : Date) : Bool :=
  decide (a.year < b.year) ||
    (a.year == b.year && (decide (a.month < b.month) || (a.month == b.month && decide (a.day < b.day))))

/-- On or before. -/
def dateUpTo (a b : Date) : Bool := !dateBefore b a

/-- Days of the year before a month. -/
def daysBeforeMonth (y : Nat) : Nat → Nat
  | 0 => 0
  | 1 => 0
  | m + 2 => daysBeforeMonth y (m + 1) + daysInMonth y (m + 1)

/-- Days from 1 January 2000 to a date. -/
def dayNumber (d : Date) : Nat :=
  365 * (d.year - 2000) + (d.year - 2000 + 3) / 4 + daysBeforeMonth d.year d.month + (d.day - 1)

/-! ### Clock positions (R2) -/

/-- A local date and local seconds since midnight as a service date and time of day. -/
def clockPosition (d : Date) (localSeconds : Nat) : Date × Nat :=
  if 10800 ≤ localSeconds then (d, localSeconds - 10800) else (prevDate d, localSeconds + 75600)

/-- The inverse: a service date and time of day as a local date and local seconds. -/
def localPosition (d : Date) (tod : Nat) : Date × Nat :=
  if tod < 75600 then (d, tod + 10800) else (nextDate d, tod - 75600)

/-- The service minute of a time of day. -/
def minuteOf (tod : Nat) : Nat := tod / 60

/-- The present service minute, absent in UNSET. -/
def nowMinute (s : State) : Option Nat := s.clock.map fun c => minuteOf c.tod

/-- A digit as a character. -/
def digit (n : Nat) : Char := Char.ofNat (48 + n % 10)

/-- Two decimal digits. -/
def twoDigits (n : Nat) : Text := [digit (n / 10), digit n]

/-- A service minute or extended service minute as a clock reading hh:mm (R2). -/
def clockReading (m : Nat) : Text :=
  twoDigits ((m + 180) % 1440 / 60) ++ ':' :: twoDigits ((m + 180) % 1440 % 60)

/-- A number in decimal digits without leading zeros. -/
def decimal (n : Nat) : Text := Nat.toDigits 10 n

/-- The clock fields of CLOCK-READ: absent in UNSET (R12, Table 1-4). -/
def clockFields (s : State) : Option ClockFields :=
  s.clock.map fun c =>
    { date := c.date, tod := c.tod, minute := minuteOf c.tod
      localDate := (localPosition c.date c.tod).1
      hour := (localPosition c.date c.tod).2 / 3600
      localMinute := (localPosition c.date c.tod).2 / 60 % 60
      second := (localPosition c.date c.tod).2 % 60
      lastStep := c.lastStep }

/-! ### Times and strings -/

/-- Whole seconds reported for the milliseconds left on a timer; a part of a second is rounded as `Config.roundsUp` has
it, since no rule says how (log 10). -/
def secondsLeft (ms : Nat) : Nat :=
  ms / 1000 + if ms % 1000 = 0 then 0 else if Config.roundsUp ms then 1 else 0

/-- A character of the display character set, 0x20 to 0x7E (R179). -/
def displayChar (c : Char) : Bool := decide (0x20 ≤ c.toNat) && decide (c.toNat ≤ 0x7E)

/-- A string of at most `n` characters of the display character set. -/
def displayText (n : Nat) (t : Text) : Bool := decide (t.length ≤ n) && t.all displayChar

/-! ### What several blocks ask -/

/-- The journal's capacity (R94). -/
def journalCapacity : Nat := 2048

/-- The last serial (R97). -/
def lastSerial : Nat := 16777215

/-- The free count (R96). -/
def freeCount (s : State) : Nat :=
  journalCapacity - s.sjn.records.length - if s.sjn.reserved then 1 else 0

/-- The entry of a level in the level table (R145). -/
def levelEntry (s : State) (l : Level) : LevelEntry := s.enm.table.get l

/-- The entry of the present level. -/
def presentEntry (s : State) : LevelEntry := levelEntry s s.enm.present

/-- Whether a level is enabled: EL4 and EL5 always, a higher one when the capacity covers its draw (R148). -/
def levelEnabled (s : State) (l : Level) : Bool := resting l || decide ((levelEntry s l).draw ≤ s.enm.capacity)

/-- The highest enabled level no higher than a level (R149, R155). -/
def highestEnabled (s : State) (l : Level) : Level := ((levelsFrom l).find? (levelEnabled s)).getD .el5

/-- The destination of the lowering in flight, if there is one. -/
def loweringTo (s : State) : Option Level :=
  match s.enm.transition with
  | .lowering d => some d
  | _ => none

/-- The serving level (R123): a lowering's destination from its start, else the present level. -/
def servingLevel (s : State) : Level := (loweringTo s).getD s.enm.present

/-- The approach condition: some service of the current table has its approach flag set (R44). -/
def approachCondition (s : State) : Bool :=
  s.tts.current.any fun t => t.services.any fun v => v.approach

/-- The state of the slot (R73). -/
def slotState : Slot → SlotState
  | .idle => .idle
  | .quoted _ _ => .quoted
  | .printing _ _ => .printing

/-- Whether a status is a running status (3.1.1). -/
def Status.isRunning : Status → Bool
  | .scheduled => true
  | .delayed => true
  | _ => false

/-- The expected minute of a service (R32). -/
def expectedMinute (v : Service) : Nat := v.plan.minute + v.delay

/-- The service of the current table with a number. -/
def currentService (s : State) (number : Nat) : Option Service :=
  s.tts.current.bind fun t => t.services.find? fun v => v.plan.number == number

/-- The name of a station for a panel: its name in the active tariff, or its code in digits (R114). -/
def stationName (s : State) (code : Nat) : Text :=
  match s.tfe.active.bind fun t => t.stations.find? fun x => x.code == code with
  | some x => x.name
  | none => decimal code

/-- An answer DONE with its fields. -/
def done (b : ReplyBody) : Answer := ⟨.done, .none, b⟩

/-- A refusal with its detail and no fields. -/
def refuse (st : ReplyStatus) (d : Detail) : Answer := ⟨st, d, .nothing⟩

end Sys2Proof.Machine
end

