-- ==== Sys2Proof/Machine/Operands.lean ====
section
/-! DEFINITION. The operand checks of the requests: which fields are in range, as each owner's rule lists them. -/

namespace Sys2Proof.Machine

/-- Within a range, both ends included (0.4.3). -/
def within (lo hi n : Nat) : Bool := decide (lo ≤ n) && decide (n ≤ hi)

/-- An optional field absent or within a range. -/
def optWithin (lo hi : Nat) (n : Option Nat) : Bool := n.all (within lo hi)

/-- Clamped to a range (0.4.3). -/
def clamp (lo hi n : Nat) : Nat := if n < lo then lo else if hi < n then hi else n

/-- Clamped to a range, signed. -/
def clampInt (lo hi n : Int) : Int := if n < lo then lo else if hi < n then hi else n

/-- The value a coded field names. -/
def codedValue {α : Type} : Coded α → Option α
  | .named a => some a
  | .other _ => none

/-- An optional coded field is absent or names a value. -/
def optNames {α : Type} : Option (Coded α) → Bool
  | none => true
  | some c => (codedValue c).isSome

/-- The value of an optional coded field, or the stored one. -/
def optCoded {α : Type} (stored : α) : Option (Coded α) → α
  | some (.named a) => a
  | _ => stored

/-- The values of a carried set, or `none` when one is outside its list (R75). -/
def namedAll {α : Type} : List (Coded α) → Option (List α)
  | [] => some []
  | .named a :: l => (namedAll l).map (a :: ·)
  | .other _ :: _ => none

/-- CLOCK-SET's fields in range, but for the span (R8, Table 1-2). -/
def clockFieldsInRange (year month day hour minute second : Nat) : Bool :=
  within 2000 2100 year && realDate ⟨year, month, day⟩ && decide (hour ≤ 23) && decide (minute ≤ 59) &&
    decide (second ≤ 59)

/-- A table header's fields in range (R14). -/
def headerInRange (date : Date) (dayType : Coded DayType) (darkUntil darkFrom version : Nat) : Bool :=
  inSpan date && (codedValue dayType).isSome && decide (darkUntil ≤ 1439) && decide (darkFrom ≤ 1439) &&
    within 1 65535 version

/-- TABLE-ADD's fields in range (R18, third check). -/
def serviceInRange (number : Nat) (direction : Coded Direction) (minute platform : Nat) (calls : List Nat) : Bool :=
  within 1 9999 number && (codedValue direction).isSome && decide (minute ≤ 1439) && within 1 3 platform &&
    within 1 16 calls.length && calls.all (within 1 63)

/-- RUNNING's fields in range (R34). -/
def runningInRange (number stamp : Nat) (kind : Coded RunKind) (argument : Int) : Bool :=
  within 1 9999 number && decide (stamp ≤ 97199) &&
    match kind with
    | .named .delay => decide (-60 ≤ argument) && decide (argument ≤ 999)
    | .named .platform => decide (1 ≤ argument) && decide (argument ≤ 3)
    | .named _ => true
    | .other _ => false

/-- TARIFF-STATION's fields in range (R57, third check). -/
def stationInRange (code : Nat) (name : Text) (distance : Nat) (side : Coded Direction) : Bool :=
  within 1 63 code && !name.isEmpty && displayText 20 name && within 1 4000 distance && (codedValue side).isSome

/-- The seven rounding steps (R53). -/
def roundingSteps : List Nat := [1, 2, 5, 10, 20, 50, 100]

/-- TARIFF-RULES' fields in range (Table 4-6, check 3). -/
def rulesInRange (r : Rules) : Bool :=
  within 1 4 r.bands.length && (r.bands.all fun b => within 1 4000 b.1 && decide (b.2 ≤ 65535)) &&
    decide (r.boarding ≤ 5000) && within 1 99990 r.fMin && within 1 99990 r.fMax && within 1 99990 r.cMax &&
    roundingSteps.contains r.step && within 100 250 r.returnFactor && within 100 150 r.openSingleFactor &&
    within 100 300 r.openReturnFactor && (r.classes.all fun c => c.all fun k => decide (k.discount ≤ 100)) &&
    decide (r.windows.length ≤ 4) && (r.windows.all fun w => decide (w.1 ≤ 1439) && within 1 1440 w.2) &&
    decide (r.surcharge ≤ 100)

/-- Strictly ascending. -/
def ascending : List Nat → Bool
  | a :: b :: l => decide (a < b) && ascending (b :: l)
  | _ => true

/-- The first check of Table 4-6 from 3 on that a set of rules fails (R58). -/
def rulesRefusal (r : Rules) : Option Detail :=
  if !rulesInRange r then some .field
  else if !(ascending (r.bands.map (·.1)) && decide (r.bands.getLast?.map (·.1) = some 4000)) then some .bands
  else if r.fMax < r.fMin then some .floor
  else if r.cMax % r.step ≠ 0 then some .step
  else if r.cMax < r.fMin then some .ceiling
  else if !(r.windows.all fun w => decide (w.1 < w.2)) then some .window
  else none

/-- FARE-TRIAL's fields in range (R72). -/
def trialInRange (selector : Coded TariffSel) (code : Nat) (ticket : Coded TicketType) (cls quantity : Nat)
    (peak : Coded PeakSel) : Bool :=
  (codedValue selector).isSome && (codedValue ticket).isSome && (codedValue peak).isSome && within 1 63 code &&
    decide (cls ≤ 7) && within 1 9 quantity

/-- SALE-QUOTE's fields in range (R76, check 2): NUMBER needs a service number, 1 to 9999. -/
def quoteInRange (code : Nat) (ticket : Coded TicketType) (cls quantity : Nat) (selector : Coded ServiceSel)
    (service : Option Nat) : Bool :=
  within 1 63 code && (codedValue ticket).isSome && decide (cls ≤ 7) && within 1 9 quantity &&
    match selector with
    | .named .number => service.any (within 1 9999)
    | .named _ => true
    | .other _ => false

/-- PANEL-PROFILE's fields in range, but for the address (R111). -/
def profileInRange (presence : Option (Coded Bool)) (kind : Option (Coded PanelKind)) (filter : Option (Coded DirFilter))
    (threshold : Option Nat) : Bool :=
  optNames presence && optNames kind && optNames filter && optWithin 0 10 threshold

/-- BOARD-TEXT's fields in range (R115). -/
def messageInRange (id : Nat) (priority : Coded MsgPriority) (lines : List Text) (expiry : Option Nat) : Bool :=
  within 1 255 id && (codedValue priority).isSome && within 1 4 lines.length && lines.all (displayText 24) &&
    optWithin 0 1439 expiry

/-- LEVEL-TABLE's fields in range for the level selected (R146): APPROACH and 5 carry no demand timeout. -/
def entryInRange (l : Level) (draw rate depth rotation lamp timeout : Option Nat) : Bool :=
  optWithin 1 5000 draw && optWithin 0 3600 rate && optWithin 0 15 depth && optWithin 0 3600 rotation &&
    optWithin 0 100 lamp && (timeout.isNone || !(l == .ela || l == .el5))

/-- A demand timeout as it is stored: 0 as 0, else clamped to 10 to 14,400 (R146). -/
def storedTimeout (t : Nat) : Nat := if t = 0 then 0 else clamp 10 14400 t

/-- ENERGY-SETTINGS' fields in range (R147): the window's start and end together or not at all. -/
def energyInRange (quietStart quietEnd raiseSettle dormantSettle : Option Nat) : Bool :=
  optWithin 0 1439 quietStart && optWithin 0 1439 quietEnd && optWithin 50 2000 raiseSettle &&
    optWithin 50 2000 dormantSettle && (quietStart.isSome == quietEnd.isSome)

/-- One input's fields of WAKE-CONFIG name values (R169). -/
def inputNames (f : InputField) : Bool := optNames f.sense && optNames f.activity && optNames f.wake

/-- WAKE-CONFIG's fields in range (R169). -/
def wakeInRange (f : WakeFields) : Bool :=
  inputNames f.inputs.call && inputNames f.inputs.presence && inputNames f.inputs.card && inputNames f.inputs.door &&
    inputNames f.inputs.aux && optNames f.approach && optNames f.clock && optNames f.link &&
    optWithin 30 600 f.returnTime

/-- NOTICE-CONFIG's fields in range (R184): sources 1 to 15. -/
def noticesInRange (fields : List NoticeField) (sense : Option (Coded DoorSense)) : Bool :=
  (fields.all fun f => within 1 15 f.source && optNames f.priority) && optNames sense

end Sys2Proof.Machine
end

