-- ==== Sys2Proof/Machine/Flags.lean ====
section
/-! DEFINITION. The notice controller's flags, the attention output, and the reasons that close sales. -/

namespace Sys2Proof.Machine

/-- The number of a notice source (Table 11-4). -/
def Source.number : Source → Nat
  | .supplyCritical => 0
  | .doorOpen => 1
  | .printTimeout => 2
  | .journalFull => 3
  | .panelFault => 4
  | .journalLow => 5
  | .quoteWithdrawn => 6
  | .panelOffline => 7
  | .panelBack => 8
  | .panelCold => 9
  | .levelChanged => 10
  | .limitChanged => 11
  | .woke => 12
  | .supplyStale => 13
  | .dayRollover => 14
  | .noTimetable => 15

/-- The flags of a source. -/
def noticeOf (s : State) (src : Source) : Notice := s.hlk.notices.getD src.number (quietNotice .low)

/-- Raising a source: its pending flag is set and its seen mark cleared, enabled or not (R182). -/
def raiseNotice (src : Source) (s : State) : State :=
  { s with hlk.notices := s.hlk.notices.modify src.number fun n => { n with pending := true, seen := false } }

/-- Whether ATTN is asserted: at least one enabled source pending, and no attention hold standing (R186). The held or
unpowered part asserts nothing (R176). -/
def attnAsserted (s : State) : Bool :=
  decide (s.power = .on) && !s.hlk.hold && s.hlk.notices.any fun n => n.pending && n.enable

/-- The RAILEN output: high while the rail is switched on, settling or settled (R143). -/
def railEnabled (s : State) : Bool := decide (s.power = .on) && decide (s.plc.rail ≠ .off)

/-- Whether the condition of a reason holds (Table 5-5). -/
def reasonHolds (s : State) : Reason → Bool
  | .clock => s.clock.isNone
  | .tariff => s.tfe.active.isNone
  | .journal => freeCount s == 0
  | .level => resting s.enm.present || (loweringTo s).any resting
  | .host => s.slc.hostClosed
  | .serials => decide (lastSerial < s.sjn.next)

/-- The reason set in the order of Table 5-5 (R87). -/
def salesReasons (s : State) : List Reason :=
  [Reason.clock, .tariff, .journal, .level, .host, .serials].filter (reasonHolds s)

/-- Sales are open when the reason set is empty (R87). -/
def salesOpen (s : State) : Bool := (salesReasons s).isEmpty

end Sys2Proof.Machine
end

