-- ==== Sys2Proof/Machine/Queue.lean ====
section
/-! DEFINITION. The refresh queue and what fills it (Table 7-3): the message lists, the sales event, the lamp, the refresh
credit's settings and the rotation timer. -/

namespace Sys2Proof.Machine

/-! ### The refresh queue (R120) -/

/-- The urgent entries first, then the ordinary ones, each group in its order. -/
def enqueue (a : Addr) (urgent : Bool) (q : List QueueEntry) : List QueueEntry :=
  match q.find? fun e => e.panel == a with
  | none => if urgent then q.filter (·.urgent) ++ ⟨a, true⟩ :: q.filter (!·.urgent) else q ++ [⟨a, false⟩]
  | some e =>
    if urgent && !e.urgent then
      q.filter (·.urgent) ++ ⟨a, true⟩ :: q.filter fun x => !x.urgent && !(x.panel == a)
    else q

/-- A request to refresh a panel (R120); for an ABSENT panel it is ignored. -/
def requestRefresh (urgent : Bool) (s : State) (a : Addr) : State :=
  if (s.bdc.profiles.get a).isPresent then { s with bdc.queue := enqueue a urgent s.bdc.queue } else s

/-- One event's requests: for each panel in ascending address, what the event asks of a panel of its profile, an urgent
request, an ordinary one or none (R120, R121). -/
def requestEach (want : Profile → Option Bool) (s : State) : State :=
  allPanels.foldl
    (fun s a =>
      match want (s.bdc.profiles.get a) with
      | some urgent => requestRefresh urgent s a
      | none => s)
    s

/-- Requests for every PRESENT panel of a kind (R121). -/
def requestKind (k : PanelKind) (urgent : Bool) (s : State) : State :=
  requestEach (fun p => if p.kind = k then some urgent else none) s

/-- Requests for every PRESENT panel (R121). -/
def requestAll (urgent : Bool) (s : State) : State := requestEach (fun _ => some urgent) s

/-- Whether the queue holds an urgent entry (R126). -/
def urgentWaiting (s : State) : Bool := s.bdc.queue.any (·.urgent)

/-- Whether a direction passes a filter (R113). -/
def passes : DirFilter → Direction → Bool
  | .all, _ => true
  | .up, .up => true
  | .down, .down => true
  | _, _ => false

/-- What a service-bound change event asks of a panel: DEPARTURES panels whose filter the service passes are refreshed
with the class given for the panel's profile (R121), MESSAGES panels as the event's effect on the automatic list asks. -/
def wantForService (d : Direction) (urgentFor : Profile → Bool) (messages : Option Bool) (p : Profile) : Option Bool :=
  match p.kind with
  | .departures => if passes p.filter d then some (urgentFor p) else none
  | .messages => messages
  | .sales => none

/-! ### Messages (R115 to R118) -/

/-- A displayable message. -/
inductive Message where
  | host (e : HostEntry)
  | auto (e : AutoEntry)
deriving DecidableEq, Repr

/-- Its arrival number. -/
def Message.arrival : Message → Nat
  | .host e => e.arrival
  | .auto e => e.arrival

/-- Whether it is URGENT: every automatic entry is (R117). -/
def Message.urgent : Message → Bool
  | .host e => e.priority == .urgent
  | .auto _ => true

/-- The displayable order: URGENT before NORMAL, then by arrival number, highest first (R118). -/
def messageBefore (a b : Message) : Bool :=
  (a.urgent && !b.urgent) || (a.urgent == b.urgent && decide (b.arrival ≤ a.arrival))

/-- The displayable messages in their order (R118). -/
def displayable (s : State) : List Message :=
  sortBy messageBefore (s.bdc.host.map .host ++ s.bdc.auto.map .auto)

/-- The position is none whenever both lists are empty (R118). -/
def clearPosition (s : State) : State :=
  if s.bdc.host.isEmpty && s.bdc.auto.isEmpty then { s with bdc.position := none } else s

/-- The least of a list of numbers. -/
def leastOf : List Nat → Option Nat
  | [] => none
  | a :: l => some ((leastOf l).elim a fun b => if b < a then b else a)

/-- Whether the automatic list holds an entry for a service. -/
def hasAuto (s : State) (service : Nat) : Bool := s.bdc.auto.any fun e => e.service == service

/-- An automatic entry joins the list; a list of 4 loses the entry with the lowest arrival number (R117). The urgent
refresh of each MESSAGES panel is the caller's. -/
def putAuto (service minute terminus : Nat) (s : State) : State :=
  let kept :=
    if s.bdc.auto.length < 4 then s.bdc.auto
    else s.bdc.auto.filter fun e => decide (some e.arrival ≠ leastOf (s.bdc.auto.map (·.arrival)))
  { s with
    bdc.auto := kept ++ [⟨service, minute, terminus, s.bdc.arrivals + 1⟩]
    bdc.arrivals := s.bdc.arrivals + 1 }

/-- Entries of both lists are kept by two tests; the others leave (R116, R117). The ordinary refresh of each MESSAGES
panel that a removal queues is the caller's. -/
def keepMessages (host : HostEntry → Bool) (auto : AutoEntry → Bool) (s : State) : State :=
  clearPosition { s with bdc.host := s.bdc.host.filter host, bdc.auto := s.bdc.auto.filter auto }

/-- Host entries leave by a test, with an ordinary refresh of each MESSAGES panel if one does (R116). -/
def removeHost (leaves : HostEntry → Bool) (s : State) : State :=
  let s1 := keepMessages (fun e => !leaves e) (fun _ => true) s
  if s.bdc.host.any leaves then requestKind .messages false s1 else s1

/-! ### The lamp (R127) -/

/-- Whether the lamp is lit. -/
def lampLit (s : State) : Bool :=
  if s.enm.present = .ela then true
  else
    match s.clock, s.tts.current with
    | none, _ => true
    | _, none => true
    | some c, some t => decide (t.header.darkFrom ≤ minuteOf c.tod) || decide (minuteOf c.tod < t.header.darkUntil)

/-- The duty is set: the present level's lamp percent when lit, else 0. -/
def setLamp (s : State) : State :=
  { s with bdc.lamp := if lampLit s then (presentEntry s).lamp else 0 }

/-! ### Rotation, credit and load settings (R118, R122) -/

/-- Whether the rotation timer runs: a period above 0, two displayable messages, a PRESENT MESSAGES panel (R118). -/
def rotates (s : State) : Bool :=
  decide (0 < (presentEntry s).rotation) && decide (2 ≤ s.bdc.host.length + s.bdc.auto.length) &&
    allPanels.any fun a => (s.bdc.profiles.get a).isPresent && (s.bdc.profiles.get a).kind == .messages

/-- The rotation timer starts with the present period if the condition holds, and stops otherwise (R118). -/
def restartRotation (s : State) : State :=
  { s with bdc.rotation := if rotates s then some ((presentEntry s).rotation * 1000) else none }

/-- The rotation timer starts when its condition comes to hold and stops when it ceases to; while it runs it is let be. -/
def followRotation (s : State) : State :=
  if rotates s = s.bdc.rotation.isSome then s else restartRotation s

/-- The accrual timer's period in milliseconds for a credit rate, absent at rate 0 (R122). -/
def accrualPeriod (rate : Nat) : Option Nat := if rate = 0 then none else some (3600 / rate * 1000)

/-- The Board Composer takes the present level's settings: the credit lowered to the depth, the accrual and rotation
timers restarted, the lamp set (R122, R118, R127). -/
def takeLoadSettings (s : State) : State :=
  setLamp
    (restartRotation
      { s with
        bdc.credit := min s.bdc.credit (presentEntry s).depth
        bdc.accrual := accrualPeriod (presentEntry s).rate })

/-! ### Events from the Timetable Store, the tariff engine and the Sale Controller -/

/-- An ordinary refresh of each DEPARTURES panel, and of each MESSAGES panel if `messages` (R121). -/
def wantTables (messages : Bool) (p : Profile) : Option Bool :=
  match p.kind with
  | .departures => some false
  | .messages => if messages then some false else none
  | .sales => none

/-- A change event of cause TABLE: ordinary refreshes of the DEPARTURES panels (R121), every automatic entry removed
(R117), the lamp set (R127). -/
def tableEvent (s : State) : State :=
  setLamp (keepMessages (fun _ => true) (fun _ => false) (requestEach (wantTables (!s.bdc.auto.isEmpty)) s))

/-- The names event of a tariff activation (R60, R121). -/
def namesEvent (s : State) : State := requestEach (wantTables (!s.bdc.auto.isEmpty)) s

/-- The reason set is decided again; a change of the open state, or of the first reason while closed, gives the Board
Composer a sales event: an urgent refresh of each SALES panel for a change of the open state, an ordinary one otherwise
(R87, R119). -/
def decideSales (s : State) : State :=
  let first := (salesReasons s).head?
  if first = s.bdc.sales then s
  else requestKind .sales (first.isNone != s.bdc.sales.isNone) { s with bdc.sales := first }

end Sys2Proof.Machine
end

