-- ==== Sys2Proof/Machine/Target.lean ====
section
/-! DEFINITION. The sale slot with the demand timer it holds, the panel rail's mode, and the target level with the start
of a transition toward it: what a change anywhere in the part may set off at once. -/

namespace Sys2Proof.Machine

/-! ### The slot and the demand timer (R73, R166) -/

/-- The demand timer with the full timeout of the demand level; stopped at EL5 and for a timeout of 0 (R164). -/
def freshDemandTimer (s : State) : DemandTimer :=
  match (levelEntry s s.awu.demand).timeout with
  | none => .stopped
  | some 0 => .stopped
  | some t => .running (t * 1000)

/-- The demand timer restarts, unless it is held (R165, R166). -/
def restartDemandTimer (s : State) : State :=
  if s.awu.timer = .held then s else { s with awu.timer := freshDemandTimer s }

/-- The slot takes its next state. Leaving IDLE holds the demand timer; returning to IDLE restarts it with the full
timeout (R166). -/
def putSlot (slot : Slot) (s : State) : State :=
  match slotState s.slc.slot, slotState slot with
  | .idle, .idle => { s with slc.slot := slot }
  | .idle, _ => { s with slc.slot := slot, awu.timer := .held }
  | _, .idle => { s with slc.slot := slot, awu.timer := freshDemandTimer s }
  | _, _ => { s with slc.slot := slot }

/-- A withdrawal: a QUOTED slot returns to IDLE, the reason is recorded and QUOTE-WITHDRAWN raised; an IDLE or PRINTING
slot is let be (R79). -/
def withdraw (why : Withdrawal) (s : State) : State :=
  match s.slc.slot with
  | .quoted _ _ => raiseNotice .quoteWithdrawn (putSlot .idle { s with slc.lastReason := some why })
  | _ => s

/-! ### The panel rail (R143) -/

/-- The rail mode of a rail level and the brief flag (Table 8-5). -/
def railModeFor (l : Level) (brief : Bool) : RailMode :=
  match l with
  | .ela => .always
  | .el0 => .always
  | .el1 => .always
  | .el2 => .gated
  | .el3 => .gated
  | .el4 => .gated
  | .el5 => if brief then .gated else .off

/-- The rail settle: 250 ms. -/
def railSettle : Nat := 250

/-- The idle timer: 2 s. -/
def railIdle : Nat := 2000

/-- The rail mode follows the rail level and the brief flag, with what the change of mode does to the rail (R143). -/
def followRailMode (s : State) : State :=
  let m := railModeFor s.plc.railLevel s.awu.brief
  if m = s.plc.mode then s
  else
    match m with
    | .always =>
      { s with
        plc.mode := m, plc.idle := none
        plc.rail := if s.plc.rail = .off then .settling railSettle else s.plc.rail }
    | .gated =>
      { s with
        plc.mode := m
        plc.rail := if s.plc.rail = .off && s.plc.line.isSome then .settling railSettle else s.plc.rail
        plc.idle := if s.plc.rail = .on && s.plc.line.isNone then some railIdle else s.plc.idle }
    | .off =>
      { s with
        plc.mode := m, plc.idle := none
        plc.rail := if s.plc.line.isNone then .off else s.plc.rail }

/-! ### The target and the start of a transition (R155 to R158) -/

/-- The active limits. -/
def activeLimits (s : State) : List Level :=
  [s.enm.battery, s.enm.coldLimit, s.enm.quietLimit, s.enm.hostLimit].filterMap id

/-- Steps 1 and 2 of R155: the lowest-performance level among demand and limits, clamped to an enabled one. -/
def clampedDemand (s : State) : Level := highestEnabled s ((activeLimits s).foldl lowerOf s.awu.demand)

/-- The target level (R155). -/
def computeTarget (s : State) : Level :=
  let l := clampedDemand s
  if l = .el0 ∧ approachCondition s ∧ s.enm.battery = none ∧ s.enm.coldLimit = none ∧ levelEnabled s .ela then .ela
  else if l = .el5 ∧ s.awu.brief ∧ s.enm.battery ≠ some .el5 then (if levelEnabled s .el3 then .el3 else .el4)
  else l

/-- A raise starts: the destination's draw and rail level, and the settle timer (R157). -/
def startRaise (dest : Level) (s : State) : State :=
  followRailMode
    { s with
      enm.transition := .raising dest (if s.enm.present = .el5 then s.enm.dormantSettle else s.enm.raiseSettle)
      enm.draw := (levelEntry s dest).draw
      plc.railLevel := dest }

/-- A lowering starts: the serving level becomes the destination; toward EL4 or EL5 the Sale Controller adds LEVEL and
withdraws a QUOTED sale (R158, R89). -/
def startLowering (dest : Level) (s : State) : State :=
  let s1 := { s with enm.transition := .lowering dest }
  if resting dest then withdraw .level (decideSales s1) else s1

/-- The target is computed again, and where it differs from the present level with no transition in flight, a transition
toward it starts at once (R155, R156). -/
def retarget (s : State) : State :=
  let t := computeTarget s
  let s1 := { s with enm.target := t }
  match s.enm.transition with
  | .none =>
    if t = s.enm.present then s1
    else if levelRank t < levelRank s.enm.present then startRaise t s1
    else startLowering t s1
  | _ => s1

end Sys2Proof.Machine
end

