-- ==== Sys2Proof/Machine/Journal.lean ====
section
/-! DEFINITION. The Sales Journal: places and serials, appending, thresholds, reading, releasing and takings (Chapter 6),
and the byte layouts of Section 11.8 that its replies are measured by. -/

namespace Sys2Proof.Machine

/-! ### Byte layouts (Section 11.8) -/

/-- A number in `n` bytes, most significant first (R179). -/
def bigEndian : Nat → Nat → List Byte
  | 0, _ => []
  | n + 1, v => bigEndian n (v / 256) ++ [BitVec.ofNat 8 v]

/-- A service date in three bytes (R179). -/
def dateBytes (d : Date) : List Byte :=
  [BitVec.ofNat 8 (d.year - 2000), BitVec.ofNat 8 d.month, BitVec.ofNat 8 d.day]

/-- A string: its length, then its characters (R179). -/
def textBytes (t : Text) : List Byte := BitVec.ofNat 8 t.length :: t.map fun c => BitVec.ofNat 8 c.toNat

/-- The code of a ticket type (Table 11-8). -/
def ticketCode : TicketType → Nat
  | .single => 0
  | .ret => 1
  | .openSingle => 2
  | .openReturn => 3

/-- The code of a record kind (Table 11-9). -/
def recordCode : RecordKind → Nat
  | .issued => 0
  | .spoiled => 1
  | .unconfirmed => 2

/-- The code of a payment kind (Table 11-9). -/
def paymentCode : Payment → Nat
  | .cash => 0
  | .card => 1
  | .voucher => 2

/-- A flag byte with bit 0. -/
def flagByte (b : Bool) : Byte := if b then 1#8 else 0#8

/-- A ticket record (Table 11-8). -/
def ticketBytes (t : Ticket) : List Byte :=
  bigEndian 3 t.serial ++ dateBytes t.date ++ bigEndian 1 (ticketCode t.ticket) ++ bigEndian 1 t.cls ++
    bigEndian 1 t.quantity ++ bigEndian 1 t.dest ++ textBytes t.name ++ bigEndian 2 (t.bound.elim 0 (·.number)) ++
    bigEndian 2 (t.bound.elim 0xFFFF (·.minute)) ++ bigEndian 3 t.fare ++ bigEndian 3 t.total ++ [flagByte t.peak] ++
    bigEndian 2 t.version

/-- A journal record as JOURNAL-READ returns it, with its handed-out mark as it stands (Table 11-9). -/
def recordBytes (r : JRecord) : List Byte :=
  bigEndian 3 r.serial ++ bigEndian 1 (recordCode r.kind) ++ dateBytes r.date ++
    bigEndian 3 (r.completion.getD 0xFFFFFF) ++ bigEndian 1 r.dest ++ bigEndian 1 (ticketCode r.ticket) ++
    bigEndian 1 r.cls ++ bigEndian 1 r.quantity ++ bigEndian 2 (r.bound.getD 0) ++ bigEndian 3 r.total ++
    bigEndian 1 (paymentCode r.payment) ++ bigEndian 2 r.version ++ [flagByte r.handed] ++
    textBytes (r.reference.getD [])

/-- A frame body holds at most 250 bytes (R177, Table 11-6). -/
def bodyLimit : Nat := 250

/-! ### Thresholds (R100) -/

/-- The low threshold against the free count. -/
def evaluateLow (s : State) : State :=
  if s.sjn.lowArmed && decide (freeCount s ≤ s.sjn.low) then
    raiseNotice .journalLow { s with sjn.lowArmed := false }
  else if !s.sjn.lowArmed && decide (s.sjn.low < freeCount s) then { s with sjn.lowArmed := true }
  else s

/-- The full threshold against the free count. -/
def evaluateFull (s : State) : State :=
  if s.sjn.fullArmed && decide (freeCount s = 0) then raiseNotice .journalFull { s with sjn.fullArmed := false }
  else if !s.sjn.fullArmed && decide (0 < freeCount s) then { s with sjn.fullArmed := true }
  else s

/-- Both thresholds are evaluated (R100). -/
def evaluateThresholds (s : State) : State := evaluateFull (evaluateLow s)

/-- A change of the free count is reported: thresholds, then the sales reasons (R100, R87). -/
def reportFree (s : State) : State := decideSales (evaluateThresholds s)

/-! ### Appending (R98) -/

/-- A record that takings take in: ISSUED or UNCONFIRMED (R106). -/
def counted (k : RecordKind) : Bool := k != .spoiled

/-- A record appended at the newest end, the reservation consumed, the lifetime takings increased (R98). -/
def append (r : JRecord) (s : State) : State :=
  { s with
    sjn.records := s.sjn.records ++ [{ r with handed := false }]
    sjn.reserved := false
    sjn.lifetime :=
      if counted r.kind then s.sjn.lifetime.set r.payment (s.sjn.lifetime.get r.payment + r.total) else s.sjn.lifetime }

/-- The newest serial, absent for an empty journal. -/
def newestSerial (s : State) : Option Nat := s.sjn.records.getLast?.map (·.serial)

/-- The standing of a serial (R84, R105); absent only where neither case holds, which no run reaches (log 32). -/
def standingOf (serial : Nat) (s : State) : Option Standing :=
  match s.sjn.records.find? fun r => r.serial == serial with
  | some r => some (.kind r.kind)
  | none => if serial ≤ s.sjn.released then some .released else none

/-! ### Requests -/

/-- JOURNAL-SETTINGS (R101). -/
def journalSettingsRule (low : Option Nat) (s : State) : State × Answer :=
  let answer := fun t : State => done (.journalSettings t.sjn.low (freeCount t) t.sjn.lowArmed t.sjn.fullArmed)
  match low with
  | none => (s, answer s)
  | some n =>
    if 512 < n then (s, refuse .range .field)
    else
      let s1 := evaluateThresholds { s with sjn.low := n }
      (s1, answer s1)

/-- As many of the records, oldest first, as fit whole in the bytes left of a reply body, at most `count` (R102). -/
def fitting : Nat → Nat → List JRecord → List JRecord
  | 0, _, _ => []
  | _, _, [] => []
  | count + 1, room, r :: l =>
    if (recordBytes r).length ≤ room then r :: fitting count (room - (recordBytes r).length) l else []

/-- The records JOURNAL-READ returns: 7 bytes of a DONE body go before them (Table 11-9, R102). -/
def selected (fromSerial count : Nat) (s : State) : List JRecord :=
  fitting count (bodyLimit - 7) (s.sjn.records.filter fun r => decide (fromSerial ≤ r.serial))

/-- The handed-out marks of the records of these serials set (R102). -/
def markHanded (serials : List Nat) (s : State) : State :=
  { s with
    sjn.records := s.sjn.records.map fun r => if serials.contains r.serial then { r with handed := true } else r }

/-- JOURNAL-READ (R102). -/
def journalReadRule (fromSerial count : Nat) (s : State) : State × Answer :=
  if !(within 1 lastSerial fromSerial && within 1 8 count) then (s, refuse .range .field)
  else
    let rs := selected fromSerial count s
    if rs.isEmpty then (s, ⟨.noneLeft, .none, .noRecords (newestSerial s) s.sjn.records.length⟩)
    else (markHanded (rs.map (·.serial)) s, done (.records rs (newestSerial s) s.sjn.records.length))

/-- The fares of the counted records of a payment kind. -/
def faresOf (k : Payment) (rs : List JRecord) : Nat :=
  ((rs.filter fun r => counted r.kind && r.payment == k).map (·.total)).sum

/-- The records with serials at or below `s` removed, their fares added to the released takings, the released-through
serial set (R104). -/
def releaseThrough (through : Nat) (s : State) : State :=
  let gone := s.sjn.records.filter fun r => decide (r.serial ≤ through)
  { s with
    sjn.records := s.sjn.records.filter fun r => decide (through < r.serial)
    sjn.released := through
    sjn.handedBack := PerPayment.build fun k => s.sjn.handedBack.get k + faresOf k gone }

/-- JOURNAL-RELEASE (R103, R104). R103 does not say whether the DONE of a release that removes nothing carries the sums of
R104; the model gives it three sums of 0. DESIGN CHOICE, log 36. -/
def journalReleaseRule (through : Nat) (s : State) : State × Answer :=
  let gone := s.sjn.records.filter fun r => decide (r.serial ≤ through)
  if lastSerial < through then (s, refuse .range .field)
  else if through ≤ s.sjn.released then
    (s, done (.released 0 ⟨0, 0, 0⟩ s.sjn.released s.sjn.records.length (freeCount s)))
  else
    match gone.find? fun r => !r.handed with
    | some r =>
      (s, ⟨.range, .handed, .releaseRefused (some r.serial) s.sjn.released s.sjn.records.length (freeCount s)⟩)
    | none =>
      if (newestSerial s).all fun n => decide (n < through) then
        (s, ⟨.range, .beyond, .releaseRefused (newestSerial s) s.sjn.released s.sjn.records.length (freeCount s)⟩)
      else
        let s1 := reportFree (releaseThrough through s)
        (s1, done (.released gone.length (PerPayment.build fun k => faresOf k gone) s1.sjn.released
          s1.sjn.records.length (freeCount s1)))

/-- How many records the journal holds of a kind. -/
def countKind (k : RecordKind) (s : State) : Nat := (s.sjn.records.filter fun r => r.kind == k).length

/-- TAKINGS-READ (R107). -/
def takingsReadRule (s : State) : State × Answer :=
  (s, done (.takings
    (PerPayment.build fun k =>
      ⟨s.sjn.lifetime.get k, s.sjn.handedBack.get k, s.sjn.lifetime.get k - s.sjn.handedBack.get k⟩)
    s.sjn.next s.sjn.released s.sjn.records.length (s.sjn.records.head?.map (·.serial)) (newestSerial s)
    (s.sjn.records.filter fun r => !r.handed).length (countKind .issued s) (countKind .spoiled s)
    (countKind .unconfirmed s) s.sjn.reserved (freeCount s) s.sjn.low s.sjn.lowArmed s.sjn.fullArmed))

end Sys2Proof.Machine
end

