-- ==== Sys2Proof/Machine/Bodies.lean ====
section
/-! DEFINITION. The bodies that Section 11.8 does not lay out, as lists of the fields that the owner's rule names, in the
rule's order, and their bytes: strings, numbers and service dates as R179 has them, the rest open (log 3, log 22). -/

namespace Sys2Proof.Machine

/-! ### The bytes of a list of fields (R179) -/

/-- The code of a signed number in so many bytes: a number from 0 on is its own, and no rule gives that of a negative one
(log 22). -/
def signedCode (width : Nat) : Int → Nat
  | .ofNat n => n
  | .negSucc n => Config.negativeCode width n

/-- A field at a place of a body: a string with its length byte, a number most significant byte first, a service date in
three bytes (R179). -/
def fieldBytes (kind : Byte) (place : Nat) : Field → List Byte
  | .number n => bigEndian (Config.numberWidth kind place) n
  | .signed n => bigEndian (Config.numberWidth kind place) (signedCode (Config.numberWidth kind place) n)
  | .text t => textBytes t
  | .date d => dateBytes d
  | .other f => Config.openBytes kind place f

/-- Fields one after another, the first at the place given. -/
def fieldsFrom (kind : Byte) : Nat → List Field → List Byte
  | _, [] => []
  | n, f :: l => fieldBytes kind n f ++ fieldsFrom kind (n + 1) l

/-- The body that a list of fields makes. -/
def bodyBytes (kind : Byte) (l : List Field) : List Byte :=
  Config.presenceBytes kind (l.map fun f => decide (f ≠ .other .absent)) ++ fieldsFrom kind 0 l

/-! ### Fields of the types that rules name -/

/-- A value of a list, as its position there. -/
def nth (n : Nat) : Field := .other (.coded n)

/-- A flag. -/
def flagField (b : Bool) : Field := nth b.toNat

/-- A coded field of a request: a value of its list, or a code outside it. -/
def codeOf {α : Type} (index : α → Nat) : Coded α → Int
  | .named a => index a
  | .other n => -1 - (n : Int)

/-- A coded field. -/
def codedField {α : Type} (index : α → Nat) (c : Coded α) : Field := .other (.coded (codeOf index c))

/-- An optional field. -/
def orAbsent {α : Type} (f : α → Field) (o : Option α) : Field := o.elim (.other .absent) f

/-- An optional group of fields. -/
def orAbsentAll {α : Type} (f : α → List Field) (o : Option α) : List Field := o.elim [.other .absent] f

/-- A list of groups, whose length the rule does not carry. -/
def listed {α : Type} (f : α → List Field) (l : List α) : List Field := .other (.count l.length) :: l.flatMap f

/-- A list of groups behind its number. -/
def numbered {α : Type} (f : α → List Field) (l : List α) : List Field := .number l.length :: l.flatMap f

/-- A set of values, as the positions of its members in their list. -/
def setField (l : List Nat) : Field := .other (.set (l.map Int.ofNat))

/-- The members of a list of flags. -/
def members (l : List Bool) : Field := setField ((List.range l.length).filter fun n => l.getD n false)

/-- A level by its number in the host's numbering, where the rule names one that is never ELA (0.4.6). -/
def levelField (l : Level) : Field := .number (hostLevel l).number

/-- A level with its approach flag (R161). -/
def hostLevelFields (l : HostLevel) : List Field := [.number l.number, flagField l.approach]

/-- A calendar date that is no service date, such as the local date of Table 1-4: R179 gives the bytes of service dates only,
so those of this one are open (log 22). -/
def calendarField (d : Date) : Field := .other (.calendar d)

/-- A panel by its address. -/
def addrField (a : Addr) : Field := .number (a.ctorIdx + 1)

/-- A table header (R14). -/
def headerFields (h : Header) : List Field :=
  [.date h.date, nth h.dayType.ctorIdx, .number h.darkUntil, .number h.darkFrom, .number h.version]

/-- Planned fields (R15). -/
def plannedFields (p : Planned) : List Field :=
  [.number p.number, nth p.direction.ctorIdx, .number p.minute, .number p.platform] ++
    listed (fun c => [.number c]) p.calls

/-- Running fields (R26, R32). -/
def runningFields (v : Service) : List Field :=
  [nth v.status.ctorIdx, .number v.delay, .number v.platform, flagField v.altered, orAbsent .number v.stamp,
    flagField v.approach, .number v.sold]

/-- The rules of a tariff (R58). -/
def rulesFields (r : Rules) : List Field :=
  numbered (fun b => [.number b.1, .number b.2]) r.bands ++
    [.number r.boarding, .number r.fMin, .number r.fMax, .number r.cMax, .number r.step, .number r.returnFactor,
      .number r.openSingleFactor, .number r.openReturnFactor] ++
    r.classes.flatMap (fun c => flagField c.isSome :: orAbsentAll (fun k => [.number k.discount, flagField k.exempt]) c) ++
    numbered (fun w => [.number w.1, .number w.2]) r.windows ++ [.number r.surcharge]

/-- A station (Table 4-2). -/
def stationFields (x : Station) : List Field := [.number x.code, .text x.name, .number x.distance, nth x.side.ctorIdx]

/-- A bound service (Table 5-1). -/
def boundFields (b : Bound) : List Field := [.number b.number, .number b.minute]

/-- A quote (Table 5-1). -/
def quoteFields (q : Quote) : List Field :=
  [.number q.dest, .text q.name, nth q.side.ctorIdx, nth q.ticket.ctorIdx, .number q.cls, .number q.quantity] ++
    orAbsentAll boundFields q.bound ++ [.number q.fare, .number q.total, flagField q.peak, .number q.version]

/-- The clock fields (Table 1-4). -/
def clockFieldList (c : Option ClockFields) : List Field :=
  flagField c.isSome :: orAbsentAll (fun f => [.date f.date, .number f.tod, .number f.minute, calendarField f.localDate,
    .number f.hour, .number f.localMinute, .number f.second, orAbsent .signed f.lastStep]) c

/-- A DAY-ROLLOVER record (R185). -/
def dayFields (r : DayRecord) : List Field := [.date r.date, nth r.cause.ctorIdx, orAbsent .number r.tariff]

/-- A ticket as SALE-STATUS gives it (Table 5-4). -/
def ticketFields (t : Ticket) : List Field :=
  [.number t.serial, .date t.date, nth t.ticket.ctorIdx, .number t.cls, .number t.quantity, .number t.dest,
    .text t.name] ++ orAbsentAll boundFields t.bound ++
    [.number t.fare, .number t.total, flagField t.peak, .number t.version]

/-- The slot as SALE-STATUS gives it (R91). -/
def slotFields : SlotReport → List Field
  | .idle => [nth 0]
  | .quoted q seconds => nth 1 :: quoteFields q ++ [.number seconds]
  | .printing t p ref seconds => nth 2 :: ticketFields t ++ [nth p.ctorIdx, orAbsent .text ref, .number seconds]

/-- The takings of a payment kind (R107). -/
def takingsFields (t : TakingsReport) : List Field := [.number t.lifetime, .number t.released, .number t.outstanding]

/-- The reservation, which Table 6-1 gives the values 0 and 1: a number. DESIGN CHOICE, log 38. -/
def reservationField (reserved : Bool) : Field := .number reserved.toNat

/-- A panel profile (R111). -/
def profileFields (p : Profile) : List Field :=
  [flagField p.isPresent, nth p.kind.ctorIdx, .number p.rows, nth p.filter.ctorIdx, .number p.threshold]

/-- A queue entry (R120). -/
def queueFields (e : QueueEntry) : List Field := [addrField e.panel, flagField e.urgent]

/-- A displayable message, behind a code for the list it stands in (R128). DESIGN CHOICE, log 36. -/
def messageFields : MessageReport → List Field
  | .host id priority expiry arrival => [nth 0, .number id, nth priority.ctorIdx, orAbsent .number expiry, .number arrival]
  | .auto service minute => [nth 1, .number service, .number minute]

/-- Whether the line is in flight; the panel of the transaction and whether it is a refresh or a probe; of a refresh the
attempt count and the phase (R144). -/
def lineFields : LineReport → List Field
  | .free => [flagField false]
  | .probe a => [flagField true, addrField a, nth 1]
  | .refresh a attempts phase => [flagField true, addrField a, nth 0, .number attempts, nth phase.ctorIdx]

/-- A panel (R144). -/
def panelFields (p : PanelReport) : List Field :=
  [nth p.link.ctorIdx, orAbsent flagField p.shown, orAbsent flagField p.next, flagField p.pageKnown,
    orAbsent .signed p.temperature, .number p.silences, flagField p.probeDue, orAbsent .number p.timerSeconds]

/-- An entry of the level table (Table 9-2). -/
def entryFields (e : LevelEntry) : List Field :=
  [.number e.draw, .number e.rate, .number e.depth, .number e.rotation, .number e.lamp, orAbsent .number e.timeout]

/-- The enabled set (R148). -/
def enabledField (p : PerLevel Bool) : Field := members [p.ela, p.el0, p.el1, p.el2, p.el3, p.el4, p.el5]

/-- The destination of the transition in flight (R161). -/
def phaseDestination : EnergyPhase → Option HostLevel
  | .none => none
  | .raiseSettle d _ => some d
  | .lowerDrain d _ _ => some d

/-- The phase of the transition (R161). -/
def phaseFields : EnergyPhase → List Field
  | .none => [nth 0]
  | .raiseSettle _ ms => [nth 1, .number ms]
  | .lowerDrain _ line slot => [nth 2, flagField line, flagField slot]

/-- The fields of ENERGY-STATUS (R161). -/
def energyFields (r : EnergyReport) : List Field :=
  hostLevelFields r.present ++ [flagField r.brief] ++ hostLevelFields r.target ++
    orAbsentAll hostLevelFields (phaseDestination r.phase) ++ orAbsentAll hostLevelFields r.previous ++ phaseFields r.phase ++
    [levelField r.ceiling, levelField r.effective, levelField r.demand, orAbsent levelField r.battery,
      orAbsent levelField r.cold, orAbsent levelField r.quiet, orAbsent levelField r.host, orAbsent .number r.charge,
      flagField r.stale, orAbsent .number r.staleSeconds, enabledField r.enabled, .number r.capacity, .number r.draw]

/-- A value for each field input. -/
def inputFields {α : Type} (f : α → List Field) (x : Five α) : List Field :=
  f x.call ++ f x.presence ++ f x.card ++ f x.door ++ f x.aux

/-- The wake configuration (R169). -/
def wakeConfigFields (c : WakeConfig) : List Field :=
  inputFields (fun i => [nth i.sense.ctorIdx, flagField i.activity, flagField i.wake]) c.inputs ++
    [flagField c.approach, flagField c.clock, flagField c.link, .number c.returnTime]

/-- A woke record (R170). -/
def wokeFields (w : Woke) : List Field :=
  [match w.source with
    | .restart => nth 0
    | .field i => nth (1 + i.ctorIdx)
    | .approach => nth 6
    | .clock => nth 7
    | .link => nth 8,
    orAbsent (fun e => nth e.ctorIdx) w.edge, orAbsent .number w.minute]

/-- The demand timer: its seconds, or held (R172). R172 does not name a stopped one; it is absent as in R167. DESIGN CHOICE,
log 38. -/
def timerField : TimerReport → Field
  | .stopped => .other .absent
  | .held => nth 0
  | .running n => .number n

/-- The fields of WAKE-STATUS (R172). -/
def wakeReportFields (r : WakeReport) : List Field :=
  orAbsentAll wokeFields r.woke ++
    [members [r.flags.call, r.flags.presence, r.flags.card, r.flags.door, r.flags.aux],
      members [r.filtered.call, r.filtered.presence, r.filtered.card, r.filtered.door, r.filtered.aux],
      orAbsent flagField r.lock, levelField r.demand, timerField r.timer, flagField r.brief,
      orAbsent .number r.returnSeconds]

/-- Reasons for sales closed (R87). -/
def reasonsField (l : List Reason) : Field := setField (l.map Reason.ctorIdx)

/-! ### The fields of replies and requests -/

/-- The fields that follow the status and detail of a reply, in the order of the owner's rule. Every level that may
be ELA stands as R161 has a present one, its number and an approach flag, where R128, R150, R153 and R161 (of the previous
level) do not say how; the messages of BOARD-STATUS are one list; and the clamped flag follows every profile and level entry.
DESIGN CHOICE, log 36. -/
def replyFields : ReplyBody → List Field
  | .nothing => []
  | .identity vendor part revision services calls stations records panels messages autos body frames =>
    [.text vendor, .text part, .number revision, .number services, .number calls, .number stations, .number records,
      .number panels, .number messages, .number autos, .number body, .number frames]
  | .clearBusy records reserved slot => [.number records, reservationField reserved, nth slot.ctorIdx]
  | .notices l day =>
    numbered (fun n => [.number n.number, nth n.priority.ctorIdx, flagField n.enable]) l ++ orAbsentAll dayFields day
  | .noticesCleared cleared left => [setField cleared, setField left]
  | .noticeSettings l sense =>
    l.flatMap (fun n => [flagField n.enable, nth n.priority.ctorIdx]) ++ [nth sense.ctorIdx]
  | .clock c => clockFieldList c
  | .clockPlaced c rollover => clockFieldList c ++ [flagField rollover]
  | .header h => headerFields h
  | .inserted index count => [.number index, .number count]
  | .tableClosed date version count => [.date date, .number version, .number count]
  | .tableDropped was count => [nth was.ctorIdx, .number count]
  | .promoted date version count => [.date date, .number version, .number count]
  | .tableRead state header count record =>
    nth state.ctorIdx :: orAbsentAll headerFields header ++ .number count ::
      orAbsentAll (fun r => match r with
        | .planned p => plannedFields p
        | .current v => plannedFields v.plan ++ runningFields v) record
  | .serviceSettings grace window margin => [.number grace, .number window, .number margin]
  | .running outcome v expected clamped =>
    nth outcome.ctorIdx :: runningFields v ++ [.number expected, orAbsent flagField clamped]
  | .heading version date => [.number version, .date date]
  | .tariffClosed activated version date stations =>
    [flagField activated, .number version, orAbsent .date date, .number stations]
  | .tariffSummary state h =>
    nth state.ctorIdx ::
      orAbsentAll (fun x => [.number x.version, .date x.effective, .number x.stations, flagField x.hasRules]) h
  | .station x => stationFields x
  | .noStation state stations => [nth state.ctorIdx, .number stations]
  | .rules r => rulesFields r
  | .noRules state => [nth state.ctorIdx]
  | .trial r f =>
    [.text r.name, nth r.side.ctorIdx, .number r.fare, .number r.total, flagField r.peak, .number r.version,
      .number f.product, .number f.charge, .number f.base, flagField f.floorActed, flagField f.ceilingActed,
      .number f.typed, .number f.discounted, .number f.stepped, flagField f.zeroRaised, .number f.fare,
      flagField f.capActed, .number f.total]
  | .reasons l => [reasonsField l]
  | .salesState isOpen l => [flagField isOpen, reasonsField l]
  | .quoted q seconds service =>
    quoteFields q ++ [.number seconds] ++ orAbsentAll (fun v => [.number v.1, .number v.2]) service
  | .ticket t => ticketFields t
  | .concluded serial kind => [.number serial, nth kind.ctorIdx]
  | .standing s =>
    [orAbsent (fun x => match x with
      | .kind k => nth k.ctorIdx
      | .released => nth 3) s]
  | .slot s => [nth s.ctorIdx]
  | .saleStatus slot isOpen reasons first hostClosed last =>
    slotFields slot ++ [flagField isOpen, reasonsField reasons, orAbsent (fun r => nth r.ctorIdx) first, flagField hostClosed,
      orAbsent (fun w => nth w.ctorIdx) last]
  | .saleSettings kinds types =>
    [members [kinds.cash, kinds.card, kinds.voucher],
      members [types.single, types.ret, types.openSingle, types.openReturn]]
  | .records l newest count => [.number l.length, orAbsent .number newest, .number count]
  | .noRecords newest count => [orAbsent .number newest, .number count]
  | .released removed sums through records free =>
    [.number removed, .number sums.cash, .number sums.card, .number sums.voucher, .number through, .number records,
      .number free]
  | .releaseRefused serial through records free =>
    [orAbsent .number serial, .number through, .number records, .number free]
  | .takings kinds next through records oldest newest notHanded issued spoiled unconfirmed reserved free low lowArmed
      fullArmed =>
    takingsFields kinds.cash ++ takingsFields kinds.card ++ takingsFields kinds.voucher ++
      [.number next, .number through, .number records, orAbsent .number oldest, orAbsent .number newest,
        .number notHanded, .number issued, .number spoiled, .number unconfirmed, reservationField reserved, .number free,
        .number low, flagField lowArmed, flagField fullArmed]
  | .journalSettings low free lowArmed fullArmed => [.number low, .number free, flagField lowArmed, flagField fullArmed]
  | .profile p clamped => profileFields p ++ [flagField clamped]
  | .message replaced dropped count => [flagField replaced, orAbsent .number dropped, .number count]
  | .removed count => [.number count]
  | .queue l => listed queueFields l
  | .boardStatus credit depth rate accrual serving queue urgent composed messages position rotation lamp =>
    [.number credit, .number depth, .number rate, orAbsent .number accrual] ++ hostLevelFields (hostLevel serving) ++
      listed queueFields queue ++ [flagField urgent] ++
      [composed.p1, composed.p2, composed.p3, composed.p4].flatMap (fun c => [flagField c.1, flagField c.2]) ++
      listed messageFields messages ++ [orAbsent .number position, orAbsent .number rotation, .number lamp]
  | .link was => [nth was.ctorIdx]
  | .panelStatus mode rail idle line cold panels =>
    [nth mode.ctorIdx, nth rail.ctorIdx, orAbsent .number idle] ++ lineFields line ++ [flagField cold] ++
      panelFields panels.p1 ++ panelFields panels.p2 ++ panelFields panels.p3 ++ panelFields panels.p4
  | .levelEntry e clamped => entryFields e ++ [flagField clamped]
  | .ceiling written effective => [levelField written, levelField effective]
  | .limit host target => orAbsent levelField host :: hostLevelFields target
  | .capacity current enabled => [.number current, enabledField enabled]
  | .supply charge battery target => .number charge :: orAbsent levelField battery :: hostLevelFields target
  | .energySettings first last raise dormant => [.number first, .number last, .number raise, .number dormant]
  | .energyStatus r => energyFields r
  | .activity demand seconds => [levelField demand, orAbsent .number seconds]
  | .wakeConfig c => wakeConfigFields c
  | .wakeStatus r => wakeReportFields r

/-- What WAKE-CONFIG carries for a field input (R169). -/
def carriedInput (f : InputField) : List Field :=
  [orAbsent (codedField Sense.ctorIdx) f.sense, orAbsent (codedField Bool.toNat) f.activity,
    orAbsent (codedField Bool.toNat) f.wake]

/-- A set that a request names (R75). -/
def namedSet {α : Type} (index : α → Nat) (l : List (Coded α)) : Field := .other (.set (l.map (codeOf index)))

/-- The level selector of LEVEL-TABLE: a number 0 to 5, or a code for the word APPROACH, in the place of the number (R146); a
value outside both is a code too. DESIGN CHOICE, log 38. -/
def selectorField : Coded Level → Field
  | .named .ela => nth 0
  | .named l => levelField l
  | .other n => .other (.coded (-1 - (n : Int)))

/-- The fields of a request whose body Section 11.8 does not lay out, in the order of its rule; none for the other
commands. -/
def requestFields : Instr → List Field
  | .noticeClear sources => [setField sources]
  | .noticeConfig fields sense =>
    listed (fun f => [.number f.source, orAbsent flagField f.enable,
      orAbsent (codedField NoticePriority.ctorIdx) f.priority]) fields ++
      [orAbsent (codedField DoorSense.ctorIdx) sense]
  | .clockSet year month day hour minute second =>
    [.number year, .number month, .number day, .number hour, .number minute, .number second]
  | .tableOpen date dayType darkUntil darkFrom version =>
    [.date date, codedField DayType.ctorIdx dayType, .number darkUntil, .number darkFrom, .number version]
  | .tablePromote version => [.number version]
  | .tableRead selector index => [codedField TableSel.ctorIdx selector, .number index]
  | .serviceSettings grace window margin => [orAbsent .number grace, orAbsent .number window, orAbsent .number margin]
  | .running number stamp kind argument =>
    [.number number, .number stamp, codedField RunKind.ctorIdx kind, .signed argument]
  | .tariffOpen version date => [.number version, .date date]
  | .tariffStation code name distance side =>
    [.number code, .text name, .number distance, codedField Direction.ctorIdx side]
  | .tariffRules rules => rulesFields rules
  | .tariffRead selector part index =>
    [codedField TariffSel.ctorIdx selector, codedField TariffPart.ctorIdx part] ++
      (if part = .named .station then [.number index] else [])
  | .fareTrial selector code ticket cls quantity peak =>
    [codedField TariffSel.ctorIdx selector, .number code, codedField TicketType.ctorIdx ticket, .number cls,
      .number quantity, codedField PeakSel.ctorIdx peak]
  | .saleQuote code ticket cls quantity selector service =>
    [.number code, codedField TicketType.ctorIdx ticket, .number cls, .number quantity,
      codedField ServiceSel.ctorIdx selector, orAbsent .number service]
  | .saleCommit payment reference => [codedField Payment.ctorIdx payment, orAbsent .text reference]
  | .salePrinted serial outcome => [.number serial, codedField PrintOutcome.ctorIdx outcome]
  | .saleSettings kinds types =>
    [orAbsent (namedSet Payment.ctorIdx) kinds, orAbsent (namedSet TicketType.ctorIdx) types]
  | .journalRead fromSerial count => [.number fromSerial, .number count]
  | .journalRelease through => [.number through]
  | .journalSettings low => [orAbsent .number low]
  | .panelProfile address presence kind rows filter threshold =>
    [.number address, orAbsent (codedField Bool.toNat) presence, orAbsent (codedField PanelKind.ctorIdx) kind,
      orAbsent .number rows, orAbsent (codedField DirFilter.ctorIdx) filter, orAbsent .number threshold]
  | .boardText id priority lines expiry =>
    [.number id, codedField MsgPriority.ctorIdx priority] ++ listed (fun l => [.text l]) lines ++
      [orAbsent .number expiry]
  | .boardTextDrop id => [id.elim (nth 0) .number]
  | .boardRefresh address urgent => [address.elim (nth 0) .number, codedField Bool.toNat urgent]
  | .panelReset address => [.number address]
  | .levelTable selector draw rate depth rotation lamp timeout =>
    [selectorField selector, orAbsent .number draw, orAbsent .number rate, orAbsent .number depth,
      orAbsent .number rotation, orAbsent .number lamp, orAbsent .number timeout]
  | .levelCeiling value => [orAbsent .number value]
  | .levelLimit value =>
    [match value with
      | .absent => .other .absent
      | .noLimit => nth 0
      | .level n => .number n
      | .other n => .other (.coded (-1 - (n : Int)))]
  | .supplyCapacity current => [orAbsent .number current]
  | .supplyReport charge => [.signed charge]
  | .energySettings first last raise dormant =>
    [orAbsent .number first, orAbsent .number last, orAbsent .number raise, orAbsent .number dormant]
  | .wakeConfig f =>
    inputFields carriedInput f.inputs ++
      [orAbsent (codedField Bool.toNat) f.approach, orAbsent (codedField Bool.toNat) f.clock,
        orAbsent (codedField Bool.toNat) f.link, orAbsent .number f.returnTime]
  | .tableAdd .. => []
  | .identify | .restart | .clearRetained | .noticeRead | .clockRead | .tableClose | .tableDrop | .tariffClose | .saleCancel
  | .saleStatus | .salesClose | .salesOpen | .takingsRead | .boardStatus | .panelStatus | .energyStatus | .activity
  | .wakeStatus => []
  | .powerOn .. | .resetnAsserted | .resetnReleased .. | .frameComplete .. | .interByteGap | .replySent | .hostByteReceived ..
  | .powerLoss | .clockSecond | .quoteTimerExpiry | .printTimerExpiry | .accrualTimerExpiry | .rotationTimerExpiry
  | .serveEntry | .probeStart | .railSettleExpiry | .panelReply .. | .replyWaitExpiry | .drawingWaitExpiry
  | .probeIntervalExpiry | .retryWaitExpiry | .unknownReprobeDelay .. | .offlineProbeTimerExpiry ..
  | .coldProbeTimerExpiry .. | .railIdleExpiry | .raiseSettleExpiry | .loweringComplete | .staleTimerExpiry
  | .fieldInputEdge .. | .filterInitialLevel .. | .demandTimerExpiry | .briefEpisodeStart | .returnTimerExpiry
  | .briefEpisodeReturn => []

end Sys2Proof.Machine
end

