-- ==== Sys2Proof/Machine/Activity.lean ====
section
/-! DEFINITION. Activity, wakes and brief episodes as the Activity and Wake Unit takes them (R165, R170, R173, R174). -/

namespace Sys2Proof.Machine

/-- A brief episode ends: the flag clears and the return timer stops, given to the three blocks (R174). -/
def endBrief (s : State) : State :=
  retarget (followRailMode { s with awu.brief := false, awu.returnTimer := .stopped })

/-- A brief episode starts: the flag is set and the return timer started (R173). -/
def startBrief (s : State) : State :=
  retarget
    (followRailMode { s with awu.brief := true, awu.returnTimer := .running (s.awu.config.returnTime * 1000) })

/-- The conditions of R173 for a brief episode to start. -/
def briefStarts (s : State) : Bool :=
  decide (s.enm.present = .el5) && s.awu.urgent && decide (s.enm.battery ≠ some .el5) && !s.awu.brief

/-- The start of a brief episode is judged (R173). -/
def judgeBriefStart (s : State) : State := if briefStarts s then startBrief s else s

/-- Activity: the demand level is set to the effective ceiling and the timer restarted unless held; a brief episode
ends (R165, R174). -/
def activity (s : State) : State :=
  let s1 := restartDemandTimer { s with awu.demand := s.enm.effective }
  if s1.awu.brief then endBrief s1 else retarget s1

/-- A wake: activity, then the woke record is written whole, a field input's woke flag set, and WOKE raised (R170). -/
def wake (source : WokeSource) (edge : Option Edge) (s : State) : State :=
  let s1 := activity s
  let s2 := { s1 with awu.woke := some ⟨source, edge, nowMinute s1⟩ }
  raiseNotice .woke
    (match source with
    | .field i => { s2 with awu.wokeFlags := fiveSet s2.awu.wokeFlags i true }
    | _ => s2)

/-- An event of an internal source: a wake if its wake flag is set and the present level is EL4 or EL5 (R170). -/
def internalEvent (flag : Bool) (source : WokeSource) (s : State) : State :=
  if flag && resting s.enm.present then wake source none s else s

/-- Whether a sense admits an edge (R168). -/
def admits : Sense → Edge → Bool
  | .rising, .rising => true
  | .falling, .falling => true
  | .either, _ => true
  | _, _ => false

/-- What a change of CALL's filtered level to `high` does to the re-wake lock before the edge is judged (R171). -/
def passLock (high : Bool) (lock : Option CallLock) : Option CallLock :=
  match lock with
  | none => none
  | some k =>
    if high = k.active then (if k.otherSeen then none else some k) else some { k with otherSeen := true }

/-- An input event: activity by its activity flag, and at EL4 or EL5 a wake by its wake flag, for CALL unless the
re-wake lock is set; a wake by CALL sets the lock with the level reached (R168, R170, R171). -/
def inputEvent (i : FieldInput) (high : Bool) (s : State) : State :=
  let c := fiveGet s.awu.config.inputs i
  let locked := decide (i = .call) && s.awu.lock.isSome
  if c.wake && resting s.enm.present && !locked then
    let s1 := wake (.field i) (some (if high then .rising else .falling)) s
    if i = .call then { s1 with awu.lock := some ⟨high, false⟩ } else s1
  else if c.activity then activity s
  else s

/-- The Host Link takes a change of DOOR's filtered level: a change to open raises DOOR-OPEN under either sense (R184). -/
def doorChange (i : FieldInput) (high : Bool) (s : State) : State :=
  if i = .door && high then raiseNotice .doorOpen s else s

/-- An edge of a field input (R168): its filtered level changes to `high`, the door is reported, the re-wake lock passed,
and an admitted edge is an input event. -/
def inputEdge (i : FieldInput) (high : Bool) (s : State) : State :=
  let s1 := doorChange i high { s with awu.filtered := fiveSet s.awu.filtered i (some high) }
  let s2 := if i = .call then { s1 with awu.lock := passLock high s1.awu.lock } else s1
  if admits (fiveGet s.awu.config.inputs i).sense (if high then .rising else .falling) then inputEvent i high s2 else s2

end Sys2Proof.Machine
end

