-- ==== Sys2Proof/Machine/PanelLine.lean ====
section
/-! DEFINITION. The Panel Line Controller: transactions, attempts, answers and silences, resynchronisation, cold panels
and the rail's timers (Chapter 8). -/

namespace Sys2Proof.Machine

/-! ### Panel records (R130) -/

/-- The record of a panel. -/
def panelAt (s : State) (a : Addr) : PanelRecord := s.plc.panels.get a

/-- The record of a panel replaced. -/
def setPanel (a : Addr) (p : PanelRecord) (s : State) : State := { s with plc.panels := s.plc.panels.set a p }

/-- The offline probe timer: 60 s (R138). -/
def offlineProbe : Nat := 60000

/-- The cold probe timer: 10 min (R141). -/
def coldProbe : Nat := 600000

/-- The wait before an UNKNOWN panel is probed again: 1 s (R139). -/
def unknownProbe : Nat := 1000

/-- A temperature as it is recorded (R131). -/
def recordedTemperature (t : Int) : Int := clampInt (-40) 85 t

/-- The record of a panel entering UNKNOWN, with the last temperature it starts from (R130, R139, R140). -/
def unknownPanel (temperature : Option Int) : PanelRecord :=
  ⟨.unknown, none, none, none, temperature, 0, 0, true, none⟩

/-- A panel enters OFFLINE (R138). -/
def goOffline (a : Addr) (s : State) : State :=
  raiseNotice .panelOffline
    (setPanel a
      { panelAt s a with link := .offline, page := none, probeDue := false, probeTimer := some offlineProbe } s)

/-- A panel enters COLD (R141). -/
def goCold (a : Addr) (s : State) : State :=
  raiseNotice .panelCold (setPanel a { panelAt s a with link := .cold, probeTimer := some coldProbe } s)

/-! ### Transactions (R132, R143) -/

/-- The line's transaction replaced. -/
def setLine (t : Option Transaction) (s : State) : State := { s with plc.line := t }

/-- A transaction takes the line: with the rail ON its first frame is sent, in `first`; else it waits for the settle, and
outside mode OFF a rail that is off is switched on (R143). -/
def beginTransaction (a : Addr) (w : Work) (first : LinePhase) (s : State) : State :=
  let s1 := { s with plc.idle := none }
  if s.plc.rail = .on ∧ s.plc.mode ≠ .off then setLine (some ⟨a, w, first, false⟩) s1
  else
    setLine (some ⟨a, w, .settle, false⟩)
      (if s.plc.rail = .off ∧ s.plc.mode ≠ .off then { s1 with plc.rail := .settling railSettle } else s1)

/-- A transaction ends: the line is free; in GATED the idle timer starts, in OFF the rail is switched off (R143). -/
def endTransaction (s : State) : State :=
  let s1 := setLine none s
  match s.plc.mode with
  | .always => s1
  | .gated => if s.plc.rail = .off then s1 else { s1 with plc.idle := some railIdle }
  | .off => { s1 with plc.rail := .off, plc.idle := none }

/-- The phase that the sending of a PROBE enters; the next PROBE's time is 500 ms after it (R134). -/
def probeSent : LinePhase := .probing 500

/-- An attempt begins with its LOAD of the next toggle, as it stands (R133, R135). -/
def startAttempt (t : Transaction) (r : Refresh) (s : State) : State :=
  setLine (some { t with work := .refresh { r with toggle := (panelAt s t.panel).next, probes := 0 }, phase := .load }) s

/-- The first frame of a transaction that has waited for the rail (R143). -/
def firstFrame (t : Transaction) (s : State) : State :=
  match t.work with
  | .probe => setLine (some { t with phase := probeSent }) s
  | .refresh r => startAttempt t r s

/-- A refresh of a READY panel handed over with a page (R133): a last temperature below −15 makes the panel COLD and the
refresh is dropped; else the refresh begins. -/
def startRefresh (a : Addr) (page : Page) (s : State) : State :=
  let p := panelAt s a
  if p.temperature.any fun t => decide (t < -15) then goCold a s
  else
    let r : Refresh := { page := page, toggle := p.next, credited := false, duration := 0, probes := 0 }
    beginTransaction a (.refresh r) .load (setPanel a { p with attempts := 0 } s)

/-- A probe of a panel begins; its probe-due flag is cleared (R132). -/
def startProbe (a : Addr) (s : State) : State :=
  beginTransaction a .probe probeSent (setPanel a { panelAt s a with probeDue := false } s)

/-- The panel whose probe takes the line now: the lowest one due, with the line free and the rail mode not OFF (R132). -/
def probeReady (s : State) : Option Addr :=
  if s.plc.line.isNone ∧ s.plc.mode ≠ .off then allPanels.find? fun a => (panelAt s a).probeDue else none

/-- Whether the transaction waits for the answer to a frame. -/
def LinePhase.awaits : LinePhase → Bool
  | .load => true
  | .show => true
  | .probing _ => true
  | _ => false

/-! ### Attempts (R134 to R136) -/

/-- The drawing duration in seconds for a last temperature (Table 8-4). The table has no row below −15, which R134 says
cannot be met; a STATE of a drawing panel followed by a failed attempt meets it all the same, and the duration then is the
free `Config.openDrawing` (log 32). -/
def drawingDuration : Option Int → Nat
  | some t =>
    if 15 ≤ t then 2 else if 5 ≤ t then 3 else if -5 ≤ t then 5 else if -15 ≤ t then 9 else Config.openDrawing (some t)
  | none => Config.openDrawing none

/-- Whether the schedule holds a further PROBE after `probes` sent: at most 4d + 1 (R134). -/
def probeLeft (r : Refresh) : Bool := decide (r.probes < 4 * r.duration + 1)

/-- A failed attempt (R135); `silent` where the failure was a silence. A third failure drops the refresh: after a silence
with the panel OFFLINE, else with an ordinary entry queued for it (R125). -/
def failAttempt (silent : Bool) (t : Transaction) (s : State) : State :=
  let p := panelAt s t.panel
  let q := { p with attempts := p.attempts + 1, link := if p.link = .refreshing then .ready else p.link }
  let s1 := setPanel t.panel q s
  if q.attempts < 3 then setLine (some { t with phase := .retry 1000 }) s1
  else if silent then endTransaction (goOffline t.panel s1)
  else requestRefresh false (endTransaction s1) t.panel

/-- A panel found stuck: its shown page becomes unknown and the attempt fails (R134). -/
def stuck (silent : Bool) (t : Transaction) (s : State) : State :=
  failAttempt silent t (setPanel t.panel { panelAt s t.panel with page := none } s)

/-- A PROBE of a drawing panel that has not ended the attempt: the next one, if the schedule holds one (R134). -/
def probeAgain (silent : Bool) (t : Transaction) (r : Refresh) (left : Nat) (s : State) : State :=
  if probeLeft r then setLine (some { t with phase := .interval left }) s else stuck silent t s

/-- A FAULT to LOAD or SHOW (R136). -/
def takeFault (t : Transaction) (s : State) : State :=
  raiseNotice .panelFault
    (endTransaction (setPanel t.panel { panelAt s t.panel with link := .faulted, page := none } s))

/-- A SHOW answered TAKEN (R134): the panel is REFRESHING and the drawing wait starts; the first of the refresh takes a
credit, never below 0 (R122, R125). -/
def takeShow (t : Transaction) (r : Refresh) (s : State) : State :=
  let p := panelAt s t.panel
  let d := drawingDuration p.temperature
  let s1 := setPanel t.panel { p with link := .refreshing } s
  let s2 := if r.credited then s1 else { s1 with bdc.credit := s1.bdc.credit - 1 }
  setLine (some { t with work := .refresh { r with credited := true, duration := d }, phase := .drawing (d * 1000) }) s2

/-- A STATE from a drawing panel (R134): completion, a toggle mismatch, or a further PROBE. -/
def takeDrawingState (t : Transaction) (r : Refresh) (left : Nat) (toggle busy : Bool) (s : State) : State :=
  let p := panelAt s t.panel
  if busy then probeAgain false t r left s
  else if r.toggle = some toggle then
    endTransaction
      (setPanel t.panel { p with link := .ready, shown := some toggle, next := some !toggle, page := some r.page } s)
  else
    failAttempt false t (setPanel t.panel { p with shown := some toggle, next := some !toggle, page := none } s)

/-! ### Resynchronisation and cold probes (R139, R141) -/

/-- A STATE to a probe of an UNKNOWN or OFFLINE panel (R139). -/
def resynchronise (a : Addr) (toggle : Bool) (t : Int) (s : State) : State :=
  let p := panelAt s a
  let q : PanelRecord :=
    { p with shown := some toggle, next := some !toggle, page := none, attempts := 0, probeTimer := none
             link := if -15 ≤ t then .ready else p.link }
  let s1 := endTransaction (setPanel a q s)
  let s2 := if -15 ≤ t then requestRefresh false s1 a else goCold a s1
  if p.link = .offline then raiseNotice .panelBack s2 else s2

/-- A STATE to a probe of a COLD panel (R141): READY from −13 up, with an ordinary refresh; else COLD for 10 more minutes.
The shown page is kept (log 16). -/
def takeColdState (a : Addr) (toggle : Bool) (t : Int) (s : State) : State :=
  let q := { panelAt s a with shown := some toggle, next := some !toggle }
  if -13 ≤ t then
    requestRefresh false (endTransaction (setPanel a { q with link := .ready, probeTimer := none } s)) a
  else endTransaction (setPanel a { q with probeTimer := some coldProbe } s)

/-- A STATE to a probe, by the panel's link state. -/
def takeProbeState (a : Addr) (toggle : Bool) (t : Int) (s : State) : State :=
  match (panelAt s a).link with
  | .unknown => resynchronise a toggle t s
  | .offline => resynchronise a toggle t s
  | .cold => takeColdState a toggle t s
  | _ => endTransaction s

/-! ### Answers and silences (R131) -/

/-- Whether Table 8-3 allows an answer to the frame of a phase. -/
def LinePhase.allows : LinePhase → PanelAnswer → Bool
  | .probing _, .state _ _ _ => true
  | .load, .taken => true
  | .load, .busy => true
  | .load, .fault => true
  | .show, .taken => true
  | .show, .busy => true
  | .show, .fault => true
  | _, _ => false

/-- An allowed answer to the frame on the line; the silence count is 0 and a STATE's temperature recorded already. -/
def applyAnswer (t : Transaction) (answer : PanelAnswer) (s : State) : State :=
  match t.work, t.phase, answer with
  | .refresh _, .load, .taken => setLine (some { t with phase := .show }) s
  | .refresh r, .show, .taken => takeShow t r s
  | .refresh _, _, .fault => takeFault t s
  | .refresh _, _, .busy => failAttempt false t s
  | .refresh r, .probing left, .state toggle busy _ => takeDrawingState t r left toggle busy s
  | .probe, _, .state toggle _ temp => takeProbeState t.panel toggle (recordedTemperature temp) s
  | _, _, _ => s

/-- What every answer does to the panel's record: silences 0, and a STATE's temperature recorded (R131). -/
def noteAnswer (answer : PanelAnswer) (p : PanelRecord) : PanelRecord :=
  match answer with
  | .state _ _ t => { p with silences := 0, temperature := some (recordedTemperature t) }
  | _ => { p with silences := 0 }

/-- An allowed answer is taken (R131); one to a discarded transaction only ends it (R137). -/
def takeAnswer (t : Transaction) (answer : PanelAnswer) (s : State) : State :=
  if t.discarded then endTransaction s
  else applyAnswer t answer (setPanel t.panel (noteAnswer answer (panelAt s t.panel)) s)

/-- A silence to a probe below the third (R138, R139, R141): the panel's timer toward its next probe starts. -/
def probeSilent (a : Addr) (s : State) : State :=
  let p := panelAt s a
  let wait : Option Nat :=
    match p.link with
    | .offline => some offlineProbe
    | .unknown => some unknownProbe
    | .cold => some coldProbe
    | _ => none
  endTransaction (setPanel a { p with probeTimer := wait } s)

/-- A silence to a frame of a refresh below the third (R133, R134). -/
def refreshSilent (t : Transaction) (r : Refresh) (s : State) : State :=
  match t.phase with
  | .probing left => probeAgain true t r left s
  | _ => failAttempt true t s

/-- A silence is taken: the count rises, to 3 at most; the third makes any panel but an OFFLINE one OFFLINE at once
(R131, R138). A third silence that would also fail an attempt (R133, R134) adds nothing to the attempt count. DESIGN
CHOICE, log 35. -/
def takeSilence (t : Transaction) (s : State) : State :=
  if t.discarded then endTransaction s
  else
    let p := panelAt s t.panel
    let s1 := setPanel t.panel { p with silences := min 3 (p.silences + 1) } s
    if 2 ≤ p.silences ∧ p.link ≠ .offline then endTransaction (goOffline t.panel s1)
    else
      match t.work with
      | .probe => probeSilent t.panel s1
      | .refresh r => refreshSilent t r s1

/-- 50 ms without a reply (R131). -/
def replyWait (s : State) : State :=
  match s.plc.line with
  | some t => if t.phase.awaits then takeSilence t s else s
  | none => s

/-- A reply on the line (R131): the answer of the addressed panel, or a silence; without a frame that awaits one it is
nothing (log 4). A reply that is no answer is the silence of its frame at once, and a reply that begins after it in the
same 50 ms is not looked at. DESIGN CHOICE, log 30. -/
def panelReplied (source : Addr) (checkPasses : Bool) (answer : PanelAnswer) (s : State) : State :=
  match s.plc.line with
  | some t =>
    if !t.phase.awaits then s
    else if source = t.panel ∧ checkPasses = true ∧ t.phase.allows answer = true then takeAnswer t answer s
    else takeSilence t s
  | none => s

/-! ### Timers of the line and the rail -/

/-- The drawing duration has passed: the first PROBE of the attempt (R134). -/
def drawingExpiry (s : State) : State :=
  match s.plc.line with
  | some ⟨a, .refresh r, .drawing _, d⟩ =>
    setLine (some ⟨a, .refresh { r with probes := 1 }, probeSent, d⟩) s
  | _ => s

/-- 500 ms after the last PROBE: a further one (R134). -/
def intervalExpiry (s : State) : State :=
  match s.plc.line with
  | some ⟨a, .refresh r, .interval _, d⟩ =>
    setLine (some ⟨a, .refresh { r with probes := r.probes + 1 }, probeSent, d⟩) s
  | _ => s

/-- 1 s after a failed attempt: the next attempt (R135). -/
def retryExpiry (s : State) : State :=
  match s.plc.line with
  | some ⟨a, .refresh r, .retry left, d⟩ => startAttempt ⟨a, .refresh r, .retry left, d⟩ r s
  | _ => s

/-- The rail settle ends: the rail is ON and a transaction that waits sends its first frame (R143). -/
def railSettled (s : State) : State :=
  match s.plc.rail with
  | .settling _ =>
    let s1 := { s with plc.rail := .on }
    match s.plc.line with
    | some t => if t.phase = .settle then firstFrame t s1 else s1
    | none => s1
  | _ => s

/-- The idle timer expires: the rail is switched off (R143). -/
def railIdleExpiry (s : State) : State :=
  if s.plc.idle.isSome then { s with plc.rail := .off, plc.idle := none } else s

/-- Whether the probe timer of a panel counts: that of an OFFLINE panel only while the rail is ON (R138), the others
whatever the rail does (R139, R141). -/
def probeTimerCounts (link : LinkState) (rail : Rail) : Bool := decide (link ≠ .offline) || decide (rail = .on)

/-- A probe timer expires for a panel of a link state in which it counts: its probe falls due (R138, R139, R141). -/
def probeTimerExpiry (link : LinkState) (a : Addr) (s : State) : State :=
  let p := panelAt s a
  if p.link = link ∧ p.probeTimer.isSome ∧ probeTimerCounts link s.plc.rail = true then
    setPanel a { p with probeDue := true, probeTimer := none } s
  else s

/-! ### Profile changes and PANEL-RESET (R112, R130, R137, R140) -/

/-- A transaction in flight to a panel is discarded: at once where no frame is on the line, else with the frame's answer
(R137). -/
def discardTransaction (a : Addr) (s : State) : State :=
  match s.plc.line with
  | some t =>
    if t.panel ≠ a then s
    else if t.phase.awaits then setLine (some { t with discarded := true }) s
    else endTransaction s
  | none => s

/-- A panel becomes ABSENT (R130, R137). -/
def panelAbsent (a : Addr) (s : State) : State := discardTransaction a (setPanel a absentPanel s)

/-- A panel becomes UNKNOWN from ABSENT (R130). -/
def panelPresent (a : Addr) (s : State) : State := setPanel a (unknownPanel none) s

/-- Whether a transaction to a panel is in flight. -/
def inFlightTo (a : Addr) (s : State) : Bool := s.plc.line.any fun t => t.panel == a

/-- PANEL-RESET (R140). -/
def panelResetRule (address : Nat) (s : State) : State × Answer :=
  match panelOf address with
  | none => (s, refuse .range .field)
  | some a =>
    let p := panelAt s a
    if p.link = .absent then (s, refuse .unknown .panel)
    else if inFlightTo a s then (s, refuse .busy .none)
    else (setPanel a (unknownPanel p.temperature) s, done (.link p.link))

/-! ### PANEL-STATUS (R144) -/

/-- A panel as PANEL-STATUS returns it. -/
def panelReport (p : PanelRecord) : PanelReport :=
  ⟨p.link, p.shown, p.next, p.page.isSome, p.temperature, p.silences, p.probeDue, p.probeTimer.map secondsLeft⟩

/-- The name of a phase of a refresh; the wait between two PROBEs belongs to PROBING. -/
def LinePhase.name : LinePhase → PhaseName
  | .settle => .settle
  | .load => .load
  | .show => .show
  | .drawing _ => .drawing
  | .probing _ => .probing
  | .interval _ => .probing
  | .retry _ => .retryWait

/-- The line as PANEL-STATUS returns it. -/
def lineReport (s : State) : LineReport :=
  match s.plc.line with
  | none => .free
  | some t =>
    match t.work with
    | .probe => .probe t.panel
    | .refresh _ => .refresh t.panel (panelAt s t.panel).attempts t.phase.name

/-- The rail state without its time. -/
def railState : Rail → RailState
  | .off => .off
  | .settling _ => .settling
  | .on => .on

/-- PANEL-STATUS (R144). -/
def panelStatusRule (s : State) : State × Answer :=
  (s, done (.panelStatus s.plc.mode (railState s.plc.rail) (s.plc.idle.map secondsLeft) (lineReport s) s.plc.cold
    (s.plc.panels.map panelReport)))

end Sys2Proof.Machine
end

