-- ==== Sys2Proof/Machine/Timetable.lean ====
section
/-! DEFINITION. The Timetable Store: evaluation of the services, running messages, loading, promotion, rollover and the
questions of other blocks (Chapters 2 and 3). -/

namespace Sys2Proof.Machine

/-! ### The minute evaluation (R42, R43) -/

/-- SCHEDULED or DELAYED by the delay (R33). -/
def runningStatus (delay : Nat) : Status := if delay = 0 then .scheduled else .delayed

/-- One service evaluated against the present minute: the lapse rule, then the approach rule (R42, R43). -/
def evaluateService (grace window now : Nat) (v : Service) : Service :=
  if v.status.isRunning then
    if expectedMinute v + grace ≤ now then { v with status := .lapsed, approach := false }
    else if expectedMinute v ≤ now + window then { v with approach := true }
    else v
  else v

/-! ### What an evaluation hands on (R44 to R48) -/

/-- Causes of a service-bound change event (Table 3-5). -/
inductive ChangeCause where
  | cancel | reinstate | platform | approach | revival | delay | lapse | departed
deriving DecidableEq, Repr

/-- Whether a service gives a cause, by comparing it before and after (R41, R46). -/
def givesCause (old new : Service) : ChangeCause → Bool
  | .cancel => decide (old.status ≠ .cancelled) && decide (new.status = .cancelled)
  | .reinstate =>
    decide (old.status = .cancelled) && decide (new.status ≠ .cancelled) && decide (new.status ≠ .departed)
  | .platform => decide (old.platform ≠ new.platform)
  | .approach => !old.approach && new.approach
  | .revival => decide (old.status = .lapsed) && new.status.isRunning
  | .delay => decide (old.delay ≠ new.delay) && decide (old.status ≠ .lapsed) && decide (new.status ≠ .lapsed)
  | .lapse => old.status.isRunning && decide (new.status = .lapsed)
  | .departed => decide (old.status ≠ .departed) && decide (new.status = .departed)

/-- The causes in the order of Table 3-5. -/
def changeCauses : List ChangeCause :=
  [.cancel, .reinstate, .platform, .approach, .revival, .delay, .lapse, .departed]

/-- The status texts of a departures row, without the time of "Exp hh:mm" (R114). -/
inductive StatusText where
  | approaching | cancelled | expected | onTime
deriving DecidableEq, Repr

/-- The status text a panel with a threshold shows for a service (R114). -/
def statusText (threshold : Nat) (v : Service) : StatusText :=
  if v.approach then .approaching
  else if v.status = .cancelled then .cancelled
  else if threshold ≤ v.delay then .expected
  else .onTime

/-- Whether the status text changes between "On time" and "Exp hh:mm", or between "CANCELLED" and another (R47). -/
def textUrgent : StatusText → StatusText → Bool
  | .onTime, .expected => true
  | .expected, .onTime => true
  | .cancelled, .cancelled => false
  | .cancelled, _ => true
  | _, .cancelled => true
  | _, _ => false

/-- Whether a DELAY change event is URGENT for a panel: by the text it shows before and after; ORDINARY for a panel with no
threshold of its own, ABSENT or not a DEPARTURES panel (R47). -/
def delayUrgent (old new : Service) (p : Profile) : Bool :=
  p.isPresent && p.kind == .departures && textUrgent (statusText p.threshold old) (statusText p.threshold new)

/-- The class of a change event for a panel (Table 3-5, R47). -/
def causeUrgent (old new : Service) : ChangeCause → Profile → Bool
  | .delay, p => delayUrgent old new p
  | .lapse, _ => false
  | .departed, _ => false
  | _, _ => true

/-- The terminus: the last code of the calling list (R15). -/
def terminus (v : Service) : Nat := (v.plan.calls.getLast?).getD 0

/-- The Board Composer takes a change event: the automatic list by CANCEL with a sold count above 0 and by REINSTATE
(R117), and the refreshes (R121). -/
def changeEvent (old new : Service) (s : State) (cause : ChangeCause) : State :=
  let d := new.plan.direction
  match cause with
  | .cancel =>
    if decide (0 < new.sold) && !hasAuto s new.plan.number then
      requestEach (wantForService d (fun _ => true) (some true))
        (putAuto new.plan.number new.plan.minute (terminus new) s)
    else requestEach (wantForService d (fun _ => true) none) s
  | .reinstate =>
    requestEach (wantForService d (fun _ => true) (if hasAuto s new.plan.number then some false else none))
      (keepMessages (fun _ => true) (fun e => decide (e.service ≠ new.plan.number)) s)
  | c => requestEach (wantForService d (causeUrgent old new c) none) s

/-- The change events of one service (R46). -/
def changeEvents (s : State) (p : Service × Service) : State :=
  (changeCauses.filter (givesCause p.1 p.2)).foldl (changeEvent p.1 p.2) s

/-- An approach start: activity, and an event of the APPROACH source (R45). -/
def approachStart (s : State) (p : Service × Service) : State :=
  if givesCause p.1 p.2 .approach then
    let s1 := activity s
    internalEvent s1.awu.config.approach .approach s1
  else s

/-- A status event: a service that leaves SCHEDULED and DELAYED for a stopped or final status withdraws the quote bound
to it, with reason SERVICE (R48, R79). -/
def statusEvent (s : State) (p : Service × Service) : State :=
  if p.1.status.isRunning && !p.2.status.isRunning then
    match s.slc.slot with
    | .quoted q _ => if q.bound.map (·.number) = some p.2.plan.number then withdraw .service s else s
    | _ => s
  else s

/-- What an evaluation hands on, after the table stands as it has left it: the approach condition, approach starts,
status events, change events (3.4.1; their order is the model's, log 7). -/
def handOn (pairs : List (Service × Service)) (s : State) : State :=
  pairs.foldl changeEvents (pairs.foldl statusEvent (pairs.foldl approachStart (retarget s)))

/-- The minute evaluation of every service of a PRESENT current table (R42, R43). -/
def minuteEvaluation (now : Nat) (s : State) : State :=
  match s.tts.current with
  | none => s
  | some t =>
    let services := t.services.map (evaluateService s.tts.grace s.tts.window now)
    handOn (t.services.zip services) { s with tts.current := some { t with services := services } }

/-- The evaluation against the present minute, where the clock is SET (R22, R27). -/
def evaluateNow (s : State) : State := (nowMinute s).elim s fun m => minuteEvaluation m s

/-! ### Running messages (R34 to R41) -/

/-- The delay a DELAY argument gives: clamped to 0 to 720 (R36). -/
def delayOf (argument : Int) : Nat := (clampInt 0 720 argument).toNat

/-- A message applied by the rule for its kind (R36 to R40). -/
def applyKind (kind : RunKind) (argument : Int) (grace now : Nat) (v : Service) : Service :=
  match kind, v.status with
  | .delay, .lapsed =>
    if now < v.plan.minute + delayOf argument + grace then
      { v with delay := delayOf argument, status := runningStatus (delayOf argument) }
    else { v with delay := delayOf argument }
  | .delay, .cancelled => { v with delay := delayOf argument }
  | .delay, _ => { v with delay := delayOf argument, status := runningStatus (delayOf argument) }
  | .cancel, .cancelled => v
  | .cancel, _ => { v with status := .cancelled, approach := false }
  | .reinstate, .cancelled => { v with status := runningStatus v.delay }
  | .reinstate, _ => v
  | .platform, _ => { v with platform := argument.toNat, altered := argument.toNat != v.plan.platform }
  | .departed, _ => { v with status := .departed, approach := false }

/-- The current table with the service of a number replaced. -/
def replaceService (v : Service) (s : State) : State :=
  { s with
    tts.current := s.tts.current.map fun t =>
      { t with services := t.services.map fun w => if w.plan.number = v.plan.number then v else w } }

/-- The service as a message leaves it: applied, stamped and evaluated (R35, R41). -/
def messageResult (kind : RunKind) (argument : Int) (stamp now : Nat) (s : State) (v : Service) : Service :=
  evaluateService s.tts.grace s.tts.window now
    { applyKind kind argument s.tts.grace now v with stamp := some stamp }

/-- The answer to a message that was judged: outcome, fields, expected minute, and for DELAY the clamped flag (R35). -/
def runningAnswer (outcome : RunOutcome) (kind : RunKind) (argument : Int) (v : Service) : Answer :=
  done (.running outcome v (expectedMinute v)
    (if kind = .delay then some (outcome == .applied && decide ((delayOf argument : Int) ≠ argument)) else none))

/-- RUNNING (R34, R35). -/
def runningRule (number stamp : Nat) (kind : Coded RunKind) (argument : Int) (s : State) : State × Answer :=
  match kind with
  | .other _ => (s, refuse .range .field)
  | .named k =>
    if !runningInRange number stamp kind argument then (s, refuse .range .field)
    else
      match nowMinute s with
      | none => (s, refuse .notReady .none)
      | some now =>
        match currentService s number with
        | none => (s, refuse .unknown .none)
        | some v =>
          if v.status = .departed then (s, runningAnswer .final k argument v)
          else if v.stamp.any fun old => decide (stamp < old) then (s, runningAnswer .stale k argument v)
          else
            let w := messageResult k argument stamp now s v
            (handOn [(v, w)] (replaceService w s), runningAnswer .applied k argument w)

/-! ### Sold counts (R49) -/

/-- The automatic entry of a cancelled service with tickets, added by a sold event (R117). -/
def soldEvent (v : Service) (s : State) : State :=
  if decide (0 < v.sold) && !hasAuto s v.plan.number then
    requestKind .messages true (putAuto v.plan.number v.plan.minute (terminus v) s)
  else s

/-- A sold count offered for a sale's date, service number and quantity (R49). -/
def offerSold (date : Date) (number quantity : Nat) (s : State) : State :=
  match s.tts.current with
  | none => s
  | some t =>
    if t.header.date ≠ date then s
    else
      match currentService s number with
      | none => s
      | some v =>
        let w := { v with sold := min 65535 (v.sold + quantity) }
        let s1 := replaceService w s
        if w.status = .cancelled ∧ w.sold ≠ v.sold then soldEvent w s1 else s1

/-! ### Loading the next table (R16 to R20) -/

/-- The records a table holds at most (R16). -/
def tableCapacity : Nat := 96

/-- The records with one inserted after every record of no greater scheduled minute (R16). -/
def insertRecord (p : Planned) : List Planned → List Planned
  | [] => [p]
  | q :: l => if q.minute ≤ p.minute then q :: insertRecord p l else p :: q :: l

/-- The index at which a record is inserted: the number of records of no greater scheduled minute (R16). -/
def insertIndex (p : Planned) (l : List Planned) : Nat := (l.takeWhile fun q => decide (q.minute ≤ p.minute)).length

/-- No code appears twice in a calling list (R15). -/
def noRepeats : List Nat → Bool
  | [] => true
  | a :: l => !l.contains a && noRepeats l

/-- TABLE-OPEN (R17). -/
def tableOpenRule (date : Date) (dayType : Coded DayType) (darkUntil darkFrom version : Nat) (s : State) :
    State × Answer :=
  match dayType with
  | .other _ => (s, refuse .range .field)
  | .named d =>
    if !headerInRange date dayType darkUntil darkFrom version then (s, refuse .range .field)
    else
      let h : Header := ⟨date, d, darkUntil, darkFrom, version⟩
      ({ s with tts.next := some ⟨false, h, []⟩ }, done (.header h))

/-- TABLE-ADD (R18). -/
def tableAddRule (number : Nat) (direction : Coded Direction) (minute platform : Nat) (calls : List Nat) (s : State) :
    State × Answer :=
  match s.tts.next with
  | none => (s, refuse .notReady .none)
  | some t =>
    if t.ready then (s, refuse .busy .none)
    else
      match direction with
      | .other _ => (s, refuse .range .field)
      | .named d =>
        if !serviceInRange number direction minute platform calls then (s, refuse .range .field)
        else if !noRepeats calls then (s, refuse .range .list)
        else if t.records.any fun p => p.number == number then (s, refuse .range .duplicate)
        else if tableCapacity ≤ t.records.length then (s, refuse .full .none)
        else
          let p : Planned := ⟨number, d, minute, platform, calls⟩
          ({ s with tts.next := some { t with records := insertRecord p t.records } },
            done (.inserted (insertIndex p t.records) (t.records.length + 1)))

/-- TABLE-CLOSE (R19). -/
def tableCloseRule (s : State) : State × Answer :=
  match s.tts.next with
  | none => (s, refuse .notReady .none)
  | some t =>
    ({ s with tts.next := some { t with ready := true } },
      done (.tableClosed t.header.date t.header.version t.records.length))

/-- The load state of the next table (R13). -/
def nextLoadState (s : State) : LoadState :=
  match s.tts.next with
  | none => .none
  | some t => if t.ready then .ready else .loading

/-- TABLE-DROP (R20). -/
def tableDropRule (s : State) : State × Answer :=
  ({ s with tts.next := none },
    done (.tableDropped (nextLoadState s) (s.tts.next.elim 0 fun t => t.records.length)))

/-! ### Promotion and rollover (R21 to R25) -/

/-- A promoted service with its running fields at their starting values (R22). -/
def startService (p : Planned) : Service :=
  { plan := p, status := .scheduled, delay := 0, platform := p.platform, altered := false, stamp := none,
    approach := false, sold := 0 }

/-- The current table is replaced or emptied: the Board Composer takes the ordinary change event of cause TABLE (R22,
R23), and the Energy Manager the approach condition if it changed (R44). -/
def placeCurrent (t : Option CurrentTable) (s : State) : State :=
  tableEvent (retarget { s with tts.current := t })

/-- Promotion of a next table (R22). -/
def promote (t : NextTable) (s : State) : State :=
  placeCurrent (some ⟨t.header, t.records.map startService⟩) { s with tts.next := none }

/-- TABLE-PROMOTE (R21, R22). -/
def tablePromoteRule (version : Nat) (s : State) : State × Answer :=
  match s.clock, s.tts.next with
  | some c, some t =>
    if !t.ready then (s, refuse .notReady .none)
    else if t.header.date ≠ c.date then (s, refuse .range .date)
    else if t.header.version ≠ version then (s, refuse .range .version)
    else (evaluateNow (promote t s), done (.promoted t.header.date t.header.version t.records.length))
  | _, _ => (s, refuse .notReady .none)

/-- The current table emptied at a rollover, with NO-TIMETABLE (R23, R25). -/
def emptyCurrent (s : State) : State := raiseNotice .noTimetable (placeCurrent none s)

/-- The tables at a rollover that enters a date (Table 2-5). -/
def rolloverTables (entered : Date) (s : State) : State :=
  match s.tts.next with
  | none => emptyCurrent s
  | some t =>
    if !t.ready then emptyCurrent s
    else if t.header.date = entered then promote t s
    else if dateBefore t.header.date entered then emptyCurrent { s with tts.next := none }
    else emptyCurrent s

/-- The Timetable Store at a rollover (R23, R24): at a first setting a current table of the date entered is kept. -/
def ttsRollover (entered : Date) (cause : RolloverCause) (s : State) : State :=
  if cause = .first ∧ s.tts.current.any (fun t => t.header.date = entered) then tableEvent s
  else rolloverTables entered s

/-- The Timetable Store on the unset signal: every approach flag clears (R43, R44). -/
def ttsUnset (s : State) : State :=
  retarget
    { s with
      tts.current := s.tts.current.map fun t =>
        { t with services := t.services.map fun v => { v with approach := false } } }

/-! ### Reading and settings (R26, R27) -/

/-- TABLE-READ (R26). -/
def tableReadRule (selector : Coded TableSel) (index : Nat) (s : State) : State × Answer :=
  match selector with
  | .other _ => (s, refuse .range .field)
  | .named sel =>
    if 95 < index then (s, refuse .range .field)
    else
      let record : Option TableRecord :=
        match sel with
        | .current => s.tts.current.bind fun t => t.services[index]?.map .current
        | .next => s.tts.next.bind fun t => t.records[index]?.map .planned
      let body : Option TableRecord → ReplyBody :=
        match sel with
        | .current =>
          .tableRead (if s.tts.current.isSome then .present else .empty) (s.tts.current.map (·.header))
            (s.tts.current.elim 0 fun t => t.services.length)
        | .next =>
          .tableRead (nextLoadState s) (s.tts.next.map (·.header)) (s.tts.next.elim 0 fun t => t.records.length)
      (s, ⟨if record.isSome then .done else .noneLeft, .none, body record⟩)

/-- SERVICE-SETTINGS (R27). -/
def serviceSettingsRule (grace window margin : Option Nat) (s : State) : State × Answer :=
  if !(optWithin 0 30 grace && optWithin 0 10 margin) then (s, refuse .range .field)
  else
    let s1 :=
      { s with
        tts.grace := grace.getD s.tts.grace
        tts.window := (window.map (clamp 1 15)).getD s.tts.window
        tts.margin := margin.getD s.tts.margin }
    let s2 := if grace.isNone && window.isNone && margin.isNone then s1 else evaluateNow s1
    (s2, done (.serviceSettings s1.tts.grace s1.tts.window s1.tts.margin))

/-! ### Questions of other blocks (R28, R29) -/

/-- Whether a service is displayable at a minute (R28). -/
def displayableService (grace now : Nat) (v : Service) : Bool :=
  v.status.isRunning || (decide (v.status = .cancelled) && decide (now < v.plan.minute + grace))

/-- The display order: expected minute, then scheduled minute, then number, ascending (R28). -/
def displayBefore (a b : Service) : Bool :=
  decide (expectedMinute a < expectedMinute b) ||
    (expectedMinute a == expectedMinute b &&
      (decide (a.plan.minute < b.plan.minute) ||
        (a.plan.minute == b.plan.minute && decide (a.plan.number ≤ b.plan.number))))

/-- The display order of the current table (R28): empty in UNSET and EMPTY. -/
def displayOrder (s : State) : List Service :=
  match nowMinute s, s.tts.current with
  | some now, some t => sortBy displayBefore (t.services.filter (displayableService s.tts.grace now))
  | _, _ => []

/-- Whether a service is eligible for a sale to a code at a minute (R29). -/
def eligible (margin code now : Nat) (v : Service) : Bool :=
  v.status.isRunning && v.plan.calls.contains code && decide (now + margin ≤ expectedMinute v)

/-- The next service for a code: the first eligible one in display order (R29). -/
def nextService (code : Nat) (s : State) : Option Service :=
  (nowMinute s).bind fun now => (displayOrder s).find? (eligible s.tts.margin code now)

/-- Answers to the named-service question (R29). -/
inductive NamedAnswer where
  | unknown | noneLeft
  | found (v : Service)
deriving DecidableEq, Repr

/-- The named service for a code (R29). -/
def namedService (number code : Nat) (s : State) : NamedAnswer :=
  match nowMinute s, currentService s number with
  | some now, some v => if eligible s.tts.margin code now v then .found v else .noneLeft
  | _, _ => .unknown

end Sys2Proof.Machine
end

