-- ==== Sys2Proof/Machine/Boards.lean ====
section
/-! DEFINITION. The Board Composer: pages, profiles, host messages, credit, rotation and the serving of the queue
(Chapter 7). -/

namespace Sys2Proof.Machine

/-! ### Departures pages (R113, R114) -/

/-- A row with text in its destination field only (R113). -/
def noteRow (t : Text) : DepartureRow := ⟨[], t, none, []⟩

/-- The status field of a row (R114). -/
def statusField (threshold : Nat) (v : Service) : Text :=
  match statusText threshold v with
  | .approaching => "APPROACHING".toList
  | .cancelled => "CANCELLED".toList
  | .expected => "Exp ".toList ++ clockReading (expectedMinute v)
  | .onTime => "On time".toList

/-- The row of a service on a panel with a threshold (R114). -/
def departureRow (s : State) (threshold : Nat) (v : Service) : DepartureRow :=
  ⟨clockReading v.plan.minute, stationName s (terminus v), some (v.platform, v.altered), statusField threshold v⟩

/-- The services a panel's page takes (R113). -/
def pageServices (p : Profile) (s : State) : List Service :=
  ((displayOrder s).filter fun v => passes p.filter v.plan.direction).take p.rows

/-- A DEPARTURES page (R113). -/
def departurePage (p : Profile) (s : State) : List DepartureRow :=
  if s.clock.isNone then [noteRow "Information unavailable".toList]
  else if s.tts.current.isNone then [noteRow "Timetable unavailable".toList]
  else
    match pageServices p s with
    | [] => [noteRow "No further departures".toList]
    | l => l.map (departureRow s p.threshold)

/-! ### Messages pages (R117, R118) -/

/-- The lines of a message; those of an automatic entry are composed now (R117). -/
def messageLines (s : State) : Message → List Text
  | .host e => e.lines
  | .auto e =>
    ["Tickets for the ".toList ++ clockReading e.minute, "to ".toList ++ stationName s e.terminus,
      "accepted on the".toList, "next service".toList]

/-- The message that the rotation position names, if it is displayable, else the first (R118). -/
def shownMessage (s : State) : Option Message :=
  let l := displayable s
  ((s.bdc.position.bind fun n => l.find? fun m => m.arrival == n) <|> l.head?)

/-- A MESSAGES page: the blank page, or the lines of the message shown, up to the panel's rows (R118). -/
def messagePage (p : Profile) (s : State) : List Text := ((shownMessage s).elim [] (messageLines s)).take p.rows

/-- Composition of a MESSAGES page sets the position to the message shown (R118). -/
def settlePosition (s : State) : State := { s with bdc.position := (shownMessage s).map Message.arrival }

/-! ### The sales page (R119) -/

/-- The line of a first reason (Table 7-2). -/
def reasonLine : Reason → Text
  | .clock => "Clock not set".toList
  | .tariff => "Fares not available".toList
  | .journal => "Sales record full".toList
  | .level => "Touch screen to start".toList
  | .host => "Out of service".toList
  | .serials => "Out of service".toList

/-- A SALES page, from the last sales event (R119). -/
def salesPage (s : State) : List Text :=
  match s.bdc.sales with
  | none => ["Tickets on sale here".toList]
  | some r => ["Ticket machine closed".toList, reasonLine r]

/-- The page of a panel, composed now for its kind (R124). -/
def composePage (p : Profile) (s : State) : Page :=
  match p.kind with
  | .departures => .departures (departurePage p s)
  | .messages => .messages (messagePage p s)
  | .sales => .sales (salesPage s)

/-! ### Serving (R123, R124) -/

/-- Whether the serving level permits an entry (Table 7-4). -/
def permits (s : State) (urgent : Bool) : Bool :=
  match servingLevel s with
  | .el4 => urgent
  | .el5 => urgent && s.awu.brief
  | _ => true

/-- The four conditions of R124 for an entry. -/
def servable (s : State) (e : QueueEntry) : Bool :=
  decide ((panelAt s e.panel).link = .ready) && permits s e.urgent && decide (1 ≤ s.bdc.credit) && s.plc.line.isNone

/-- The entry that would be served now (R124). -/
def firstServable (s : State) : Option QueueEntry := s.bdc.queue.find? (servable s)

/-- Serving a panel's entry: it leaves the queue, the page is composed, and a page that differs from the shown one is
handed to the Panel Line Controller (R124). -/
def serve (a : Addr) (s : State) : State :=
  let p := s.bdc.profiles.get a
  let page := composePage p s
  let s1 := if p.kind = .messages then settlePosition s else s
  let s2 :=
    { s1 with
      bdc.queue := s1.bdc.queue.filter fun e => !(e.panel == a)
      bdc.composed := s1.bdc.composed.set a (some page) }
  if (panelAt s2 a).page = some page then s2 else startRefresh a page s2

/-! ### Profiles (R111, R112) -/

/-- The profile a request leaves stored (R111). -/
def storedProfile (p : Profile) (presence : Option (Coded Bool)) (kind : Option (Coded PanelKind)) (rows : Option Nat)
    (filter : Option (Coded DirFilter)) (threshold : Option Nat) : Profile where
  isPresent := optCoded p.isPresent presence
  kind := optCoded p.kind kind
  rows := (rows.map (clamp 1 8)).getD p.rows
  filter := optCoded p.filter filter
  threshold := threshold.getD p.threshold

/-- A panel's profile replaced, with what the change does (R112). -/
def changeProfile (a : Addr) (p : Profile) (s : State) : State :=
  let old := s.bdc.profiles.get a
  let s1 := { s with bdc.profiles := s.bdc.profiles.set a p }
  match old.isPresent, p.isPresent with
  | true, false =>
    panelAbsent a
      { s1 with
        bdc.queue := s1.bdc.queue.filter fun e => !(e.panel == a)
        bdc.composed := s1.bdc.composed.set a none }
  | false, true => requestRefresh false (panelPresent a s1) a
  | true, true => if p = old then s1 else requestRefresh false s1 a
  | false, false => s1

/-- PANEL-PROFILE (R111). A request without a profile field answers with a clamped flag too, a clear one: R111 does not say
whether it does. DESIGN CHOICE, log 36. -/
def panelProfileRule (address : Nat) (presence : Option (Coded Bool)) (kind : Option (Coded PanelKind))
    (rows : Option Nat) (filter : Option (Coded DirFilter)) (threshold : Option Nat) (s : State) : State × Answer :=
  match panelOf address with
  | none => (s, refuse .range .field)
  | some a =>
    if !profileInRange presence kind filter threshold then (s, refuse .range .field)
    else
      let p := storedProfile (s.bdc.profiles.get a) presence kind rows filter threshold
      (changeProfile a p s, done (.profile p (rows.any fun n => decide (clamp 1 8 n ≠ n))))

/-! ### Host messages (R115, R116) -/

/-- The host list holds 8 entries at most (R115). -/
def hostCapacity : Nat := 8

/-- The arrival number of the NORMAL entry to be dropped from a full list (R115). -/
def oldestNormal (l : List HostEntry) : Option Nat :=
  leastOf ((l.filter fun e => e.priority == .normal).map (·.arrival))

/-- A host entry joins the list as `kept` leaves it, with a new arrival number and the refresh of each MESSAGES panel
(R115). -/
def addHost (id : Nat) (priority : MsgPriority) (lines : List Text) (expiry : Option Nat) (kept : List HostEntry)
    (s : State) : State :=
  requestKind .messages (priority == .urgent)
    { s with
      bdc.host := kept ++ [⟨id, priority, lines, expiry, s.bdc.arrivals + 1⟩]
      bdc.arrivals := s.bdc.arrivals + 1 }

/-- An in-range BOARD-TEXT placed in the list (R115). -/
def placeHost (id : Nat) (priority : MsgPriority) (lines : List Text) (expiry : Option Nat) (s : State) :
    State × Answer :=
  let l := s.bdc.host
  let others := l.filter fun e => !(e.id == id)
  let add := addHost id priority lines expiry
  if l.any fun e => e.id == id then
    (add others s, done (.message true none (others.length + 1)))
  else if l.length < hostCapacity then (add l s, done (.message false none (l.length + 1)))
  else
    match oldestNormal l with
    | none => (s, refuse .full .none)
    | some n =>
      let kept := l.filter fun e => !(e.arrival == n)
      (add kept s, done (.message false ((l.find? fun e => e.arrival == n).map (·.id)) (kept.length + 1)))

/-- BOARD-TEXT (R115). -/
def boardTextRule (id : Nat) (priority : Coded MsgPriority) (lines : List Text) (expiry : Option Nat) (s : State) :
    State × Answer :=
  match priority with
  | .other _ => (s, refuse .range .field)
  | .named p =>
    if !messageInRange id priority lines expiry then (s, refuse .range .field)
    else if (nowMinute s).any fun now => expiry.any fun e => decide (e ≤ now) then (s, refuse .range .expired)
    else placeHost id p lines expiry s

/-- BOARD-TEXT-DROP (R116). -/
def boardTextDropRule (id : Option Nat) (s : State) : State × Answer :=
  let leaves : HostEntry → Bool := fun e => id.all fun n => e.id == n
  if id.any fun n => !within 1 255 n then (s, refuse .range .field)
  else (removeHost leaves s, done (.removed (s.bdc.host.filter leaves).length))

/-- Host entries whose expiry a minute event reaches are removed (R116). -/
def expireHost (minute : Nat) (s : State) : State := removeHost (fun e => e.expiry.any fun m => decide (m ≤ minute)) s

/-! ### BOARD-REFRESH and BOARD-STATUS (R121, R128) -/

/-- BOARD-REFRESH (R121); the reply's queue is the queue before the entries are served (log 19). -/
def boardRefreshRule (address : Option Nat) (urgent : Coded Bool) (s : State) : State × Answer :=
  match urgent, address with
  | .other _, _ => (s, refuse .range .field)
  | .named u, none => (requestAll u s, done (.queue (requestAll u s).bdc.queue))
  | .named u, some n =>
    match panelOf n with
    | none => (s, refuse .range .field)
    | some a =>
      if (s.bdc.profiles.get a).isPresent then
        (requestRefresh u s a, done (.queue (requestRefresh u s a).bdc.queue))
      else (s, refuse .unknown .panel)

/-- A displayable message as BOARD-STATUS returns it. -/
def messageReport : Message → MessageReport
  | .host e => .host e.id e.priority e.expiry e.arrival
  | .auto e => .auto e.service e.minute

/-- Whether a panel's composed page is present and equals its shown page. -/
def composedReport (s : State) (a : Addr) : Bool × Bool :=
  let c := s.bdc.composed.get a
  (c.isSome, c.isSome && decide (c = (panelAt s a).page))

/-- BOARD-STATUS (R128). The rule names the host list and the automatic list "in displayable order"; the model gives one list of
both in that order, and a serving level of ELA as a present one. DESIGN CHOICE, log 36. -/
def boardStatusRule (s : State) : State × Answer :=
  (s, done (.boardStatus s.bdc.credit (presentEntry s).depth (presentEntry s).rate (s.bdc.accrual.map secondsLeft)
    (servingLevel s) s.bdc.queue (urgentWaiting s)
    ⟨composedReport s .p1, composedReport s .p2, composedReport s .p3, composedReport s .p4⟩
    ((displayable s).map messageReport) s.bdc.position (s.bdc.rotation.map secondsLeft) s.bdc.lamp))

/-! ### Timers (R118, R122) -/

/-- The accrual timer expires: the credit rises by one below the depth, and the timer restarts (R122). -/
def accrualExpiry (s : State) : State :=
  if s.bdc.accrual.isSome then
    { s with
      bdc.credit := if s.bdc.credit < (presentEntry s).depth then s.bdc.credit + 1 else s.bdc.credit
      bdc.accrual := accrualPeriod (presentEntry s).rate }
  else s

/-- The message after the one with an arrival number in an order, or the first (R118). -/
def messageAfter (n : Nat) (l : List Message) : Option Message :=
  match l.dropWhile fun m => !(m.arrival == n) with
  | _ :: m :: _ => some m
  | _ => l.head?

/-- The rotation position moves on (R118). -/
def rotatedPosition (s : State) : Option Nat :=
  let l := displayable s
  (s.bdc.position.elim l.head? fun n => messageAfter n l).map Message.arrival

/-- The rotation timer expires (R118). -/
def rotationExpiry (s : State) : State :=
  if s.bdc.rotation.isSome then
    requestKind .messages false (restartRotation { s with bdc.position := rotatedPosition s })
  else s

end Sys2Proof.Machine
end

