-- ==== Sys2Proof/Machine/Fare.lean ====
section
/-! DEFINITION. The Tariff and Fare Engine: the fare computation, loading, activation and reading (Chapter 4). -/

namespace Sys2Proof.Machine

/-! ### The fare computation (R66 to R71) -/

/-- Half up: the quotient rounded down, plus 1 if twice the remainder reaches the divisor (Table 4-8). -/
def halfUp (x y : Nat) : Nat := x / y + if y ≤ 2 * (x % y) then 1 else 0

/-- The distance product over the bands, from a lower edge (R66). -/
def distanceProduct (d : Nat) : Nat → List (Nat × Nat) → Nat
  | _, [] => 0
  | edge, (limit, rate) :: l => (min d limit - edge) * rate + distanceProduct d limit l

/-- The type factor in percent (Table 4-4). -/
def typeFactor (r : Rules) : TicketType → Nat
  | .single => 100
  | .ret => r.returnFactor
  | .openSingle => r.openSingleFactor
  | .openReturn => r.openReturnFactor

/-- The rule of a concession class: class 0 is ADULT, discount 0 and not exempt; `none` for an unused class (R54). -/
def classRule (r : Rules) (cls : Nat) : Option ClassRule :=
  match cls with
  | 0 => some ⟨0, false⟩
  | n + 1 => (r.classes[n]?).join

/-- Stage 5: to the step, ties down (R70, Table 4-8). -/
def toStep (q t : Nat) : Nat := if 2 * (t % q) ≤ q then t - t % q else t - t % q + q

/-- Every stage of the fare for a distance, ticket type, class and quantity, with the peak percent P_eff (R66 to R71). -/
def fareStages (r : Rules) (d : Nat) (ticket : TicketType) (c : ClassRule) (quantity peakPercent : Nat) : FareStages :=
  let product := distanceProduct d 0 r.bands
  let charge := halfUp product 1000
  let floored := if r.boarding + charge < r.fMin then r.fMin else r.boarding + charge
  let base := if r.fMax < floored then r.fMax else floored
  let typed := halfUp (base * typeFactor r ticket * (100 + peakPercent)) 10000
  let discounted := typed * (100 - c.discount) / 100
  let onStep := toStep r.step discounted
  let raised := onStep == 0 && decide (c.discount < 100)
  let stepped := if raised then r.step else onStep
  let fare := if r.cMax < stepped then r.cMax else stepped
  { product := product, charge := charge, base := base
    floorActed := decide (r.boarding + charge < r.fMin), ceilingActed := decide (r.fMax < floored)
    typed := typed, discounted := discounted, stepped := stepped, zeroRaised := raised
    fare := fare, capActed := decide (r.cMax < stepped), total := quantity * fare }

/-- The answer to a fare request (R64, R72). -/
inductive FareAnswer where
  | unknownStation | unusedClass
  | worked (result : FareResult) (stages : FareStages)
deriving DecidableEq, Repr

/-- A fare worked from a tariff's stations and rules, in peak or not (R64, R65, R72). -/
def workFare (version : Nat) (stations : List Station) (r : Rules) (code : Nat) (ticket : TicketType)
    (cls quantity : Nat) (inPeak : Bool) : FareAnswer :=
  match stations.find? fun x => x.code == code with
  | none => .unknownStation
  | some x =>
    match classRule r cls with
    | none => .unusedClass
    | some c =>
      let applied := inPeak && !c.exempt
      let stages := fareStages r x.distance ticket c quantity (if applied then r.surcharge else 0)
      .worked ⟨x.name, x.side, stages.fare, stages.total, applied, version⟩ stages

/-- A service minute lies in the peak when it lies in at least one window (R55). -/
def inWindows (r : Rules) (m : Nat) : Bool := r.windows.any fun w => decide (w.1 ≤ m) && decide (m < w.2)

/-- Whether a ticket with this peak minute is in peak: the current table PRESENT, its day type WEEKDAY, the minute in a
window (R65). -/
def ticketInPeak (s : State) (r : Rules) (peakMinute : Nat) : Bool :=
  (s.tts.current.any fun t => t.header.dayType == .weekday) && inWindows r peakMinute

/-! ### Loading (R56 to R59) -/

/-- The stations a tariff holds at most (R52). -/
def stationCapacity : Nat := 48

/-- The stations with one inserted in code order (R57). -/
def insertStation (x : Station) : List Station → List Station
  | [] => [x]
  | y :: l => if y.code < x.code then y :: insertStation x l else x :: y :: l

/-- TARIFF-OPEN (R56). -/
def tariffOpenRule (version : Nat) (date : Date) (s : State) : State × Answer :=
  if !(within 1 65535 version && inSpan date) then (s, refuse .range .field)
  else ({ s with tfe.pending := some ⟨false, version, date, [], none⟩ }, done (.heading version date))

/-- TARIFF-STATION (R57). -/
def tariffStationRule (code : Nat) (name : Text) (distance : Nat) (side : Coded Direction) (s : State) :
    State × Answer :=
  match s.tfe.pending with
  | none => (s, refuse .notReady .none)
  | some p =>
    if p.ready then (s, refuse .busy .none)
    else
      match side with
      | .other _ => (s, refuse .range .field)
      | .named d =>
        if !stationInRange code name distance side then (s, refuse .range .field)
        else if p.stations.any fun x => x.code == code then (s, refuse .range .duplicate)
        else if stationCapacity ≤ p.stations.length then (s, refuse .full .none)
        else
          ({ s with tfe.pending := some { p with stations := insertStation ⟨code, name, distance, d⟩ p.stations } },
            done (.inserted ((p.stations.takeWhile fun y => decide (y.code < code)).length)
              (p.stations.length + 1)))

/-- TARIFF-RULES (R58). -/
def tariffRulesRule (rules : Rules) (s : State) : State × Answer :=
  match s.tfe.pending with
  | none => (s, refuse .notReady .none)
  | some p =>
    if p.ready then (s, refuse .busy .none)
    else
      match rulesRefusal rules with
      | some d => (s, refuse .range d)
      | none => ({ s with tfe.pending := some { p with rules := some rules } }, done .nothing)

/-! ### Activation (R60, R61) -/

/-- The tariff the pending one becomes, if it holds rules. -/
def pendingTariff (p : PendingTariff) : Option Tariff :=
  p.rules.map fun r => ⟨p.version, p.effective, p.stations, r⟩

/-- Activation (R60): the pending tariff becomes the active one; the tariff event withdraws a quote and has the sales
reasons decided again; the names event queues the panels that show names. R60 gives the two events in no order; the model
takes the tariff event first, so that the SALES panels its sales event asks for queue before the DEPARTURES and MESSAGES
panels of the names event. DESIGN CHOICE, log 7. -/
def activate (t : Tariff) (s : State) : State :=
  namesEvent (decideSales (withdraw .tariff { s with tfe.active := some t, tfe.pending := none }))

/-- The tariff that a rollover entering a date activates, if it does (R61). -/
def tariffDue (entered : Date) (s : State) : Option Tariff :=
  s.tfe.pending.bind fun p => if p.ready && dateUpTo p.effective entered then pendingTariff p else none

/-- The Tariff and Fare Engine at a rollover (R61). -/
def tfeRollover (entered : Date) (s : State) : State := (tariffDue entered s).elim s fun t => activate t s

/-- TARIFF-CLOSE (R59). -/
def tariffCloseRule (s : State) : State × Answer :=
  match s.tfe.pending with
  | none => (s, refuse .notReady .none)
  | some p =>
    if p.stations.isEmpty then (s, refuse .notReady .stations)
    else
      match pendingTariff p with
      | none => (s, refuse .notReady .rules)
      | some t =>
        if s.clock.any fun c => dateUpTo p.effective c.date then
          (activate t s, done (.tariffClosed true p.version none p.stations.length))
        else
          ({ s with tfe.pending := some { p with ready := true } },
            done (.tariffClosed false p.version (some p.effective) p.stations.length))

/-! ### Reading and trying (R62, R72) -/

/-- What TARIFF-READ and FARE-TRIAL see of the selected tariff: its state, heading, stations and rules. -/
structure TariffView where
  state : LoadState
  heading : Option (Nat × Date)
  stations : List Station
  rules : Option Rules
deriving DecidableEq, Repr

/-- The selected tariff (R62, R72). -/
def viewTariff (sel : TariffSel) (s : State) : TariffView :=
  match sel with
  | .active =>
    match s.tfe.active with
    | none => ⟨.absent, none, [], none⟩
    | some t => ⟨.present, some (t.version, t.effective), t.stations, some t.rules⟩
  | .pending =>
    match s.tfe.pending with
    | none => ⟨.none, none, [], none⟩
    | some p => ⟨if p.ready then .ready else .loading, some (p.version, p.effective), p.stations, p.rules⟩

/-- TARIFF-READ (R62). -/
def tariffReadRule (selector : Coded TariffSel) (part : Coded TariffPart) (index : Nat) (s : State) : State × Answer :=
  match selector, part with
  | .named sel, .named .summary =>
    let v := viewTariff sel s
    (s, done (.tariffSummary v.state (v.heading.map fun h => ⟨h.1, h.2, v.stations.length, v.rules.isSome⟩)))
  | .named sel, .named .station =>
    let v := viewTariff sel s
    if 47 < index then (s, refuse .range .field)
    else
      match v.stations[index]? with
      | some x => (s, done (.station x))
      | none => (s, ⟨.noneLeft, .none, .noStation v.state v.stations.length⟩)
  | .named sel, .named .rules =>
    let v := viewTariff sel s
    match v.rules with
    | some r => (s, done (.rules r))
    | none => (s, ⟨.noneLeft, .none, .noRules v.state⟩)
  | _, _ => (s, refuse .range .field)

/-- FARE-TRIAL (R72). -/
def fareTrialRule (selector : Coded TariffSel) (code : Nat) (ticket : Coded TicketType) (cls quantity : Nat)
    (peak : Coded PeakSel) (s : State) : State × Answer :=
  if !trialInRange selector code ticket cls quantity peak then (s, refuse .range .field)
  else
    match selector, ticket, peak with
    | .named sel, .named k, .named pk =>
      let v := viewTariff sel s
      match v.heading, v.rules with
      | some h, some r =>
        if v.stations.isEmpty then (s, refuse .notReady .none)
        else
          match workFare h.1 v.stations r code k cls quantity (pk == .inPeak) with
          | .unknownStation => (s, refuse .unknown .station)
          | .unusedClass => (s, refuse .range .cls)
          | .worked result stages => (s, done (.trial result stages))
      | _, _ => (s, refuse .notReady .none)
    | _, _, _ => (s, refuse .range .field)

end Sys2Proof.Machine
end

