-- ==== Sys2Proof/Machine/Levels.lean ====
section
/-! DEFINITION. The Energy Manager: limits, ceiling, completions of transitions, and its timers (Chapter 9). -/

namespace Sys2Proof.Machine

/-! ### Limits (R150 to R154) -/

/-- The BATTERY limit takes a value. A change raises LIMIT-CHANGED and recomputes the target (R154); becoming EL5 ends a
brief episode (R174), leaving EL5 has the start of one judged (R173). No rule orders that judgement and the target; the model
computes the target first. DESIGN CHOICE, log 7. -/
def setBattery (l : Option Level) (s : State) : State :=
  if l = s.enm.battery then s
  else
    let s1 := raiseNotice .limitChanged { s with enm.battery := l }
    if l = some .el5 then (if s1.awu.brief then endBrief s1 else retarget s1)
    else if s.enm.battery = some .el5 then judgeBriefStart (retarget s1)
    else retarget s1

/-- The COLD limit takes a value (R152, R154). -/
def setCold (l : Option Level) (s : State) : State :=
  if l = s.enm.coldLimit then s else retarget (raiseNotice .limitChanged { s with enm.coldLimit := l })

/-- The QUIET limit takes a value (R152, R154). -/
def setQuiet (l : Option Level) (s : State) : State :=
  if l = s.enm.quietLimit then s else retarget (raiseNotice .limitChanged { s with enm.quietLimit := l })

/-- The HOST limit takes a value (R153, R154). -/
def setHost (l : Option Level) (s : State) : State :=
  if l = s.enm.hostLimit then s else retarget (raiseNotice .limitChanged { s with enm.hostLimit := l })

/-- The battery bands with their lower bounds, from the least strict (Table 9-4). -/
def batteryBands : List (Option Level × Nat) :=
  [(none, 60), (some .el1, 40), (some .el2, 25), (some .el3, 12), (some .el4, 5), (some .el5, 0)]

/-- The band of a charge (Table 9-4). -/
def bandOf (charge : Nat) : Option Level :=
  ((batteryBands.find? fun b => decide (b.2 ≤ charge)).map (·.1)).getD (some .el5)

/-- How strict a limit is: none is the least strict. -/
def strictness (l : Option Level) : Nat := l.elim 0 fun x => levelRank x + 1

/-- The stricter of two limits. -/
def stricter (a b : Option Level) : Option Level := if strictness a ≤ strictness b then b else a

/-- The BATTERY limit after a report of a charge, with the limit in force (R150). -/
def batteryAfter (charge : Nat) (inForce : Option Level) : Option Level :=
  if strictness inForce ≤ strictness (bandOf charge) then bandOf charge
  else ((batteryBands.find? fun b => decide (b.2 + 3 ≤ charge)).map (·.1)).getD inForce

/-- Whether a minute lies inside the quiet window; a start equal to its end is no window (R147, R152). -/
def inQuietWindow (start stop m : Nat) : Bool :=
  if start < stop then decide (start ≤ m) && decide (m < stop)
  else if stop < start then decide (start ≤ m) || decide (m < stop)
  else false

/-- The value the QUIET limit has now (R152). -/
def quietNow (s : State) : Option Level :=
  match nowMinute s with
  | some m => if inQuietWindow s.enm.quietStart s.enm.quietEnd m then some .el3 else none
  | none => none

/-- The QUIET limit is evaluated (R152). -/
def evaluateQuiet (s : State) : State := setQuiet (quietNow s) s

/-- The QUIET limit on a minute event: where it becomes inactive, the Activity and Wake Unit takes a quiet-end event of
the CLOCK source (R152, R170). No rule orders that event and the target that follows the limit (R154, R156); the model computes
the target first, so that a raise can start before the wake moves the demand level. DESIGN CHOICE, log 7. -/
def quietOnMinute (s : State) : State :=
  let s1 := evaluateQuiet s
  if s.enm.quietLimit.isSome && s1.enm.quietLimit.isNone then internalEvent s1.awu.config.clock .clock s1 else s1

/-- The coldest last temperature among the panels READY or REFRESHING (R142). -/
def coldestTemperature (s : State) : Option Int :=
  (allPanels.filterMap fun a =>
      let p := s.plc.panels.get a
      if p.link = .ready ∨ p.link = .refreshing then p.temperature else none).foldl
    (fun acc t => some (acc.elim t fun u => min u t)) none

/-- The value R142 gives the cold flag: set below −5, cleared at −2 or above, kept between and with no such panel. -/
def coldNow (s : State) : Bool :=
  match coldestTemperature s with
  | none => s.plc.cold
  | some t => if t < -5 then true else if -2 ≤ t then false else s.plc.cold

/-- The cold flag is judged, and with it the COLD limit (R142, R152). -/
def judgeCold (s : State) : State :=
  let flag := coldNow s
  setCold (if flag then some .el2 else none) { s with plc.cold := flag }

/-! ### The ceiling (R149, R166) -/

/-- The effective ceiling a state calls for (R149). -/
def ceilingNow (s : State) : Level := highestEnabled s s.enm.ceiling

/-- The effective ceiling is recomputed; a change sets the demand level to it and restarts the demand timer unless held
(R149, R166). -/
def followCeiling (s : State) : State :=
  let c := ceilingNow s
  if c = s.enm.effective then s else restartDemandTimer { s with enm.effective := c, awu.demand := c }

/-- The effective ceiling is recomputed, and the target is computed again with the enabled set (R149, R155). Both follow a
changed draw or capacity and the rules give no order; the model lets the ceiling move the demand level first and computes the
target once, with both changes. DESIGN CHOICE, log 7. -/
def recomputeCeiling (s : State) : State := retarget (followCeiling s)

/-! ### Completion of a transition (R160) -/

/-- The credit that a raise out of EL5 brings to an empty account (R122). -/
def dormantCredit (left : Level) (s : State) : State :=
  if left = .el5 ∧ s.bdc.credit = 0 ∧ 1 ≤ (presentEntry s).depth then { s with bdc.credit := 1 } else s

/-- A transition completes at `dest` (R160, Table 9-6): the neighbours take the new present level, LEVEL-CHANGED is
raised, a brief episode may start at EL5 (R173), and the target is compared again (R156). R160 puts that comparison after the
neighbours are given the level, and does not say whether the Board Composer tests its queue (R124) in between; the model starts
the next transition first, so that the test is made at its serving level. DESIGN CHOICE, log 7. -/
def completeAt (dest : Level) (s : State) : State :=
  let left := s.enm.present
  let s1 := { s with enm.present := dest, enm.previous := some left, enm.transition := .none }
  let s2 := raiseNotice .levelChanged (decideSales (dormantCredit left (takeLoadSettings s1)))
  retarget (if dest = .el5 then judgeBriefStart s2 else s2)

/-- A raise completes (R157, R160). -/
def completeRaise (dest : Level) (s : State) : State := completeAt dest s

/-- A lowering completes: the draw and the rail mode of the destination are taken now (R158, R160, Table 9-6). -/
def completeLowering (dest : Level) (s : State) : State :=
  completeAt dest (followRailMode { s with enm.draw := (levelEntry s dest).draw, plc.railLevel := dest })

/-- Whether the drain of the lowering in flight waits for nothing: the line clear, and for EL4 or EL5 the slot not
PRINTING (R159). -/
def drained (dest : Level) (s : State) : Bool :=
  s.plc.line.isNone && !(resting dest && slotState s.slc.slot == .printing)

/-! ### Events -/

/-- The stale timer expires: the stale flag, SUPPLY-STALE, and the stricter of EL2 and the limit in force (R151). -/
def staleExpiry (s : State) : State :=
  match s.enm.staleTimer with
  | none => s
  | some _ =>
    setBattery (stricter (some .el2) s.enm.battery)
      (raiseNotice .supplyStale { s with enm.stale := true, enm.staleTimer := none })

/-- The raise settle timer expires and the raise completes (R157). -/
def raiseSettled (s : State) : State :=
  match s.enm.transition with
  | .raising dest _ => completeRaise dest s
  | _ => s

/-- The demand timer expires: the demand level falls one level and the timer restarts or stops (R164). -/
def demandExpiry (s : State) : State :=
  match s.awu.timer with
  | .running _ =>
    let s1 := { s with awu.demand := levelDown s.awu.demand }
    retarget { s1 with awu.timer := freshDemandTimer s1 }
  | _ => s

/-- The return timer of a brief episode expires (R174). -/
def returnExpiry (s : State) : State :=
  match s.awu.returnTimer with
  | .running _ => { s with awu.returnTimer := .expired }
  | _ => s

/-- The return condition of a brief episode: its timer expired, no urgent entry, the line clear (R174). -/
def briefReturns (s : State) : Bool :=
  s.awu.brief && decide (s.awu.returnTimer = .expired) && !urgentWaiting s && s.plc.line.isNone

end Sys2Proof.Machine
end

