-- ==== Sys2Proof/Machine/Clock.lean ====
section
/-! DEFINITION. The Station Clock: counting, setting and reading, and its two events as the receiving blocks take them
(Chapter 1). -/

namespace Sys2Proof.Machine

/-! ### The minute event (R6) -/

/-- A minute event as the blocks take it: services (R42), host messages and the lamp (R116, R127), the quiet window (R152);
the order among the blocks is the model's (log 7). No block's rule reads its cause or its date. -/
def minuteEvent (e : MinuteEvent) (s : State) : State :=
  quietOnMinute (setLamp (expireHost e.minute (minuteEvaluation e.minute s)))

/-- The minute event for a clock position (R6). -/
def minuteAt (c : ClockSetting) (cause : MinuteCause) : MinuteEvent := ⟨c.date, minuteOf c.tod, cause⟩

/-! ### The rollover event (R7) -/

/-- The Board Composer at a rollover: both message lists are emptied and every PRESENT panel is queued (R116, R117,
R121). -/
def boardsRollover (s : State) : State :=
  requestAll false (keepMessages (fun _ => false) (fun _ => false) s)

/-- The Host Link at a rollover: the DAY-ROLLOVER record, with the version of a tariff the rollover activated (R185). -/
def recordDay (e : RolloverEvent) (activated : Option Tariff) (s : State) : State :=
  raiseNotice .dayRollover { s with hlk.day := some ⟨e.entered, e.cause, activated.map (·.version)⟩ }

/-- The sale slot and the tariff at a rollover. Where both would withdraw the quote, either may be taken first (R61);
`Config.dayFirst` decides (log 8). -/
def slotAndTariff (entered : Date) (s : State) : State :=
  if slotState s.slc.slot = .quoted ∧ (tariffDue entered s).isSome then
    let s1 := { s with free := s.free + 1 }
    if Config.dayFirst s.free then tfeRollover entered (withdraw .day s1) else withdraw .day (tfeRollover entered s1)
  else withdraw .day (tfeRollover entered s)

/-- A rollover event (R7), taken by the Timetable Store, the Tariff and Fare Engine with the Sale Controller, the Board
Composer, the Activity and Wake Unit and the Host Link, in the order of log 7. No block's rule reads the date left. -/
def rolloverEvent (e : RolloverEvent) (s : State) : State :=
  let due := tariffDue e.entered s
  let s1 := boardsRollover (slotAndTariff e.entered (ttsRollover e.entered e.cause s))
  recordDay e due (internalEvent s1.awu.config.clock .clock s1)

/-! ### Counting (R4, R5) -/

/-- The clock placed at a position with a fresh second phase. -/
def placeClock (c : ClockSetting) (s : State) : State := { s with clock := some c }

/-- The clock enters a service date at a position: the rollover event, then the minute event that always follows (R7). -/
def enterDate (c : ClockSetting) (left : Option Date) (day : RolloverCause) (minute : MinuteCause) (s : State) : State :=
  minuteEvent (minuteAt c minute) (rolloverEvent ⟨c.date, left, day⟩ s)

/-- The unset signal at the end of the date range (R5): approach flags (R43), the sales reasons (R90), the lamp (R127),
the quiet limit (R152). R5 gives the four receivers in no order; the model takes them in this one, so that the target is
computed without the approach condition before the quiet limit goes. DESIGN CHOICE, log 7. -/
def unsetClock (s : State) : State := evaluateQuiet (setLamp (decideSales (ttsUnset { s with clock := none })))

/-- A completed second (R4, R5). -/
def clockTick (c : ClockSetting) (s : State) : State :=
  if c.tod < 86399 then
    let d := { c with tod := c.tod + 1, phase := 0 }
    if d.tod % 60 = 0 then minuteEvent (minuteAt d .count) (placeClock d s) else placeClock d s
  else if dateBefore c.date lastDate then
    let d := { c with date := nextDate c.date, tod := 0, phase := 0 }
    enterDate d (some c.date) .count .count (placeClock d s)
  else unsetClock s

/-- CLOCK_SECOND: a second completes while the clock is SET (R4). -/
def clockSecondEvent (s : State) : State := s.clock.elim s fun c => clockTick c s

/-! ### Setting and reading (R8 to R10, R12) -/

/-- A refusal RANGE with the clock fields (R8). -/
def clockRefusal (d : Detail) (s : State) : Answer := ⟨.range, d, .clock (clockFields s)⟩

/-- The answer DONE to a CLOCK-SET, with the fields as they stand after it (R9, R10). -/
def clockPlacedAnswer (rollover : Bool) (s : State) : Answer := done (.clockPlaced (clockFields s) rollover)

/-- The first setting (R9): the position placed, the lamp and the sales reasons that follow it (R127, R87, R90), and the date
entered with none left. No rule orders the removal of CLOCK, with its sales event, and the lamp among what the FIRST rollover
does to the other blocks; the model takes both before it. DESIGN CHOICE, log 7. -/
def firstSetting (date : Date) (tod : Nat) (s : State) : State :=
  let d : ClockSetting := ⟨date, tod, 0, none⟩
  enterDate d none .first .set (decideSales (setLamp (placeClock d s)))

/-- The signed seconds of a step (R10). -/
def stepSeconds (c : ClockSetting) (date : Date) (tod : Nat) : Int :=
  86400 * ((dayNumber date : Int) - (dayNumber c.date : Int)) + (tod : Int) - (c.tod : Int)

/-- A step of a SET clock (R10). -/
def stepClock (c : ClockSetting) (date : Date) (tod : Nat) (s : State) : State × Answer :=
  if dateBefore date c.date then (s, clockRefusal .backward s)
  else if dayNumber c.date + 366 < dayNumber date then (s, clockRefusal .tooFar s)
  else
    let d : ClockSetting := ⟨date, tod, 0, some (stepSeconds c date tod)⟩
    if date = c.date then
      let s1 := minuteEvent (minuteAt d .set) (placeClock d s)
      (s1, clockPlacedAnswer false s1)
    else
      let s1 := enterDate d (some c.date) .step .set (placeClock d s)
      (s1, clockPlacedAnswer true s1)

/-- CLOCK-SET (R8, R9, R10). -/
def clockSetRule (year month day hour minute second : Nat) (s : State) : State × Answer :=
  let p := clockPosition ⟨year, month, day⟩ (3600 * hour + 60 * minute + second)
  if !clockFieldsInRange year month day hour minute second || !inSpan p.1 then (s, clockRefusal .field s)
  else
    match s.clock with
    | none =>
      let s1 := firstSetting p.1 p.2 s
      (s1, clockPlacedAnswer true s1)
    | some c => stepClock c p.1 p.2 s

/-- CLOCK-READ (R12). -/
def clockReadRule (s : State) : State × Answer := (s, done (.clock (clockFields s)))

end Sys2Proof.Machine
end

