-- ==== Sys2Proof/Machine/Settle.lean ====
section
/-! DEFINITION. What the blocks do in the taking that brings it about: the urgent-entry report, the cold flag, probes and
refreshes that take the free line, the return of a brief episode, and a drain that clears (log 5, log 6). -/

namespace Sys2Proof.Machine

/-- The Board Composer reports a changed urgent-entry condition; where it became true the start of a brief episode is
judged (R126, R173). -/
def reportUrgent (s : State) : State :=
  let s1 := { s with awu.urgent := urgentWaiting s }
  if urgentWaiting s then judgeBriefStart s1 else s1

/-- The lowering in flight completes if its drain is clear (R159). -/
def drainReady (s : State) : Option Level := (loweringTo s).bind fun d => if drained d s then some d else none

/-- The next reaction that stands, in the order of log 6: the urgent-entry report, the cold flag, a due probe (before any
entry, R124), the first servable entry, the return of a brief episode, the completion of a drained lowering (judged after
the freed line has been offered, R159). -/
def react (s : State) : Option State :=
  if urgentWaiting s ≠ s.awu.urgent then some (reportUrgent s)
  else if coldNow s ≠ s.plc.cold then some (judgeCold s)
  else
    match probeReady s, firstServable s with
    | some a, _ => some (startProbe a s)
    | none, some e => some (serve e.panel s)
    | none, none =>
      if briefReturns s then some (endBrief s) else (drainReady s).map fun d => completeLowering d s

/-- Reactions until none stands, at most as many as the first argument. -/
def settleLoop : Nat → State → State
  | 0, s => s
  | n + 1, s => (react s).elim s (settleLoop n)

/-- Everything that stands comes about, until nothing stands; the rotation timer follows its condition (R118). The bound is
never met (`quiet_settle`): a reaction serves an entry, takes the line or moves the level (log 6). -/
def settle (s : State) : State := followRotation (settleLoop (256 + 3 * s.bdc.queue.length) s)

/-- SERVE_ENTRY as an event of its own: the first servable entry, if the test of R124 passes now. A due probe goes first. -/
def serveFirst (s : State) : State :=
  match probeReady s, firstServable s with
  | none, some e => serve e.panel s
  | _, _ => s

/-- PROBE_START as an event of its own (R132). -/
def probeFirst (s : State) : State := (probeReady s).elim s fun a => startProbe a s

/-- LOWERING_COMPLETE as an event of its own (R159). -/
def drainFirst (s : State) : State := (drainReady s).elim s fun d => completeLowering d s

/-- BRIEF_EPISODE_RETURN as an event of its own (R174). -/
def returnFirst (s : State) : State := if briefReturns s then endBrief s else s

end Sys2Proof.Machine
end

