-- ==== Sys2Proof/Machine/EnergyRequests.lean ====
section
/-! DEFINITION. The requests of the Energy Manager (Chapter 9). -/

namespace Sys2Proof.Machine

/-- LEVEL-TABLE's effect on an entry (R146). -/
def storeEntry (e : LevelEntry) (draw rate depth rotation lamp timeout : Option Nat) : LevelEntry where
  draw := draw.getD e.draw
  rate := rate.getD e.rate
  depth := depth.getD e.depth
  rotation := rotation.getD e.rotation
  lamp := lamp.getD e.lamp
  timeout := match timeout with
    | some t => some (storedTimeout t)
    | none => e.timeout

/-- The level whose draw the draw allowance stands at (R146). -/
def drawLevel (s : State) : Level :=
  match s.enm.transition with
  | .raising d _ => d
  | _ => s.enm.present

/-- What an accepted LEVEL-TABLE does with the new entry (R146, R148, R166). -/
def applyEntry (l : Level) (e : LevelEntry) (s : State) : State :=
  let old := levelEntry s l
  let s1 := { s with enm.table := s.enm.table.set l e }
  let s2 := if e.draw ≠ old.draw ∧ drawLevel s1 = l then { s1 with enm.draw := e.draw } else s1
  let s3 := if e.timeout ≠ old.timeout ∧ s2.awu.demand = l then restartDemandTimer s2 else s2
  let s4 := if l = s3.enm.present then takeLoadSettings s3 else s3
  if e.draw ≠ old.draw then recomputeCeiling s4 else s4

/-- LEVEL-TABLE (R146). A request without a parameter answers with a clamped flag too, a clear one: R146 does not say whether it
does. DESIGN CHOICE, log 36. -/
def levelTableRule (selector : Coded Level) (draw rate depth rotation lamp timeout : Option Nat) (s : State) :
    State × Answer :=
  match selector with
  | .other _ => (s, refuse .range .field)
  | .named l =>
    if !entryInRange l draw rate depth rotation lamp timeout then (s, refuse .range .field)
    else if draw.isNone && rate.isNone && depth.isNone && rotation.isNone && lamp.isNone && timeout.isNone then
      (s, done (.levelEntry (levelEntry s l) false))
    else
      let e := storeEntry (levelEntry s l) draw rate depth rotation lamp timeout
      (applyEntry l e s, done (.levelEntry e (timeout.any fun t => decide (storedTimeout t ≠ t))))

/-- LEVEL-CEILING (R149). -/
def levelCeilingRule (value : Option Nat) (s : State) : State × Answer :=
  match value with
  | none => (s, done (.ceiling s.enm.ceiling s.enm.effective))
  | some n =>
    match levelOf n with
    | none => (s, refuse .range .field)
    | some l =>
      let s1 := recomputeCeiling { s with enm.ceiling := l }
      (s1, done (.ceiling s1.enm.ceiling s1.enm.effective))

/-- The HOST limit and the target, as LEVEL-LIMIT's reply carries them (R153), a target of ELA as level 0 with the
approach flag: R153 does not say how. DESIGN CHOICE, log 36. -/
def limitAnswer (s : State) : Answer := done (.limit s.enm.hostLimit (hostLevel s.enm.target))

/-- The HOST limit set, with all that this brings about in the taking: the reply carries the target after it (R153). -/
def storeHost (l : Option Level) (s : State) : State × Answer :=
  let s1 := settle (setHost l s)
  (s1, limitAnswer s1)

/-- LEVEL-LIMIT (R153). -/
def levelLimitRule (value : LimitField) (s : State) : State × Answer :=
  match value with
  | .absent => (s, limitAnswer s)
  | .noLimit => storeHost none s
  | .level n =>
    match levelOf n with
    | none => (s, refuse .range .field)
    | some l => storeHost (some l) s
  | .other _ => (s, refuse .range .field)

/-- The enabled set (R148). -/
def enabledSet (s : State) : PerLevel Bool :=
  ⟨levelEnabled s .ela, levelEnabled s .el0, levelEnabled s .el1, levelEnabled s .el2, levelEnabled s .el3,
    levelEnabled s .el4, levelEnabled s .el5⟩

/-- SUPPLY-CAPACITY (R148). -/
def supplyCapacityRule (current : Option Nat) (s : State) : State × Answer :=
  match current with
  | none => (s, done (.capacity s.enm.capacity (enabledSet s)))
  | some c =>
    if !within 50 5000 c then (s, refuse .range .field)
    else
      let s1 := recomputeCeiling { s with enm.capacity := c }
      (s1, done (.capacity s1.enm.capacity (enabledSet s1)))

/-- A charge recorded, with the BATTERY limit it brings (R150, R151). -/
def takeCharge (c : Nat) (s : State) : State :=
  let s1 := { s with enm.charge := some c, enm.stale := false, enm.staleTimer := some 900000 }
  setBattery (batteryAfter c s.enm.battery) (if c < 5 then raiseNotice .supplyCritical s1 else s1)

/-- SUPPLY-REPORT (R150): the reply carries the target after all that the report brings about in the taking, a target of
ELA as level 0 with the approach flag: R150 does not say how. DESIGN CHOICE, log 36. -/
def supplyReportRule (charge : Int) (s : State) : State × Answer :=
  let c := (clampInt 0 100 charge).toNat
  let s1 := settle (takeCharge c s)
  (s1, done (.supply c s1.enm.battery (hostLevel s1.enm.target)))

/-- ENERGY-SETTINGS (R147). -/
def energySettingsRule (quietStart quietEnd raiseSettle dormantSettle : Option Nat) (s : State) : State × Answer :=
  if !energyInRange quietStart quietEnd raiseSettle dormantSettle then (s, refuse .range .field)
  else
    let s1 :=
      { s with
        enm.quietStart := quietStart.getD s.enm.quietStart
        enm.quietEnd := quietEnd.getD s.enm.quietEnd
        enm.raiseSettle := raiseSettle.getD s.enm.raiseSettle
        enm.dormantSettle := dormantSettle.getD s.enm.dormantSettle }
    let s2 := if quietStart.isSome then evaluateQuiet s1 else s1
    (s2, done (.energySettings s2.enm.quietStart s2.enm.quietEnd s2.enm.raiseSettle s2.enm.dormantSettle))

/-- The phase as ENERGY-STATUS reports it (R161). -/
def energyPhase (s : State) : EnergyPhase :=
  match s.enm.transition with
  | .none => .none
  | .raising d left => .raiseSettle (hostLevel d) left
  | .lowering d =>
    .lowerDrain (hostLevel d) s.plc.line.isSome (resting d && slotState s.slc.slot == .printing)

/-- ENERGY-STATUS (R161). R161 gives the present level, the target and the destination an approach flag; the model gives the
previous level one of its own as well. DESIGN CHOICE, log 36. -/
def energyStatusRule (s : State) : State × Answer :=
  (s, done (.energyStatus
    { present := hostLevel s.enm.present, brief := s.awu.brief, target := hostLevel s.enm.target
      phase := energyPhase s, previous := s.enm.previous.map hostLevel, ceiling := s.enm.ceiling
      effective := s.enm.effective, demand := s.awu.demand, battery := s.enm.battery, cold := s.enm.coldLimit
      quiet := s.enm.quietLimit, host := s.enm.hostLimit, charge := s.enm.charge, stale := s.enm.stale
      staleSeconds := s.enm.staleTimer.map secondsLeft, enabled := enabledSet s, capacity := s.enm.capacity
      draw := s.enm.draw }))

end Sys2Proof.Machine
end

