-- ==== Sys2Proof/Machine/Notices.lean ====
section
/-! DEFINITION. The notice requests (R183, R184). -/

namespace Sys2Proof.Machine

/-- The number of notice sources (Table 11-4). -/
def sourceCount : Nat := 16

/-- The notice of a source number. -/
def noticeAt (s : State) (n : Nat) : Notice := s.hlk.notices.getD n (quietNotice .low)

/-- Whether the cabinet door is open: DOOR's filtered level is high (R168). -/
def doorOpen (s : State) : Bool := decide (s.awu.filtered.door = some true)

/-! ### NOTICE-READ (R183) -/

/-- The pending sources of a priority, in ascending number. -/
def pendingOf (p : NoticePriority) (s : State) : List Nat :=
  (List.range sourceCount).filter fun n => (noticeAt s n).pending && (noticeAt s n).priority == p

/-- The pending sources in the order of R183. -/
def pendingSources (s : State) : List Nat := pendingOf .high s ++ pendingOf .low s

/-- Every pending source's seen mark set. -/
def markSeen (s : State) : State :=
  { s with hlk.notices := s.hlk.notices.map fun n => if n.pending then { n with seen := true } else n }

/-- NOTICE-READ (R183); DAY-ROLLOVER's record follows when it is pending (R185). -/
def noticeReadRule (s : State) : State × Answer :=
  (markSeen s,
    done (.notices ((pendingSources s).map fun n => ⟨n, (noticeAt s n).priority, (noticeAt s n).enable⟩)
      (if (noticeOf s .dayRollover).pending then s.hlk.day else none)))

/-! ### NOTICE-CLEAR (R183) -/

/-- Whether a NOTICE-CLEAR clears a source: pending with its seen mark set. -/
def clears (s : State) (n : Nat) : Bool := (noticeAt s n).pending && (noticeAt s n).seen

/-- The pending flag of a source number cleared (R183); the next raise clears its mark (R182). -/
def clearNotice (s : State) (n : Nat) : State :=
  { s with hlk.notices := s.hlk.notices.modify n fun x => { x with pending := false } }

/-- NOTICE-CLEAR (R183). Under sense LEVEL a cleared DOOR-OPEN is raised again while the door is open (R184), and then
counts among those left pending (log 20). -/
def noticeClearRule (sources : List Nat) (s : State) : State × Answer :=
  if sources.any fun n => decide (15 < n) then (s, refuse .range .field)
  else
    let named := (List.range sourceCount).filter fun n => sources.contains n
    let cleared := named.filter (clears s)
    let s1 := cleared.foldl clearNotice s
    let s2 :=
      if cleared.contains Source.doorOpen.number && s.hlk.doorSense == .level && doorOpen s then
        raiseNotice .doorOpen s1
      else s1
    (s2, done (.noticesCleared cleared (named.filter fun n => (noticeAt s2 n).pending)))

/-! ### NOTICE-CONFIG (R184) -/

/-- A notice with the fields carried for its source. -/
def configured (f : NoticeField) (n : Notice) : Notice :=
  { n with enable := f.enable.getD n.enable, priority := optCoded n.priority f.priority }

/-- The configuration of one source stored. -/
def storeNotice (s : State) (f : NoticeField) : State :=
  { s with hlk.notices := s.hlk.notices.modify f.source (configured f) }

/-- The door's sense stored; a change to LEVEL with the door open and the flag clear raises DOOR-OPEN. -/
def storeDoorSense (sense : DoorSense) (s : State) : State :=
  let s1 := { s with hlk.doorSense := sense }
  if s.hlk.doorSense = .edge ∧ sense = .level ∧ doorOpen s = true ∧ (noticeOf s .doorOpen).pending = false then
    raiseNotice .doorOpen s1
  else s1

/-- The configuration as stored. -/
def noticeSettings (s : State) : List NoticeSetting :=
  (List.range sourceCount).map fun n => ⟨n, (noticeAt s n).enable, (noticeAt s n).priority⟩

/-- NOTICE-CONFIG (R184). Of two fields carried for one source the last stands: the rule gives each source at most one
and says nothing of two. DESIGN CHOICE, log 34. -/
def noticeConfigRule (fields : List NoticeField) (doorSense : Option (Coded DoorSense)) (s : State) : State × Answer :=
  if !noticesInRange fields doorSense then (s, refuse .range .field)
  else
    let s1 := storeDoorSense (optCoded s.hlk.doorSense doorSense) (fields.foldl storeNotice s)
    (s1, done (.noticeSettings (noticeSettings s1) s1.hlk.doorSense))

end Sys2Proof.Machine
end

