-- ==== Sys2Proof/Machine/Sales.lean ====
section
/-! DEFINITION. The Sale Controller: quoting, committing, concluding, closing and reading (Chapter 5). -/

namespace Sys2Proof.Machine

/-- The quote timer: 120 s. -/
def quoteTime : Nat := 120000

/-- The print timer: 30 s. -/
def printTime : Nat := 30000

/-! ### Settings (R75) -/

/-- The set of payment kinds a list names. -/
def kindSet (l : List Payment) : PerPayment Bool := ⟨l.contains .cash, l.contains .card, l.contains .voucher⟩

/-- The set of ticket types a list names. -/
def typeSet (l : List TicketType) : PerTicket Bool :=
  ⟨l.contains .single, l.contains .ret, l.contains .openSingle, l.contains .openReturn⟩

/-- A carried set: absent keeps the stored one (`some none`), a value outside its list gives `none` (R75). -/
def carriedSet {α : Type} : Option (List (Coded α)) → Option (Option (List α))
  | none => some none
  | some l => (namedAll l).map some

/-- SALE-SETTINGS (R75). -/
def saleSettingsRule (kinds : Option (List (Coded Payment))) (types : Option (List (Coded TicketType))) (s : State) :
    State × Answer :=
  match carriedSet kinds, carriedSet types with
  | some k, some t =>
    let s1 :=
      { s with
        slc.kinds := (k.map kindSet).getD s.slc.kinds
        slc.types := (t.map typeSet).getD s.slc.types }
    (s1, done (.saleSettings s1.slc.kinds s1.slc.types))
  | _, _ => (s, refuse .range .field)

/-! ### Quoting (R76, R77) -/

/-- Whether a selector fits a ticket type: OPEN with the open types, NEXT and NUMBER with the bound ones (R76). -/
def selectorFits (sel : ServiceSel) (k : TicketType) : Bool :=
  match sel, k with
  | .openTicket, .openSingle => true
  | .openTicket, .openReturn => true
  | .openTicket, _ => false
  | _, .single => true
  | _, .ret => true
  | _, _ => false

/-- What binding a service comes to (R77). -/
inductive Binding where
  | unbound | unknown | noneLeft
  | service (v : Service)
deriving DecidableEq, Repr

/-- The service bound by the selector (R77). -/
def bindService (sel : ServiceSel) (number : Option Nat) (code : Nat) (s : State) : Binding :=
  match sel with
  | .openTicket => .unbound
  | .next => (nextService code s).elim .noneLeft .service
  | .number =>
    match namedService (number.getD 0) code s with
    | .unknown => .unknown
    | .noneLeft => .noneLeft
    | .found v => .service v

/-- The quote formed with a fare and a bound service, held with a fresh timer; it replaces an old one whole (R77). -/
def formQuote (code : Nat) (k : TicketType) (cls quantity : Nat) (v : Option Service) (f : FareResult) (s : State) :
    State × Answer :=
  let q : Quote :=
    { dest := code, name := f.name, side := f.side, ticket := k, cls := cls, quantity := quantity
      bound := v.map fun w => ⟨w.plan.number, w.plan.minute⟩
      fare := f.fare, total := f.total, peak := f.peak, version := f.version }
  (putSlot (.quoted q quoteTime) s,
    done (.quoted q 120 (v.map fun w => (expectedMinute w, w.platform))))

/-- The fare asked for and the quote formed once the service is bound (R63, R77). -/
def quoteBound (t : Tariff) (code : Nat) (k : TicketType) (cls quantity : Nat) (v : Option Service) (s : State) :
    State × Answer :=
  let peakMinute := v.elim ((nowMinute s).getD 0) fun w => w.plan.minute
  match workFare t.version t.stations t.rules code k cls quantity (ticketInPeak s t.rules peakMinute) with
  | .unknownStation => (s, refuse .unknown .station)
  | .unusedClass => (s, refuse .range .cls)
  | .worked f _ => formQuote code k cls quantity v f s

/-- Checks 7 to 9 of R76 and the binding of R77, from the active tariff. -/
def quoteFrom (t : Tariff) (code : Nat) (k : TicketType) (cls quantity : Nat) (sel : ServiceSel)
    (number : Option Nat) (s : State) : State × Answer :=
  if !(t.stations.any fun x => x.code == code) then (s, refuse .unknown .station)
  else if (classRule t.rules cls).isNone then (s, refuse .range .cls)
  else
    match bindService sel number code s with
    | .unknown => (s, refuse .unknown .service)
    | .noneLeft => (s, refuse .noneLeft .none)
    | .unbound => quoteBound t code k cls quantity none s
    | .service v => quoteBound t code k cls quantity (some v) s

/-- SALE-QUOTE, checks 2 to 9 (R76, R77). With sales open there is an active tariff (R87). -/
def saleQuoteRule (code : Nat) (ticket : Coded TicketType) (cls quantity : Nat) (selector : Coded ServiceSel)
    (service : Option Nat) (s : State) : State × Answer :=
  match ticket, selector with
  | .named k, .named sel =>
    if !quoteInRange code ticket cls quantity selector service then (s, refuse .range .field)
    else
      match s.tfe.active with
      | none => (s, ⟨.closed, .none, .reasons (salesReasons s)⟩)
      | some t =>
        if !salesOpen s then (s, ⟨.closed, .none, .reasons (salesReasons s)⟩)
        else if slotState s.slc.slot = .printing then (s, refuse .busy .none)
        else if !s.slc.types.get k then (s, refuse .range .ticketType)
        else if !selectorFits sel k then (s, refuse .range .binding)
        else quoteFrom t code k cls quantity sel service s
  | _, _ => (s, refuse .range .field)

/-! ### Commit (R81, R82) -/

/-- The ticket record of a sale (Table 5-4). -/
def ticketOf (x : Sale) : Ticket :=
  { serial := x.serial, date := x.date, ticket := x.quote.ticket, cls := x.quote.cls, quantity := x.quote.quantity
    dest := x.quote.dest, name := x.quote.name, bound := x.quote.bound, fare := x.quote.fare, total := x.quote.total
    peak := x.quote.peak, version := x.quote.version }

/-- Check 7 of R81: the bound service of a quote still eligible, and of the scheduled minute quoted. -/
def quoteStands (q : Quote) (s : State) : Bool :=
  match q.bound with
  | none => true
  | some b =>
    match namedService b.number q.dest s with
    | .found v => v.plan.minute == b.minute
    | _ => false

/-- An accepted commit (R82): a place reserved, the next serial given, the slot PRINTING, the free count reported. -/
def commit (q : Quote) (date : Date) (payment : Payment) (reference : Option Text) (s : State) : State × Answer :=
  let x : Sale := ⟨q, s.sjn.next, date, payment, reference⟩
  let s1 := putSlot (.printing x printTime) { s with sjn.reserved := true, sjn.next := s.sjn.next + 1 }
  (reportFree s1, done (.ticket (ticketOf x)))

/-- SALE-COMMIT, checks 2 to 7 (R81, R82). With sales open the clock is SET (R87). -/
def saleCommitRule (payment : Coded Payment) (reference : Option Text) (s : State) : State × Answer :=
  match payment with
  | .other _ => (s, refuse .range .field)
  | .named k =>
    if !reference.all (displayText 16) then (s, refuse .range .field)
    else
      match s.slc.slot with
      | .quoted q _ =>
        if !s.slc.kinds.get k then (s, refuse .range .payment)
        else if freeCount s = 0 then (s, refuse .full .none)
        else
          match s.clock with
          | none => (s, ⟨.closed, .none, .reasons (salesReasons s)⟩)
          | some c =>
            if !salesOpen s then (s, ⟨.closed, .none, .reasons (salesReasons s)⟩)
            else if !quoteStands q s then (withdraw .service s, refuse .noneLeft .none)
            else commit q c.date k reference s
      | _ => (s, refuse .busy .none)

/-! ### Conclusion (R83 to R86) -/

/-- The completion time of a sale (R86). On a date before the sale's, which R86 does not name, it is a free value below
86,400, since R95 gives a greater one on the next date only, or absent. DESIGN CHOICE, log 37. -/
def completionTime (date : Date) (s : State) : Option Nat :=
  s.clock.bind fun c =>
    if c.date = date then some c.tod
    else if c.date = nextDate date ∧ 86400 + c.tod ≤ 97199 then some (86400 + c.tod)
    else if dateBefore c.date date then
      (Config.openCompletion date c.date c.tod).filter fun n => decide (n < 86400)
    else none

/-- The journal record of a sale (R86). -/
def recordOf (x : Sale) (kind : RecordKind) (completion : Option Nat) : JRecord :=
  { serial := x.serial, kind := kind, date := x.date, completion := completion, dest := x.quote.dest
    ticket := x.quote.ticket, cls := x.quote.cls, quantity := x.quote.quantity, bound := x.quote.bound.map (·.number)
    total := x.quote.total, payment := x.payment, reference := x.reference, version := x.quote.version
    handed := false }

/-- A PRINTING sale concluded: its record appended, the sold count of a counted bound sale offered, the slot IDLE
(R86). -/
def conclude (x : Sale) (kind : RecordKind) (s : State) : State :=
  let s1 := append (recordOf x kind (completionTime x.date s)) s
  let s2 :=
    match x.quote.bound with
    | some b => if counted kind then offerSold x.date b.number x.quote.quantity s1 else s1
    | none => s1
  putSlot .idle s2

/-- The answer to a serial the slot does not hold (R84). -/
def lateAnswer (serial : Nat) (s : State) : Answer :=
  if s.sjn.next ≤ serial then refuse .unknown .none else ⟨.late, .none, .standing (standingOf serial s)⟩

/-- The record kind of a print result (R83). -/
def resultKind : PrintOutcome → RecordKind
  | .printed => .issued
  | .spoiled => .spoiled

/-- SALE-PRINTED (R83, R84). -/
def salePrintedRule (serial : Nat) (outcome : Coded PrintOutcome) (s : State) : State × Answer :=
  match outcome with
  | .other _ => (s, refuse .range .field)
  | .named o =>
    if !within 1 lastSerial serial then (s, refuse .range .field)
    else
      match s.slc.slot with
      | .printing x _ =>
        if x.serial = serial then
          (conclude x (resultKind o) s, done (.concluded serial (resultKind o)))
        else (s, lateAnswer serial s)
      | _ => (s, lateAnswer serial s)

/-- SALE-CANCEL (R80). -/
def saleCancelRule (s : State) : State × Answer :=
  match s.slc.slot with
  | .printing _ _ => (s, refuse .busy .none)
  | _ => (putSlot .idle s, done (.slot .idle))

/-! ### Open and closed (R88, R91) -/

/-- The open state and the reason set, as SALES-CLOSE and SALES-OPEN answer them (R88). -/
def salesAnswer (s : State) : Answer := done (.salesState (salesOpen s) (salesReasons s))

/-- SALES-CLOSE (R88). -/
def salesCloseRule (s : State) : State × Answer :=
  let s1 := withdraw .closed (decideSales { s with slc.hostClosed := true })
  (s1, salesAnswer s1)

/-- SALES-OPEN (R88). -/
def salesOpenRule (s : State) : State × Answer :=
  let s1 := decideSales { s with slc.hostClosed := false }
  (s1, salesAnswer s1)

/-- The slot as SALE-STATUS returns it (R91). -/
def slotReport : Slot → SlotReport
  | .idle => .idle
  | .quoted q left => .quoted q (secondsLeft left)
  | .printing x left => .printing (ticketOf x) x.payment x.reference (secondsLeft left)

/-- SALE-STATUS (R91). -/
def saleStatusRule (s : State) : State × Answer :=
  (s, done (.saleStatus (slotReport s.slc.slot) (salesOpen s) (salesReasons s) (salesReasons s).head? s.slc.hostClosed
    s.slc.lastReason))

/-! ### Timers (R78, R85) -/

/-- The quote timer expires (R78). -/
def quoteExpiry (s : State) : State := withdraw .expiry s

/-- The print timer expires (R85). -/
def printExpiry (s : State) : State :=
  match s.slc.slot with
  | .printing x _ => raiseNotice .printTimeout (conclude x .unconfirmed s)
  | _ => s

end Sys2Proof.Machine
end

