-- ==== Sys2Proof/Machine/Restart.lean ====
section
/-! DEFINITION. Restart, power loss, the reset input, and CLEAR-RETAINED, IDENTIFY and RESTART (R176, R180, R181, R187,
and the restart rule of each chapter). -/

namespace Sys2Proof.Machine

/-! ### What is lost (R187) -/

/-- A current service after a restart: the sold count is kept, the other running fields start afresh (R30, Table 3-1). -/
def restartService (v : Service) : Service := { startService v.plan with sold := v.sold }

/-- The retained slot: PRINTING but for its timer (R74). -/
def retainedSlot : Slot → Slot
  | .printing x _ => .printing x 0
  | _ => .idle

/-- The notices with no flag and no mark (R182). -/
def clearedNotices (l : List Notice) : List Notice := l.map fun n => { n with pending := false, seen := false }

/-- The panel records after a restart (R130). -/
def restartPanels (profiles : Four Profile) : Four PanelRecord :=
  profiles.map fun p => if p.isPresent then unknownPanel none else absentPanel

/-- The Energy Manager after a restart, before its effective ceiling and target are computed (R151, R162). -/
def restartEnergy (e : Enm) : Enm :=
  { e with
    battery := some .el2, charge := none, stale := true, staleTimer := some 900000, coldLimit := none
    quietLimit := none, present := .el4, target := .el4, previous := none, transition := .none
    draw := (e.table.get .el4).draw }

/-- The Activity and Wake Unit after a restart, before its demand level is set (R175). -/
def restartWake (a : Awu) : Awu :=
  { a with
    filtered := ⟨none, none, none, none, none⟩, lock := none, woke := some ⟨.restart, none, none⟩
    wokeFlags := ⟨false, false, false, false, false⟩, brief := false, returnTimer := .stopped, urgent := false }

/-- Every non-retained state at its restart value; the retained store is kept (R187). The slot is kept only in PRINTING
(R74), and with it the reservation (R108); what the retained state itself brings about at the restart is `bringUp`'s. -/
def lose (s : State) : State :=
  { s with
    clock := none
    tts.current := s.tts.current.map fun t => { t with services := t.services.map restartService }
    slc.slot := retainedSlot s.slc.slot
    slc.lastReason := none
    sjn.reserved := slotState s.slc.slot == .printing
    sjn.lowArmed := true
    sjn.fullArmed := true
    bdc :=
      { profiles := s.bdc.profiles, host := [], auto := [], arrivals := 0, composed := .all none, queue := []
        credit := 0, accrual := none, position := none, rotation := none, lamp := 0, sales := some .clock }
    plc :=
      { panels := restartPanels s.bdc.profiles, line := none, cold := false, mode := .gated, rail := .off, idle := none
        railLevel := .el4 }
    enm := restartEnergy s.enm
    awu := restartWake s.awu
    hlk :=
      { receiver := .hunting, waiting := [], reply := none, restartDue := false
        notices := clearedNotices s.hlk.notices, doorSense := s.hlk.doorSense, day := none, hold := true
        fastLine := s.hlk.fastLine } }

/-! ### The restart (R176) -/

/-- The restart conversion: a retained PRINTING sale is concluded UNCONFIRMED, and PRINT-TIMEOUT raised (R92). -/
def convertSale (s : State) : State :=
  match s.slc.slot with
  | .printing x _ =>
    let s1 := append (recordOf x .unconfirmed none) { s with slc.slot := .idle }
    raiseNotice .printTimeout
      (x.quote.bound.elim s1 fun b => offerSold x.date b.number x.quote.quantity s1)
  | _ => s

/-- NO-TIMETABLE for an EMPTY current table at the restart (R25). -/
def reportTimetable (s : State) : State := if s.tts.current.isNone then raiseNotice .noTimetable s else s

/-- The effective ceiling, and the demand level and timer that follow it (R162, R175). -/
def startDemand (s : State) : State :=
  let s1 := { s with enm.effective := ceilingNow s, awu.demand := ceilingNow s }
  { s1 with awu.timer := freshDemandTimer s1 }

/-- The Board Composer's accrual timer and lamp for the restart level (R129). -/
def startBoards (s : State) : State := setLamp { s with bdc.accrual := accrualPeriod (presentEntry s).rate }

/-- The retained state brings the part up: the sale converted, the thresholds evaluated (R108), the restart notices raised
(R182), the ceiling, demand and target computed (R162), and what then stands comes about. -/
def bringUp (s : State) : State :=
  settle
    (retarget (startBoards (startDemand (raiseNotice .woke (reportTimetable (evaluateThresholds (convertSale s)))))))

/-- A restart (R176): BAUDSEL is sampled, every non-retained state takes its restart value, and the part comes up. -/
def restartPart (s : State) : State :=
  let s1 := lose s
  bringUp { s1 with power := .on, hlk.fastLine := s.strap }

/-- A restart at which BAUDSEL stands at a level. -/
def restartAt (strap : Bool) (s : State) : State := restartPart { s with strap := strap }

/-- Power is applied (R176). While RESETN is held low the part is held inactive, and its restart comes at the release
(log 14). -/
def powerUp (strap : Bool) (s : State) : State :=
  match s.power with
  | .held => s
  | .offHeld => { s with power := .held }
  | .on => restartAt strap s
  | .off => restartAt strap s

/-- The restart that a RESTART request brings, with the strap as it then stands: an input that no command carries, so a
free value (R176, R180, log 12). -/
def restartAsked (s : State) : State := restartAt (Config.strapAt s.free) { s with free := s.free + 1 }

/-- Whether RESETN is held low, with the supply or without it (R176). -/
def resetLow : Power → Bool
  | .held => true
  | .offHeld => true
  | .on => false
  | .off => false

/-- The supply fails between two takings (R187, log 14); RESETN stands as it stood. -/
def powerDown (s : State) : State := { lose s with power := if resetLow s.power then .offHeld else .off }

/-- RESETN has been low for 1 ms: the part is held inactive (R176), also when its supply comes only then. -/
def holdPart (s : State) : State :=
  match s.power with
  | .on =>
    { s with
      power := .held
      hlk.notices := clearedNotices s.hlk.notices
      hlk.receiver := .hunting
      hlk.waiting := []
      hlk.reply := none
      hlk.restartDue := false
      plc.rail := .off
      plc.idle := none
      bdc.lamp := 0 }
  | .off => { s with power := .offHeld }
  | .held => s
  | .offHeld => s

/-- RESETN is released after a hold: a restart, as a power-on (R176). A low level shorter than 1 ms is ignored. -/
def releasePart (strap : Bool) (s : State) : State :=
  match s.power with
  | .held => restartAt strap s
  | .offHeld => { s with power := .off }
  | .on => s
  | .off => s

/-! ### Device requests (R180, R181) -/

/-- IDENTIFY (R180). -/
def identifyRule (s : State) : State × Answer :=
  (s, done (.identity "Aveltra".toList "Elbanor HS-42".toList 1 96 16 48 2048 4 8 4 250 2))

/-- RESTART (R180): the restart comes when the reply has been sent. -/
def restartRule (s : State) : State × Answer := ({ s with hlk.restartDue := true }, done .nothing)

/-- The tables and the minute settings cleared (R31). -/
def clearTables (s : State) : State := placeCurrent none { s with tts := ⟨none, none, 5, 4, 2⟩ }

/-- The tariffs, the sale settings and the journal cleared (R51, R93, R109). -/
def clearSales (s : State) : State :=
  decideSales
    { s with
      tfe := ⟨none, none⟩
      slc.kinds := ⟨true, true, true⟩
      slc.types := ⟨true, true, true, true⟩
      slc.hostClosed := false
      slc.lastReason := none
      sjn :=
        { s.sjn with
          next := 1, released := 0, lifetime := ⟨0, 0, 0⟩, handedBack := ⟨0, 0, 0⟩, low := 64, lowArmed := true
          fullArmed := true } }

/-- Every profile to its default, with what each change does (R112, R129). R142 judges the cold flag "whenever that coldest
temperature changes" and does not say whether it is judged as each panel of one taking goes; the model judges it once, after
all have gone, and so keeps it. DESIGN CHOICE, log 40. -/
def clearProfiles (s : State) : State := allPanels.foldl (fun s a => changeProfile a defaultProfile s) s

/-- The energy settings at their defaults (R163); the draw allowance is no setting and stays (Table 9-1). -/
def defaultEnergy (s : State) : State :=
  { s with
    enm.table := defaultLevelTable
    enm.capacity := 5000
    enm.ceiling := .el1
    enm.hostLimit := none
    enm.quietStart := 0
    enm.quietEnd := 0
    enm.raiseSettle := 200
    enm.dormantSettle := 800 }

/-- The energy settings cleared (R163): the ceiling followed, QUIET evaluated, the present level's load settings given,
LIMIT-CHANGED raised for a limit that changed, and only then the target computed. The demand timer and the draw allowance
stay as they are but for a changed ceiling (R175, Table 9-1, Table 10-1). -/
def clearEnergy (s : State) : State :=
  let s1 := followCeiling (defaultEnergy s)
  let s2 := takeLoadSettings { s1 with enm.quietLimit := quietNow s1 }
  retarget
    (if s.enm.hostLimit = s2.enm.hostLimit ∧ s.enm.quietLimit = s2.enm.quietLimit then s2
    else raiseNotice .limitChanged s2)

/-- The wake configuration and the CALL lock cleared (R175). -/
def clearWakes (s : State) : State := { s with awu.config := defaultWakeConfig, awu.lock := none }

/-- The notice configuration to its defaults, the flags kept (R181, R184). -/
def clearNotices (s : State) : State :=
  { s with
    hlk.notices := List.zipWith (fun n d => { n with enable := d.enable, priority := d.priority }) s.hlk.notices
      defaultNotices
    hlk.doorSense := .edge }

/-- Every block clears its retained state (R181); the order among them is the model's (log 7). -/
def clearAll (s : State) : State :=
  clearNotices (clearWakes (clearEnergy (clearProfiles (clearSales (clearTables s)))))

/-- CLEAR-RETAINED (R181). -/
def clearRetainedRule (s : State) : State × Answer :=
  if s.sjn.records.isEmpty && !s.sjn.reserved && slotState s.slc.slot == .idle then (clearAll s, done .nothing)
  else (s, ⟨.busy, .none, .clearBusy s.sjn.records.length s.sjn.reserved (slotState s.slc.slot)⟩)

end Sys2Proof.Machine
end

