-- ==== Sys2Proof/Machine/Wakes.lean ====
section
/-! DEFINITION. The field inputs as events, and the requests of the Activity and Wake Unit (Chapter 10). -/

namespace Sys2Proof.Machine

/-! ### Field inputs (R168, R184) -/

/-- An edge of a filtered level: nothing unless the level taken before was the other one (R168, log 4). -/
def filteredChange (i : FieldInput) (high : Bool) (s : State) : State :=
  if fiveGet s.awu.filtered i = some !high then inputEdge i high s else s

/-- The first taking of a filtered level after a restart is no edge (R168); with the door open it raises DOOR-OPEN under
sense LEVEL (R184). -/
def firstTaking (i : FieldInput) (high : Bool) (s : State) : State :=
  if (fiveGet s.awu.filtered i).isSome then s
  else
    let s1 := { s with awu.filtered := fiveSet s.awu.filtered i (some high) }
    if i = .door ∧ high = true ∧ s.hlk.doorSense = .level then raiseNotice .doorOpen s1 else s1

/-! ### Requests -/

/-- The demand timer as replies give it (R167, R172). -/
def timerReport : DemandTimer → TimerReport
  | .stopped => .stopped
  | .held => .held
  | .running ms => .running (secondsLeft ms)

/-- ACTIVITY (R167). -/
def activityRule (s : State) : State × Answer :=
  let s1 := activity s
  (s1, done (.activity s1.awu.demand
    (match timerReport s1.awu.timer with
    | .running n => some n
    | _ => none)))

/-- A field input's configuration with the fields carried (R169). -/
def storedInput (f : InputField) (c : InputConfig) : InputConfig :=
  ⟨optCoded c.sense f.sense, optCoded c.activity f.activity, optCoded c.wake f.wake⟩

/-- The wake configuration with the fields carried (R169). -/
def storedWake (f : WakeFields) (c : WakeConfig) : WakeConfig where
  inputs :=
    ⟨storedInput f.inputs.call c.inputs.call, storedInput f.inputs.presence c.inputs.presence,
      storedInput f.inputs.card c.inputs.card, storedInput f.inputs.door c.inputs.door,
      storedInput f.inputs.aux c.inputs.aux⟩
  approach := optCoded c.approach f.approach
  clock := optCoded c.clock f.clock
  link := optCoded c.link f.link
  returnTime := f.returnTime.getD c.returnTime

/-- WAKE-CONFIG (R169): a change of CALL's sense clears the re-wake lock (R171). -/
def wakeConfigRule (f : WakeFields) (s : State) : State × Answer :=
  if !wakeInRange f then (s, refuse .range .field)
  else
    let c := storedWake f s.awu.config
    ({ s with
        awu.config := c
        awu.lock := if c.inputs.call.sense = s.awu.config.inputs.call.sense then s.awu.lock else none },
      done (.wakeConfig c))

/-- The filtered level that WAKE-STATUS reports for an input (R172); before the first taking an open one (log 13). -/
def reportedLevel (s : State) (i : FieldInput) : Bool := (fiveGet s.awu.filtered i).getD (Config.levelBeforeTaking i)

/-- The seconds left on the return timer, absent while it is stopped (R172). For a timer that has expired while its episode
runs on (R174) the model reports 0: R172 does not say what stands there. DESIGN CHOICE, log 36. -/
def returnSeconds : ReturnTimer → Option Nat
  | .stopped => none
  | .expired => some 0
  | .running ms => some (secondsLeft ms)

/-- What WAKE-STATUS returns (R172). -/
def wakeReport (s : State) : WakeReport where
  woke := s.awu.woke
  flags := s.awu.wokeFlags
  filtered :=
    ⟨reportedLevel s .call, reportedLevel s .presence, reportedLevel s .card, reportedLevel s .door,
      reportedLevel s .aux⟩
  lock := s.awu.lock.map (·.active)
  demand := s.awu.demand
  timer := timerReport s.awu.timer
  brief := s.awu.brief
  returnSeconds := returnSeconds s.awu.returnTimer

/-- WAKE-STATUS (R172): the record becomes empty and the woke flags clear after the reply is formed. -/
def wakeStatusRule (s : State) : State × Answer :=
  ({ s with awu.woke := none, awu.wokeFlags := ⟨false, false, false, false, false⟩ }, done (.wakeStatus (wakeReport s)))

end Sys2Proof.Machine
end

