-- ==== Sys2Proof/Machine/Requests.lean ====
section
/-! DEFINITION. The request catalogue (Table 11-3): the kind of each request and its owner's rule, and the taking of a
request. -/

namespace Sys2Proof.Machine

/-! ### The catalogue -/

/-- The kind of a request; `none` for the commands that are not requests (Table 11-3). -/
def kindOf : Instr → Option Byte
  | .identify => some 0x01#8
  | .restart => some 0x02#8
  | .clearRetained => some 0x03#8
  | .noticeRead => some 0x04#8
  | .noticeClear .. => some 0x05#8
  | .noticeConfig .. => some 0x06#8
  | .clockSet .. => some 0x10#8
  | .clockRead => some 0x11#8
  | .tableOpen .. => some 0x20#8
  | .tableAdd .. => some 0x21#8
  | .tableClose => some 0x22#8
  | .tableDrop => some 0x23#8
  | .tablePromote .. => some 0x24#8
  | .tableRead .. => some 0x25#8
  | .serviceSettings .. => some 0x26#8
  | .running .. => some 0x27#8
  | .tariffOpen .. => some 0x30#8
  | .tariffStation .. => some 0x31#8
  | .tariffRules .. => some 0x32#8
  | .tariffClose => some 0x33#8
  | .tariffRead .. => some 0x34#8
  | .fareTrial .. => some 0x35#8
  | .saleQuote .. => some 0x40#8
  | .saleCommit .. => some 0x41#8
  | .salePrinted .. => some 0x42#8
  | .saleCancel => some 0x43#8
  | .saleStatus => some 0x44#8
  | .salesClose => some 0x45#8
  | .salesOpen => some 0x46#8
  | .saleSettings .. => some 0x47#8
  | .journalRead .. => some 0x50#8
  | .journalRelease .. => some 0x51#8
  | .takingsRead => some 0x52#8
  | .journalSettings .. => some 0x53#8
  | .panelProfile .. => some 0x60#8
  | .boardText .. => some 0x61#8
  | .boardTextDrop .. => some 0x62#8
  | .boardRefresh .. => some 0x63#8
  | .boardStatus => some 0x64#8
  | .panelReset .. => some 0x65#8
  | .panelStatus => some 0x66#8
  | .levelTable .. => some 0x70#8
  | .levelCeiling .. => some 0x71#8
  | .levelLimit .. => some 0x72#8
  | .supplyCapacity .. => some 0x73#8
  | .supplyReport .. => some 0x74#8
  | .energySettings .. => some 0x75#8
  | .energyStatus => some 0x76#8
  | .activity => some 0x78#8
  | .wakeConfig .. => some 0x79#8
  | .wakeStatus => some 0x7A#8
  | .powerOn .. => none
  | .resetnAsserted => none
  | .resetnReleased .. => none
  | .frameComplete .. => none
  | .interByteGap => none
  | .replySent => none
  | .hostByteReceived .. => none
  | .powerLoss => none
  | .clockSecond => none
  | .quoteTimerExpiry => none
  | .printTimerExpiry => none
  | .accrualTimerExpiry => none
  | .rotationTimerExpiry => none
  | .serveEntry => none
  | .probeStart => none
  | .railSettleExpiry => none
  | .panelReply .. => none
  | .replyWaitExpiry => none
  | .drawingWaitExpiry => none
  | .probeIntervalExpiry => none
  | .retryWaitExpiry => none
  | .unknownReprobeDelay .. => none
  | .offlineProbeTimerExpiry .. => none
  | .coldProbeTimerExpiry .. => none
  | .railIdleExpiry => none
  | .raiseSettleExpiry => none
  | .loweringComplete => none
  | .staleTimerExpiry => none
  | .fieldInputEdge .. => none
  | .filterInitialLevel .. => none
  | .demandTimerExpiry => none
  | .briefEpisodeStart => none
  | .returnTimerExpiry => none
  | .briefEpisodeReturn => none

/-- A SALE-* request is activity as it reaches the Sale Controller, accepted or refused (R165, log 26). -/
def saleRule (rule : State → State × Answer) (s : State) : State × Answer := rule (settle (activity s))

/-- The rule of a request's owner; `none` for the commands that are not requests. -/
def ownerRule : Instr → Option (State → State × Answer)
  | .identify => some identifyRule
  | .restart => some restartRule
  | .clearRetained => some clearRetainedRule
  | .noticeRead => some noticeReadRule
  | .noticeClear sources => some (noticeClearRule sources)
  | .noticeConfig fields doorSense => some (noticeConfigRule fields doorSense)
  | .clockSet year month day hour minute second => some (clockSetRule year month day hour minute second)
  | .clockRead => some clockReadRule
  | .tableOpen date dayType darkUntil darkFrom version => some (tableOpenRule date dayType darkUntil darkFrom version)
  | .tableAdd number direction minute platform calls => some (tableAddRule number direction minute platform calls)
  | .tableClose => some tableCloseRule
  | .tableDrop => some tableDropRule
  | .tablePromote version => some (tablePromoteRule version)
  | .tableRead selector index => some (tableReadRule selector index)
  | .serviceSettings grace window margin => some (serviceSettingsRule grace window margin)
  | .running number stamp kind argument => some (runningRule number stamp kind argument)
  | .tariffOpen version date => some (tariffOpenRule version date)
  | .tariffStation code name distance side => some (tariffStationRule code name distance side)
  | .tariffRules rules => some (tariffRulesRule rules)
  | .tariffClose => some tariffCloseRule
  | .tariffRead selector part index => some (tariffReadRule selector part index)
  | .fareTrial selector code ticket cls quantity peak => some (fareTrialRule selector code ticket cls quantity peak)
  | .saleQuote code ticket cls quantity selector service => some (saleRule (saleQuoteRule code ticket cls quantity
    selector service))
  | .saleCommit payment reference => some (saleRule (saleCommitRule payment reference))
  | .salePrinted serial outcome => some (saleRule (salePrintedRule serial outcome))
  | .saleCancel => some (saleRule saleCancelRule)
  | .saleStatus => some (saleRule saleStatusRule)
  | .salesClose => some salesCloseRule
  | .salesOpen => some salesOpenRule
  | .saleSettings kinds types => some (saleSettingsRule kinds types)
  | .journalRead fromSerial count => some (journalReadRule fromSerial count)
  | .journalRelease through => some (journalReleaseRule through)
  | .takingsRead => some takingsReadRule
  | .journalSettings low => some (journalSettingsRule low)
  | .panelProfile address presence kind rows filter threshold => some (panelProfileRule address presence kind rows
    filter threshold)
  | .boardText id priority lines expiry => some (boardTextRule id priority lines expiry)
  | .boardTextDrop id => some (boardTextDropRule id)
  | .boardRefresh address urgent => some (boardRefreshRule address urgent)
  | .boardStatus => some boardStatusRule
  | .panelReset address => some (panelResetRule address)
  | .panelStatus => some panelStatusRule
  | .levelTable selector draw rate depth rotation lamp timeout => some (levelTableRule selector draw rate depth
    rotation lamp timeout)
  | .levelCeiling value => some (levelCeilingRule value)
  | .levelLimit value => some (levelLimitRule value)
  | .supplyCapacity current => some (supplyCapacityRule current)
  | .supplyReport charge => some (supplyReportRule charge)
  | .energySettings quietStart quietEnd raiseSettle dormantSettle => some (energySettingsRule quietStart quietEnd
    raiseSettle dormantSettle)
  | .energyStatus => some energyStatusRule
  | .activity => some activityRule
  | .wakeConfig fields => some (wakeConfigRule fields)
  | .wakeStatus => some wakeStatusRule
  | .powerOn .. => none
  | .resetnAsserted => none
  | .resetnReleased .. => none
  | .frameComplete .. => none
  | .interByteGap => none
  | .replySent => none
  | .hostByteReceived .. => none
  | .powerLoss => none
  | .clockSecond => none
  | .quoteTimerExpiry => none
  | .printTimerExpiry => none
  | .accrualTimerExpiry => none
  | .rotationTimerExpiry => none
  | .serveEntry => none
  | .probeStart => none
  | .railSettleExpiry => none
  | .panelReply .. => none
  | .replyWaitExpiry => none
  | .drawingWaitExpiry => none
  | .probeIntervalExpiry => none
  | .retryWaitExpiry => none
  | .unknownReprobeDelay .. => none
  | .offlineProbeTimerExpiry .. => none
  | .coldProbeTimerExpiry .. => none
  | .railIdleExpiry => none
  | .raiseSettleExpiry => none
  | .loweringComplete => none
  | .staleTimerExpiry => none
  | .fieldInputEdge .. => none
  | .filterInitialLevel .. => none
  | .demandTimerExpiry => none
  | .briefEpisodeStart => none
  | .returnTimerExpiry => none
  | .briefEpisodeReturn => none

/-- The requests without fields, by kind: the body of such a request is empty (R179). -/
def fieldless (kind : Byte) : Option Instr :=
  match kind.toNat with
  | 0x01 => some .identify
  | 0x02 => some .restart
  | 0x03 => some .clearRetained
  | 0x04 => some .noticeRead
  | 0x11 => some .clockRead
  | 0x22 => some .tableClose
  | 0x23 => some .tableDrop
  | 0x33 => some .tariffClose
  | 0x43 => some .saleCancel
  | 0x44 => some .saleStatus
  | 0x45 => some .salesClose
  | 0x46 => some .salesOpen
  | 0x52 => some .takingsRead
  | 0x64 => some .boardStatus
  | 0x66 => some .panelStatus
  | 0x76 => some .energyStatus
  | 0x78 => some .activity
  | 0x7A => some .wakeStatus
  | _ => none

/-- The kinds of Table 11-3. -/
def catalogue : List Byte :=
  [0x01#8, 0x02#8, 0x03#8, 0x04#8, 0x05#8, 0x06#8, 0x10#8, 0x11#8, 0x20#8, 0x21#8, 0x22#8, 0x23#8, 0x24#8,
    0x25#8, 0x26#8, 0x27#8, 0x30#8, 0x31#8, 0x32#8, 0x33#8, 0x34#8, 0x35#8, 0x40#8, 0x41#8, 0x42#8, 0x43#8,
    0x44#8, 0x45#8, 0x46#8, 0x47#8, 0x50#8, 0x51#8, 0x52#8, 0x53#8, 0x60#8, 0x61#8, 0x62#8, 0x63#8, 0x64#8,
    0x65#8, 0x66#8, 0x70#8, 0x71#8, 0x72#8, 0x73#8, 0x74#8, 0x75#8, 0x76#8, 0x78#8, 0x79#8, 0x7A#8]

/-! ### The taking of a request (R178, R179) -/

/-- The LINK event and the end of the attention hold, with which every taking begins (R179, R170, R186). -/
def beginTaking (s : State) : State :=
  settle (internalEvent s.awu.config.link .link { s with hlk.hold := false })

/-- The reply to a taken request: its kind with the reply mark, its tag, the owner's answer (R179). -/
def sendReply (kind tag : Byte) (answer : Answer) (s : State) : State :=
  { s with hlk.reply := some ⟨kind ||| 0x80#8, tag, answer⟩ }

/-- A request taken: the LINK event, the owner's rule run to its end, and the reply (R178, R179). -/
def takeRequest (kind tag : Byte) (rule : State → State × Answer) (s : State) : State :=
  let r := rule (beginTaking s)
  sendReply kind tag r.2 (settle r.1)

/-- A powered part takes a command; one held by RESETN or without supply does nothing (R176, log 14). -/
def whenOn (f : State → State) (s : State) : State := if s.power = .on then f s else s

/-- Frames that wait at most while a reply is being sent. -/
def waitingCapacity : Nat := 2

/-- A frame completes: it is taken when no reply is being sent, else it waits, or is discarded with two waiting (R178). -/
def arrived (a : Arrival) (take : State → State) (s : State) : State :=
  match s.hlk.reply with
  | none => take s
  | some _ =>
    if s.hlk.waiting.length < waitingCapacity then { s with hlk.waiting := s.hlk.waiting ++ [a] } else s

/-- A request row is taken as the valid frame with tag 0 that carries it (log 1). -/
def takeRow (c : Instr) (s : State) : State :=
  match kindOf c, ownerRule c with
  | some kind, some rule => takeRequest kind 0#8 rule s
  | _, _ => s

/-- A request row of the table: a valid frame with tag 0 that carries the request completes (R178, log 1). -/
def request (c : Instr) (s : State) : Host.Outcome State Fault Refusal :=
  .next (whenOn (arrived (.request c) (takeRow c)) s)

/-! ### The meanings of the request rows -/

/-- IDENTIFY. -/
def execIdentify (s : State) : Host.Outcome State Fault Refusal :=
  request .identify s

/-- RESTART. -/
def execRestart (s : State) : Host.Outcome State Fault Refusal :=
  request .restart s

/-- CLEAR-RETAINED. -/
def execClearRetained (s : State) : Host.Outcome State Fault Refusal :=
  request .clearRetained s

/-- NOTICE-READ. -/
def execNoticeRead (s : State) : Host.Outcome State Fault Refusal :=
  request .noticeRead s

/-- NOTICE-CLEAR. -/
def execNoticeClear (sources : List Nat) (s : State) : Host.Outcome State Fault Refusal :=
  request (.noticeClear sources) s

/-- NOTICE-CONFIG. -/
def execNoticeConfig (fields : List NoticeField) (doorSense : Option (Coded DoorSense)) (s : State) : Host.Outcome
    State Fault Refusal :=
  request (.noticeConfig fields doorSense) s

/-- CLOCK-SET. -/
def execClockSet (year month day hour minute second : Nat) (s : State) : Host.Outcome State Fault Refusal :=
  request (.clockSet year month day hour minute second) s

/-- CLOCK-READ. -/
def execClockRead (s : State) : Host.Outcome State Fault Refusal :=
  request .clockRead s

/-- TABLE-OPEN. -/
def execTableOpen (date : Date) (dayType : Coded DayType) (darkUntil darkFrom version : Nat) (s : State) :
    Host.Outcome State Fault Refusal :=
  request (.tableOpen date dayType darkUntil darkFrom version) s

/-- TABLE-ADD. -/
def execTableAdd (number : Nat) (direction : Coded Direction) (minute platform : Nat) (calls : List Nat) (s : State)
    : Host.Outcome State Fault Refusal :=
  request (.tableAdd number direction minute platform calls) s

/-- TABLE-CLOSE. -/
def execTableClose (s : State) : Host.Outcome State Fault Refusal :=
  request .tableClose s

/-- TABLE-DROP. -/
def execTableDrop (s : State) : Host.Outcome State Fault Refusal :=
  request .tableDrop s

/-- TABLE-PROMOTE. -/
def execTablePromote (version : Nat) (s : State) : Host.Outcome State Fault Refusal :=
  request (.tablePromote version) s

/-- TABLE-READ. -/
def execTableRead (selector : Coded TableSel) (index : Nat) (s : State) : Host.Outcome State Fault Refusal :=
  request (.tableRead selector index) s

/-- SERVICE-SETTINGS. -/
def execServiceSettings (grace window margin : Option Nat) (s : State) : Host.Outcome State Fault Refusal :=
  request (.serviceSettings grace window margin) s

/-- RUNNING. -/
def execRunning (number stamp : Nat) (kind : Coded RunKind) (argument : Int) (s : State) : Host.Outcome State Fault
    Refusal :=
  request (.running number stamp kind argument) s

/-- TARIFF-OPEN. -/
def execTariffOpen (version : Nat) (date : Date) (s : State) : Host.Outcome State Fault Refusal :=
  request (.tariffOpen version date) s

/-- TARIFF-STATION. -/
def execTariffStation (code : Nat) (name : Text) (distance : Nat) (side : Coded Direction) (s : State) : Host.Outcome
    State Fault Refusal :=
  request (.tariffStation code name distance side) s

/-- TARIFF-RULES. -/
def execTariffRules (rules : Rules) (s : State) : Host.Outcome State Fault Refusal :=
  request (.tariffRules rules) s

/-- TARIFF-CLOSE. -/
def execTariffClose (s : State) : Host.Outcome State Fault Refusal :=
  request .tariffClose s

/-- TARIFF-READ. -/
def execTariffRead (selector : Coded TariffSel) (part : Coded TariffPart) (index : Nat) (s : State) : Host.Outcome
    State Fault Refusal :=
  request (.tariffRead selector part index) s

/-- FARE-TRIAL. -/
def execFareTrial (selector : Coded TariffSel) (code : Nat) (ticket : Coded TicketType) (cls quantity : Nat) (peak :
    Coded PeakSel) (s : State) : Host.Outcome State Fault Refusal :=
  request (.fareTrial selector code ticket cls quantity peak) s

/-- SALE-QUOTE. -/
def execSaleQuote (code : Nat) (ticket : Coded TicketType) (cls quantity : Nat) (selector : Coded ServiceSel)
    (service : Option Nat) (s : State) : Host.Outcome State Fault Refusal :=
  request (.saleQuote code ticket cls quantity selector service) s

/-- SALE-COMMIT. -/
def execSaleCommit (payment : Coded Payment) (reference : Option Text) (s : State) : Host.Outcome State Fault Refusal
    :=
  request (.saleCommit payment reference) s

/-- SALE-PRINTED. -/
def execSalePrinted (serial : Nat) (outcome : Coded PrintOutcome) (s : State) : Host.Outcome State Fault Refusal :=
  request (.salePrinted serial outcome) s

/-- SALE-CANCEL. -/
def execSaleCancel (s : State) : Host.Outcome State Fault Refusal :=
  request .saleCancel s

/-- SALE-STATUS. -/
def execSaleStatus (s : State) : Host.Outcome State Fault Refusal :=
  request .saleStatus s

/-- SALES-CLOSE. -/
def execSalesClose (s : State) : Host.Outcome State Fault Refusal :=
  request .salesClose s

/-- SALES-OPEN. -/
def execSalesOpen (s : State) : Host.Outcome State Fault Refusal :=
  request .salesOpen s

/-- SALE-SETTINGS. -/
def execSaleSettings (kinds : Option (List (Coded Payment))) (types : Option (List (Coded TicketType))) (s : State) :
    Host.Outcome State Fault Refusal :=
  request (.saleSettings kinds types) s

/-- JOURNAL-READ. -/
def execJournalRead (fromSerial count : Nat) (s : State) : Host.Outcome State Fault Refusal :=
  request (.journalRead fromSerial count) s

/-- JOURNAL-RELEASE. -/
def execJournalRelease (through : Nat) (s : State) : Host.Outcome State Fault Refusal :=
  request (.journalRelease through) s

/-- TAKINGS-READ. -/
def execTakingsRead (s : State) : Host.Outcome State Fault Refusal :=
  request .takingsRead s

/-- JOURNAL-SETTINGS. -/
def execJournalSettings (low : Option Nat) (s : State) : Host.Outcome State Fault Refusal :=
  request (.journalSettings low) s

/-- PANEL-PROFILE. -/
def execPanelProfile (address : Nat) (presence : Option (Coded Bool)) (kind : Option (Coded PanelKind)) (rows :
    Option Nat) (filter : Option (Coded DirFilter)) (threshold : Option Nat) (s : State) : Host.Outcome State Fault
    Refusal :=
  request (.panelProfile address presence kind rows filter threshold) s

/-- BOARD-TEXT. -/
def execBoardText (id : Nat) (priority : Coded MsgPriority) (lines : List Text) (expiry : Option Nat) (s : State) :
    Host.Outcome State Fault Refusal :=
  request (.boardText id priority lines expiry) s

/-- BOARD-TEXT-DROP. -/
def execBoardTextDrop (id : Option Nat) (s : State) : Host.Outcome State Fault Refusal :=
  request (.boardTextDrop id) s

/-- BOARD-REFRESH. -/
def execBoardRefresh (address : Option Nat) (urgent : Coded Bool) (s : State) : Host.Outcome State Fault Refusal :=
  request (.boardRefresh address urgent) s

/-- BOARD-STATUS. -/
def execBoardStatus (s : State) : Host.Outcome State Fault Refusal :=
  request .boardStatus s

/-- PANEL-RESET. -/
def execPanelReset (address : Nat) (s : State) : Host.Outcome State Fault Refusal :=
  request (.panelReset address) s

/-- PANEL-STATUS. -/
def execPanelStatus (s : State) : Host.Outcome State Fault Refusal :=
  request .panelStatus s

/-- LEVEL-TABLE. -/
def execLevelTable (selector : Coded Level) (draw rate depth rotation lamp timeout : Option Nat) (s : State) :
    Host.Outcome State Fault Refusal :=
  request (.levelTable selector draw rate depth rotation lamp timeout) s

/-- LEVEL-CEILING. -/
def execLevelCeiling (value : Option Nat) (s : State) : Host.Outcome State Fault Refusal :=
  request (.levelCeiling value) s

/-- LEVEL-LIMIT. -/
def execLevelLimit (value : LimitField) (s : State) : Host.Outcome State Fault Refusal :=
  request (.levelLimit value) s

/-- SUPPLY-CAPACITY. -/
def execSupplyCapacity (current : Option Nat) (s : State) : Host.Outcome State Fault Refusal :=
  request (.supplyCapacity current) s

/-- SUPPLY-REPORT. -/
def execSupplyReport (charge : Int) (s : State) : Host.Outcome State Fault Refusal :=
  request (.supplyReport charge) s

/-- ENERGY-SETTINGS. -/
def execEnergySettings (quietStart quietEnd raiseSettle dormantSettle : Option Nat) (s : State) : Host.Outcome State
    Fault Refusal :=
  request (.energySettings quietStart quietEnd raiseSettle dormantSettle) s

/-- ENERGY-STATUS. -/
def execEnergyStatus (s : State) : Host.Outcome State Fault Refusal :=
  request .energyStatus s

/-- ACTIVITY. -/
def execActivity (s : State) : Host.Outcome State Fault Refusal :=
  request .activity s

/-- WAKE-CONFIG. -/
def execWakeConfig (fields : WakeFields) (s : State) : Host.Outcome State Fault Refusal :=
  request (.wakeConfig fields) s

/-- WAKE-STATUS. -/
def execWakeStatus (s : State) : Host.Outcome State Fault Refusal :=
  request .wakeStatus s

end Sys2Proof.Machine
end

