-- ==== Sys2Proof/WellFormed.lean ====
section
/-! DEFINITION. Which commands the host line can carry at all: fields that fit their bytes (R177, R179, Section 11.8). A
body outside these forms is answered MALFORMED before any owner sees it; a well-formed command may still be out of range. -/

namespace Sys2Proof

/-- A string fits a length byte, each character a byte (R179). -/
def Text.fits (t : Text) : Bool :=
  decide (t.length ≤ 255) && t.all fun c => decide (c.toNat < 256)

/-- A date fits three bytes: the year less 2000, the month, the day (R179). -/
def Date.fits (d : Date) : Bool :=
  decide (2000 ≤ d.year) && decide (d.year ≤ 2255) && decide (d.month < 256) && decide (d.day < 256)

/-- A coded field fits one byte. -/
def Coded.fits {α : Type} : Coded α → Bool
  | .named _ => true
  | .other n => decide (n < 256)

/-- The body of TABLE-ADD fits Table 11-7 and the frame's 250 bytes. -/
def serviceFits (number : Nat) (direction : Coded Direction) (minute platform : Nat) (calls : List Nat) : Bool :=
  decide (number < 65536) && direction.fits && decide (minute < 65536) && decide (platform < 256) &&
    decide (7 + calls.length ≤ 250) && calls.all fun c => decide (c < 256)

/-- SALE-QUOTE carries a service number with NUMBER and with no other selector (Table 5-3a; without one, NUMBER is
refused RANGE by R76, not malformed). -/
def quoteFits (selector : Coded ServiceSel) (service : Option Nat) : Bool :=
  match selector, service with
  | .named .next, some _ => false
  | .named .openTicket, some _ => false
  | _, _ => true

/-- Well-formed commands. That a notice source number of NOTICE-CLEAR and NOTICE-CONFIG fits one byte is the model's
choice: no rule gives its width. DESIGN CHOICE, log 3. -/
def Instr.wellFormed : Instr → Bool
  | .frameComplete _ _ body => decide (body.length ≤ 250)
  | .noticeClear sources => sources.all fun n => decide (n < 256)
  | .noticeConfig fields _ => fields.all fun f => decide (f.source < 256)
  | .tableOpen date _ _ _ _ => date.fits
  | .tableAdd number direction minute platform calls => serviceFits number direction minute platform calls
  | .tariffOpen _ date => date.fits
  | .tariffStation _ name _ _ => name.fits
  | .tariffRules rules => decide (rules.classes.length = 7)
  | .saleQuote _ _ _ _ selector service => quoteFits selector service
  | .saleCommit _ reference => reference.all Text.fits
  | .boardText _ _ lines _ => lines.all Text.fits
  | .supplyReport charge => decide (-128 ≤ charge) && decide (charge ≤ 127)
  | _ => true

end Sys2Proof
end

