-- ==== Sys2Proof/Machine/HostLink.lean ====
section
/-! DEFINITION. The host line: the receiver and its check, the reading of a frame's body, frames taken and waiting, and the
end of a reply (R177 to R179). -/

namespace Sys2Proof.Machine

/-! ### The check (R177) -/

/-- One bit of the CRC-16, polynomial x^16 + x^12 + x^5 + 1. -/
def crcBit (c : BitVec 16) : BitVec 16 := if c.msb then (c <<< 1) ^^^ 0x1021#16 else c <<< 1

/-- One byte of the check, most significant bit first. -/
def crcByte (c : BitVec 16) (b : Byte) : BitVec 16 :=
  Nat.repeat crcBit 8 (c ^^^ ((b.setWidth 16) <<< 8))

/-- The check over bytes, from 0xFFFF. -/
def crc (bytes : List Byte) : BitVec 16 := bytes.foldl crcByte 0xFFFF#16

/-- A check as it is sent, high byte first. -/
def checkBytes (c : BitVec 16) : List Byte := bigEndian 2 c.toNat

/-! ### Bodies (R179, Section 11.8) -/

/-- A number from bytes, most significant first. -/
def fromBytes (l : List Byte) : Nat := l.foldl (fun n b => 256 * n + b.toNat) 0

/-- The direction of Table 11-7. -/
def directionOf (b : Byte) : Coded Direction :=
  match b.toNat with
  | 0 => .named .up
  | 1 => .named .down
  | n => .other n

/-- The body of TABLE-ADD (Table 11-7): a length that is not 7 + c is malformed. -/
def readService : List Byte → Option Instr
  | n1 :: n0 :: d :: m1 :: m0 :: p :: c :: calls =>
    if calls.length = c.toNat then
      some (.tableAdd (fromBytes [n1, n0]) (directionOf d) (fromBytes [m1, m0]) p.toNat (calls.map BitVec.toNat))
    else none
  | _ => none

/-- The request that a body spells for a kind of the catalogue, or `none` for a malformed body: no bytes for a request
without fields, Table 11-7 for TABLE-ADD, and for the others the request whose fields, written as R179 has them, make that
body (log 3). -/
def readBody (kind : Byte) (body : List Byte) : Option Instr :=
  if kind = 0x21#8 then readService body
  else
    match fieldless kind with
    | some i => if body.isEmpty then some i else none
    | none =>
      (Config.bodyForm kind body).filter fun i =>
        decide (kindOf i = some kind) && i.wellFormed && decide (bodyBytes kind (requestFields i) = body)

/-- The rule that answers a taken frame (R179): UNKNOWN-KIND, MALFORMED or the owner's. -/
def frameRule (f : Frame) : State → State × Answer :=
  if catalogue.contains f.kind then
    ((readBody f.kind f.body).bind ownerRule).getD fun s => (s, refuse .malformed .none)
  else fun s => (s, refuse .unknownKind .none)

/-! ### The bytes of a reply (R179, Tables 11-2 and 11-6) -/

/-- The value of a status (Table 11-2). -/
def statusByte : ReplyStatus → Byte
  | .done => 0#8
  | .malformed => 1#8
  | .unknownKind => 2#8
  | .range => 3#8
  | .busy => 4#8
  | .closed => 5#8
  | .full => 6#8
  | .late => 7#8
  | .noneLeft => 8#8
  | .notReady => 9#8
  | .unknown => 10#8

/-- The value of a refusal detail (Table 11-2). -/
def detailByte : Detail → Byte
  | .none => 0#8
  | .field => 1#8
  | .backward => 2#8
  | .tooFar => 3#8
  | .list => 4#8
  | .duplicate => 5#8
  | .date => 6#8
  | .version => 7#8
  | .stations => 8#8
  | .rules => 9#8
  | .bands => 10#8
  | .floor => 11#8
  | .step => 12#8
  | .ceiling => 13#8
  | .window => 14#8
  | .cls => 15#8
  | .station => 16#8
  | .service => 17#8
  | .ticketType => 18#8
  | .binding => 19#8
  | .payment => 20#8
  | .handed => 21#8
  | .beyond => 22#8
  | .expired => 23#8
  | .panel => 24#8

/-- The owner's fields of an answer: none, the ticket record of Table 11-8, JOURNAL-READ's records behind the counts of
Table 11-9 note a, and for the others the fields that the owner's rule names (log 22). -/
def answerFields (kind : Byte) (a : Answer) : List Byte :=
  match a.status, a.body with
  | _, .nothing => []
  | .done, .ticket t => ticketBytes t
  | .done, .records l (some newest) count =>
    bigEndian 1 l.length ++ bigEndian 3 newest ++ bigEndian 2 count ++ l.flatMap recordBytes
  | _, b => bodyBytes kind (replyFields b)

/-- The body of a reply: the status, for every status but DONE the detail, and the owner's fields (R179). -/
def answerBytes (kind : Byte) (a : Answer) : List Byte :=
  statusByte a.status :: (if a.status = .done then [] else [detailByte a.detail]) ++ answerFields kind a

/-- The bytes of a frame with a check (Table 11-6). -/
def frameBytes (f : Frame) (check : BitVec 16) : List Byte :=
  0xA5#8 :: BitVec.ofNat 8 f.body.length :: f.kind :: f.tag :: f.body ++ checkBytes check

/-- The check of a frame: over the length, kind, tag and body bytes (R177). -/
def frameCheck (f : Frame) : BitVec 16 := crc (BitVec.ofNat 8 f.body.length :: f.kind :: f.tag :: f.body)

/-- A reply as the frame it is sent in (R179). -/
def replyFrame (r : Reply) : Frame := ⟨r.kind, r.tag, answerBytes r.kind r.answer⟩

/-- The bytes on HTX of the reply being sent (Table 11-6); none while the part sends no reply. -/
def replyBytes (s : State) : Option (List Byte) :=
  s.hlk.reply.map fun r => frameBytes (replyFrame r) (frameCheck (replyFrame r))

/-! ### Frames (R178) -/

/-- A frame is taken. -/
def takeFrame (f : Frame) (s : State) : State := takeRequest f.kind f.tag (frameRule f) s

/-- A frame completes (R178). -/
def frameArrived (f : Frame) (s : State) : State := arrived (.frame f) (takeFrame f) s

/-- The last byte of the reply has been sent: RESTART's brings the restart, which discards what waits; any other lets the
next waiting frame be taken (R178, R180). -/
def replyEnded (s : State) : State :=
  match s.hlk.reply with
  | none => s
  | some _ =>
    if s.hlk.restartDue then restartAsked s
    else
      match s.hlk.waiting with
      | [] => { s with hlk.reply := none }
      | .frame f :: rest => takeFrame f { s with hlk.reply := none, hlk.waiting := rest }
      | .request c :: rest => takeRow c { s with hlk.reply := none, hlk.waiting := rest }

/-! ### The receiver (R177) -/

/-- The receiver in a state. -/
def setReceiver (r : Receiver) (s : State) : State := { s with hlk.receiver := r }

/-- The bytes after the start byte make a whole frame when its two check bytes are there. -/
def wholeFrame (bytes : List Byte) : Bool := bytes.head?.any fun l => decide (bytes.length = l.toNat + 5)

/-- The length byte of a frame is above 250. -/
def tooLong (bytes : List Byte) : Bool := bytes.head?.any fun l => decide (bodyLimit < l.toNat)

/-- The frame that the bytes after a start byte spell, if its check matches. -/
def checkedFrame : List Byte → Option Frame
  | l :: kind :: tag :: rest =>
    let body := rest.take l.toNat
    if rest.drop l.toNat = checkBytes (crc (l :: kind :: tag :: body)) then some ⟨kind, tag, body⟩ else none
  | _ => none

/-- A byte inside a frame, with every byte of it so far. -/
def frameByte (bytes : List Byte) (s : State) : State :=
  if tooLong bytes then setReceiver .hunting s
  else if wholeFrame bytes then (checkedFrame bytes).elim (setReceiver .hunting s) fun f => frameArrived f (setReceiver .hunting s)
  else setReceiver (.inFrame bytes) s

/-- A byte arrives (R177). -/
def byteReceived (b : Byte) (s : State) : State :=
  match s.hlk.receiver with
  | .hunting => if b = 0xA5#8 then setReceiver (.inFrame []) s else s
  | .inFrame bytes => frameByte (bytes ++ [b]) s

/-- More than 20 ms between two bytes of a frame (R177). -/
def byteGap (s : State) : State := setReceiver .hunting s

/-! ### The meanings of the rows of the line -/

/-- POWER-ON (R176). -/
def execPowerOn (strap : Bool) (s : State) : Host.Outcome State Fault Refusal := .next (powerUp strap s)

/-- RESETN low for 1 ms (R176). -/
def execResetnAsserted (s : State) : Host.Outcome State Fault Refusal := .next (holdPart s)

/-- RESETN released (R176). -/
def execResetnReleased (strap : Bool) (s : State) : Host.Outcome State Fault Refusal := .next (releasePart strap s)

/-- A complete frame (R177, R178). -/
def execFrameComplete (kind tag : Byte) (body : List Byte) (s : State) : Host.Outcome State Fault Refusal :=
  .next (whenOn (frameArrived ⟨kind, tag, body⟩) s)

/-- The gap that abandons a frame (R177). -/
def execInterByteGap (s : State) : Host.Outcome State Fault Refusal := .next (whenOn byteGap s)

/-- A reply sent (R178, R180). -/
def execReplySent (s : State) : Host.Outcome State Fault Refusal := .next (whenOn replyEnded s)

/-- A byte on the host line (R177). -/
def execHostByteReceived (b : Byte) (s : State) : Host.Outcome State Fault Refusal := .next (whenOn (byteReceived b) s)

/-- The supply fails (R187). -/
def execPowerLoss (s : State) : Host.Outcome State Fault Refusal := .next (powerDown s)

end Sys2Proof.Machine
end

