-- ==== Sys2Proof/Machine/Events.lean ====
section
/-! DEFINITION. The meanings of the event rows: what the timers, the panels, the field inputs and the part's own timebase
bring about. An event whose cause does not stand has no effect (log 4). -/

namespace Sys2Proof.Machine

/-- An event of a powered part, with everything that then stands (R176, log 5). -/
def event (f : State → State) (s : State) : Host.Outcome State Fault Refusal := .next (whenOn (fun t => settle (f t)) s)

/-- A completed second (R4, R5). -/
def execClockSecond (s : State) : Host.Outcome State Fault Refusal :=
  event clockSecondEvent s

/-- The quote timer expires (R78). -/
def execQuoteTimerExpiry (s : State) : Host.Outcome State Fault Refusal :=
  event quoteExpiry s

/-- The print timer expires (R85). -/
def execPrintTimerExpiry (s : State) : Host.Outcome State Fault Refusal :=
  event printExpiry s

/-- The accrual timer expires (R122). -/
def execAccrualTimerExpiry (s : State) : Host.Outcome State Fault Refusal :=
  event accrualExpiry s

/-- The rotation timer expires (R118). -/
def execRotationTimerExpiry (s : State) : Host.Outcome State Fault Refusal :=
  event rotationExpiry s

/-- The first eligible entry is served, if the test passes (R124). -/
def execServeEntry (s : State) : Host.Outcome State Fault Refusal :=
  event serveFirst s

/-- A due probe takes the free line (R132). -/
def execProbeStart (s : State) : Host.Outcome State Fault Refusal :=
  event probeFirst s

/-- The rail settle ends (R143). -/
def execRailSettleExpiry (s : State) : Host.Outcome State Fault Refusal :=
  event railSettled s

/-- A reply on the panel line (R131). -/
def execPanelReply (source : Addr) (checkPasses : Bool) (answer : PanelAnswer) (s : State) : Host.Outcome State Fault Refusal :=
  event (panelReplied source checkPasses answer) s

/-- 50 ms pass without a reply (R131). -/
def execReplyWaitExpiry (s : State) : Host.Outcome State Fault Refusal :=
  event replyWait s

/-- The drawing duration has passed (R134). -/
def execDrawingWaitExpiry (s : State) : Host.Outcome State Fault Refusal :=
  event drawingExpiry s

/-- 500 ms have passed since the last PROBE (R134). -/
def execProbeIntervalExpiry (s : State) : Host.Outcome State Fault Refusal :=
  event intervalExpiry s

/-- 1 s has passed since a failed attempt (R135). -/
def execRetryWaitExpiry (s : State) : Host.Outcome State Fault Refusal :=
  event retryExpiry s

/-- 1 s has passed since a silence of an UNKNOWN panel (R139). -/
def execUnknownReprobeDelay (panel : Addr) (s : State) : Host.Outcome State Fault Refusal :=
  event (probeTimerExpiry .unknown panel) s

/-- An OFFLINE panel's probe timer expires (R138). -/
def execOfflineProbeTimerExpiry (panel : Addr) (s : State) : Host.Outcome State Fault Refusal :=
  event (probeTimerExpiry .offline panel) s

/-- A COLD panel's probe timer expires (R141). -/
def execColdProbeTimerExpiry (panel : Addr) (s : State) : Host.Outcome State Fault Refusal :=
  event (probeTimerExpiry .cold panel) s

/-- The rail's idle timer expires (R143). -/
def execRailIdleExpiry (s : State) : Host.Outcome State Fault Refusal :=
  event railIdleExpiry s

/-- The settle timer expires and the raise completes (R157). -/
def execRaiseSettleExpiry (s : State) : Host.Outcome State Fault Refusal :=
  event raiseSettled s

/-- The drain has cleared and the lowering completes (R159). -/
def execLoweringComplete (s : State) : Host.Outcome State Fault Refusal :=
  event drainFirst s

/-- The stale timer expires (R151). -/
def execStaleTimerExpiry (s : State) : Host.Outcome State Fault Refusal :=
  event staleExpiry s

/-- A field input's filtered level changes (R168). -/
def execFieldInputEdge (input : FieldInput) (high : Bool) (s : State) : Host.Outcome State Fault Refusal :=
  event (filteredChange input high) s

/-- A field input's filtered level is taken after a restart (R168). -/
def execFilterInitialLevel (input : FieldInput) (high : Bool) (s : State) : Host.Outcome State Fault Refusal :=
  event (firstTaking input high) s

/-- The demand timer expires (R164). -/
def execDemandTimerExpiry (s : State) : Host.Outcome State Fault Refusal :=
  event demandExpiry s

/-- A brief episode starts, if its conditions hold (R173). They can hold between two takings without one of R173's three
moments: an activity that ends an episode at EL5 with an urgent entry waiting leaves them so. The part judges nothing there, so
`settle` starts none; the row judges them whenever it is given, and starts one. DESIGN CHOICE, log 39. -/
def execBriefEpisodeStart (s : State) : Host.Outcome State Fault Refusal :=
  event judgeBriefStart s

/-- The return timer expires (R174). -/
def execReturnTimerExpiry (s : State) : Host.Outcome State Fault Refusal :=
  event returnExpiry s

/-- A brief episode returns, if its conditions hold (R174). -/
def execBriefEpisodeReturn (s : State) : Host.Outcome State Fault Refusal :=
  event returnFirst s

end Sys2Proof.Machine
end

