-- ==== Sys2Proof/Machine/Dispatch.lean ====
section
/-! DEFINITION. The dispatch: one arm per command, each one call of its meaning. -/

namespace Sys2Proof.Machine

def exec (i : Instr) (s : State) : Host.Outcome State Fault Refusal :=
  match i with
  | .powerOn strap => Sys2Proof.Machine.execPowerOn strap s
  | .resetnAsserted => Sys2Proof.Machine.execResetnAsserted s
  | .resetnReleased strap => Sys2Proof.Machine.execResetnReleased strap s
  | .frameComplete kind tag body => Sys2Proof.Machine.execFrameComplete kind tag body s
  | .interByteGap => Sys2Proof.Machine.execInterByteGap s
  | .replySent => Sys2Proof.Machine.execReplySent s
  | .hostByteReceived b => Sys2Proof.Machine.execHostByteReceived b s
  | .powerLoss => Sys2Proof.Machine.execPowerLoss s
  | .identify => Sys2Proof.Machine.execIdentify s
  | .restart => Sys2Proof.Machine.execRestart s
  | .clearRetained => Sys2Proof.Machine.execClearRetained s
  | .noticeRead => Sys2Proof.Machine.execNoticeRead s
  | .noticeClear sources => Sys2Proof.Machine.execNoticeClear sources s
  | .noticeConfig fields doorSense => Sys2Proof.Machine.execNoticeConfig fields doorSense s
  | .clockSet year month day hour minute second => Sys2Proof.Machine.execClockSet year month day hour minute second s
  | .clockRead => Sys2Proof.Machine.execClockRead s
  | .clockSecond => Sys2Proof.Machine.execClockSecond s
  | .tableOpen date dayType darkUntil darkFrom version => Sys2Proof.Machine.execTableOpen date dayType darkUntil darkFrom version s
  | .tableAdd number direction minute platform calls => Sys2Proof.Machine.execTableAdd number direction minute platform calls s
  | .tableClose => Sys2Proof.Machine.execTableClose s
  | .tableDrop => Sys2Proof.Machine.execTableDrop s
  | .tablePromote version => Sys2Proof.Machine.execTablePromote version s
  | .tableRead selector index => Sys2Proof.Machine.execTableRead selector index s
  | .serviceSettings grace window margin => Sys2Proof.Machine.execServiceSettings grace window margin s
  | .running number stamp kind argument => Sys2Proof.Machine.execRunning number stamp kind argument s
  | .tariffOpen version date => Sys2Proof.Machine.execTariffOpen version date s
  | .tariffStation code name distance side => Sys2Proof.Machine.execTariffStation code name distance side s
  | .tariffRules rules => Sys2Proof.Machine.execTariffRules rules s
  | .tariffClose => Sys2Proof.Machine.execTariffClose s
  | .tariffRead selector part index => Sys2Proof.Machine.execTariffRead selector part index s
  | .fareTrial selector code ticket cls quantity peak => Sys2Proof.Machine.execFareTrial selector code ticket cls quantity peak s
  | .saleQuote code ticket cls quantity selector service => Sys2Proof.Machine.execSaleQuote code ticket cls quantity selector service s
  | .saleCommit payment reference => Sys2Proof.Machine.execSaleCommit payment reference s
  | .salePrinted serial outcome => Sys2Proof.Machine.execSalePrinted serial outcome s
  | .saleCancel => Sys2Proof.Machine.execSaleCancel s
  | .saleStatus => Sys2Proof.Machine.execSaleStatus s
  | .salesClose => Sys2Proof.Machine.execSalesClose s
  | .salesOpen => Sys2Proof.Machine.execSalesOpen s
  | .saleSettings kinds types => Sys2Proof.Machine.execSaleSettings kinds types s
  | .quoteTimerExpiry => Sys2Proof.Machine.execQuoteTimerExpiry s
  | .printTimerExpiry => Sys2Proof.Machine.execPrintTimerExpiry s
  | .journalRead fromSerial count => Sys2Proof.Machine.execJournalRead fromSerial count s
  | .journalRelease through => Sys2Proof.Machine.execJournalRelease through s
  | .takingsRead => Sys2Proof.Machine.execTakingsRead s
  | .journalSettings low => Sys2Proof.Machine.execJournalSettings low s
  | .panelProfile address presence kind rows filter threshold => Sys2Proof.Machine.execPanelProfile address presence kind rows filter threshold s
  | .boardText id priority lines expiry => Sys2Proof.Machine.execBoardText id priority lines expiry s
  | .boardTextDrop id => Sys2Proof.Machine.execBoardTextDrop id s
  | .boardRefresh address urgent => Sys2Proof.Machine.execBoardRefresh address urgent s
  | .boardStatus => Sys2Proof.Machine.execBoardStatus s
  | .accrualTimerExpiry => Sys2Proof.Machine.execAccrualTimerExpiry s
  | .rotationTimerExpiry => Sys2Proof.Machine.execRotationTimerExpiry s
  | .serveEntry => Sys2Proof.Machine.execServeEntry s
  | .panelReset address => Sys2Proof.Machine.execPanelReset address s
  | .panelStatus => Sys2Proof.Machine.execPanelStatus s
  | .probeStart => Sys2Proof.Machine.execProbeStart s
  | .railSettleExpiry => Sys2Proof.Machine.execRailSettleExpiry s
  | .panelReply source checkPasses answer => Sys2Proof.Machine.execPanelReply source checkPasses answer s
  | .replyWaitExpiry => Sys2Proof.Machine.execReplyWaitExpiry s
  | .drawingWaitExpiry => Sys2Proof.Machine.execDrawingWaitExpiry s
  | .probeIntervalExpiry => Sys2Proof.Machine.execProbeIntervalExpiry s
  | .retryWaitExpiry => Sys2Proof.Machine.execRetryWaitExpiry s
  | .unknownReprobeDelay panel => Sys2Proof.Machine.execUnknownReprobeDelay panel s
  | .offlineProbeTimerExpiry panel => Sys2Proof.Machine.execOfflineProbeTimerExpiry panel s
  | .coldProbeTimerExpiry panel => Sys2Proof.Machine.execColdProbeTimerExpiry panel s
  | .railIdleExpiry => Sys2Proof.Machine.execRailIdleExpiry s
  | .levelTable selector draw rate depth rotation lamp timeout => Sys2Proof.Machine.execLevelTable selector draw rate depth rotation lamp timeout s
  | .levelCeiling value => Sys2Proof.Machine.execLevelCeiling value s
  | .levelLimit value => Sys2Proof.Machine.execLevelLimit value s
  | .supplyCapacity current => Sys2Proof.Machine.execSupplyCapacity current s
  | .supplyReport charge => Sys2Proof.Machine.execSupplyReport charge s
  | .energySettings quietStart quietEnd raiseSettle dormantSettle => Sys2Proof.Machine.execEnergySettings quietStart quietEnd raiseSettle dormantSettle s
  | .energyStatus => Sys2Proof.Machine.execEnergyStatus s
  | .raiseSettleExpiry => Sys2Proof.Machine.execRaiseSettleExpiry s
  | .loweringComplete => Sys2Proof.Machine.execLoweringComplete s
  | .staleTimerExpiry => Sys2Proof.Machine.execStaleTimerExpiry s
  | .activity => Sys2Proof.Machine.execActivity s
  | .wakeConfig fields => Sys2Proof.Machine.execWakeConfig fields s
  | .wakeStatus => Sys2Proof.Machine.execWakeStatus s
  | .fieldInputEdge input high => Sys2Proof.Machine.execFieldInputEdge input high s
  | .filterInitialLevel input high => Sys2Proof.Machine.execFilterInitialLevel input high s
  | .demandTimerExpiry => Sys2Proof.Machine.execDemandTimerExpiry s
  | .briefEpisodeStart => Sys2Proof.Machine.execBriefEpisodeStart s
  | .returnTimerExpiry => Sys2Proof.Machine.execReturnTimerExpiry s
  | .briefEpisodeReturn => Sys2Proof.Machine.execBriefEpisodeReturn s

end Sys2Proof.Machine
end

