-- ==== Sys2Proof/Machine/Timebase.lean ====
section
/-! DEFINITION. One millisecond of the part's timebase (R4, log 9): every running timer has one millisecond less to go, and
the second phase of the clock advances. What comes about at the end of a timer is a command of its own. -/

namespace Sys2Proof.Machine

/-- A timer that may run, one millisecond on. -/
def timerTick (t : Option Nat) : Option Nat := t.map fun n => n - 1

/-- The second phase one millisecond on, kept below the next second until that second completes (R4). -/
def clockPhaseTick (c : ClockSetting) : ClockSetting := { c with phase := if c.phase < 999 then c.phase + 1 else c.phase }

/-- The timer of the slot one millisecond on (R78, R85). -/
def slotTick : Slot → Slot
  | .idle => .idle
  | .quoted q left => .quoted q (left - 1)
  | .printing x left => .printing x (left - 1)

/-- The waits of a transaction one millisecond on (R134, R135). -/
def phaseTick : LinePhase → LinePhase
  | .drawing n => .drawing (n - 1)
  | .probing n => .probing (n - 1)
  | .interval n => .interval (n - 1)
  | .retry n => .retry (n - 1)
  | p => p

/-- The rail settle one millisecond on (R143). -/
def railTick : Rail → Rail
  | .settling n => .settling (n - 1)
  | r => r

/-- The probe timer of a panel one millisecond on, where it counts (R138, R139, R141). -/
def panelTick (rail : Rail) (p : PanelRecord) : PanelRecord :=
  if probeTimerCounts p.link rail then { p with probeTimer := timerTick p.probeTimer } else p

/-- The settle timer of a raise one millisecond on (R157). -/
def transitionTick : Transition → Transition
  | .raising d n => .raising d (n - 1)
  | t => t

/-- The demand timer one millisecond on (R164). -/
def demandTick : DemandTimer → DemandTimer
  | .running n => .running (n - 1)
  | t => t

/-- The return timer one millisecond on (R174). -/
def returnTick : ReturnTimer → ReturnTimer
  | .running n => .running (n - 1)
  | t => t

/-- One millisecond on in a powered part. -/
def advance (s : State) : State :=
  { s with
    clock := s.clock.map clockPhaseTick
    slc.slot := slotTick s.slc.slot
    bdc.accrual := timerTick s.bdc.accrual
    bdc.rotation := timerTick s.bdc.rotation
    plc.panels := s.plc.panels.map (panelTick s.plc.rail)
    plc.line := s.plc.line.map fun t => { t with phase := phaseTick t.phase }
    plc.rail := railTick s.plc.rail
    plc.idle := timerTick s.plc.idle
    enm.staleTimer := timerTick s.enm.staleTimer
    enm.transition := transitionTick s.enm.transition
    awu.timer := demandTick s.awu.timer
    awu.returnTimer := returnTick s.awu.returnTimer }

/-- A millisecond passes; an unpowered or held part has no timers (R176). -/
def millisecond (s : State) : State := if s.power = .on then advance s else s

end Sys2Proof.Machine
end

