-- ==== Sys2Proof/Safety.lean ====
section
/-! DEFINITION. The terms that statements about the part use: what a taking leaves alone, and the invariants of a run. The
part faults and refuses nowhere, so a safe run is one that keeps these invariants. -/

namespace Sys2Proof.Machine

/-! ### What is left alone -/

/-- A notice source's configuration (R184). -/
def Notice.config (n : Notice) : Bool × NoticePriority := (n.enable, n.priority)

/-- What a panel's record holds of its glass: the toggles, the shown page, the last temperature, the silences. -/
def PanelRecord.glass (p : PanelRecord) : Option Bool × Option Bool × Option Page × Option Int × Nat :=
  (p.shown, p.next, p.page, p.temperature, p.silences)

/-- Between `s` and `t` nothing has changed of the stores: clock, tables, tariffs, journal, every setting, the message lists,
what the panel records hold of each glass, and the model's own fields (`free`, `pending`); of the sale slot at most a quote
has been withdrawn, and no pending notice has been cleared. Only the level with its COLD limit, the activity unit's demand,
woke record and timers, the queue, credit, pages and timers of the boards, the panel line, the notice flags, the attention
hold and the reply may differ. -/
structure StoresKept (s t : State) : Prop where
  clock : t.clock = s.clock
  tts : t.tts = s.tts
  tfe : t.tfe = s.tfe
  sjn : t.sjn = s.sjn
  kinds : t.slc.kinds = s.slc.kinds
  types : t.slc.types = s.slc.types
  hostClosed : t.slc.hostClosed = s.slc.hostClosed
  profiles : t.bdc.profiles = s.bdc.profiles
  host : t.bdc.host = s.bdc.host
  auto : t.bdc.auto = s.bdc.auto
  arrivals : t.bdc.arrivals = s.bdc.arrivals
  slot : (t.slc.slot = s.slc.slot ∧ t.slc.lastReason = s.slc.lastReason) ∨
    (slotState s.slc.slot = .quoted ∧ t.slc.slot = .idle)
  glass : ∀ a, (panelAt t a).glass = (panelAt s a).glass
  table : t.enm.table = s.enm.table
  capacity : t.enm.capacity = s.enm.capacity
  ceiling : t.enm.ceiling = s.enm.ceiling
  effective : t.enm.effective = s.enm.effective
  quietStart : t.enm.quietStart = s.enm.quietStart
  quietEnd : t.enm.quietEnd = s.enm.quietEnd
  raiseSettle : t.enm.raiseSettle = s.enm.raiseSettle
  dormantSettle : t.enm.dormantSettle = s.enm.dormantSettle
  battery : t.enm.battery = s.enm.battery
  charge : t.enm.charge = s.enm.charge
  stale : t.enm.stale = s.enm.stale
  staleTimer : t.enm.staleTimer = s.enm.staleTimer
  quietLimit : t.enm.quietLimit = s.enm.quietLimit
  hostLimit : t.enm.hostLimit = s.enm.hostLimit
  filtered : t.awu.filtered = s.awu.filtered
  config : t.awu.config = s.awu.config
  lock : t.awu.lock = s.awu.lock
  notices : t.hlk.notices.map Notice.config = s.hlk.notices.map Notice.config
  raised : ∀ n, (noticeAt s n).pending = true → (noticeAt t n).pending = true
  doorSense : t.hlk.doorSense = s.hlk.doorSense
  day : t.hlk.day = s.hlk.day
  receiver : t.hlk.receiver = s.hlk.receiver
  waiting : t.hlk.waiting = s.hlk.waiting
  restartDue : t.hlk.restartDue = s.hlk.restartDue
  fastLine : t.hlk.fastLine = s.hlk.fastLine
  strap : t.strap = s.strap
  power : t.power = s.power
  free : t.free = s.free
  pending : t.pending = s.pending

/-- Between `s` and `t` only what the blocks do to each other at once has happened: the stores are kept, and so are the
demand level, the woke record, the attention hold and the reply. -/
structure Reacted (s t : State) : Prop extends StoresKept s t where
  demand : t.awu.demand = s.awu.demand
  woke : t.awu.woke = s.awu.woke
  wokeFlags : t.awu.wokeFlags = s.awu.wokeFlags
  hold : t.hlk.hold = s.hlk.hold
  reply : t.hlk.reply = s.hlk.reply

/-- No reaction stands (log 6): the taking of a command that changes nothing changes nothing more. -/
structure Quiet (s : State) : Prop where
  urgent : urgentWaiting s = s.awu.urgent
  cold : coldNow s = s.plc.cold
  probe : probeReady s = none
  entry : firstServable s = none
  brief : briefReturns s = false
  drain : drainReady s = none
  rotation : rotates s = s.bdc.rotation.isSome

/-- A powered part in which no reaction stands, and which the LINK event does not wake. -/
structure Calm (s : State) : Prop extends Quiet s where
  power : s.power = .on
  link : (s.awu.config.link && resting s.enm.present) = false

/-- The state in which a request reaches its owner (R179). -/
def atOwner (s : State) : State := beginTaking s

/-- The state in which a SALE-* request reaches the checks of the Sale Controller: its activity has been taken (R165). -/
def atSales (s : State) : State := settle (activity (beginTaking s))

/-- A reply to a request row: the kind with the reply mark, tag 0, and the answer (R179). -/
def replied (kind : Byte) (a : Answer) (t : State) : Prop := t.hlk.reply = some ⟨kind, 0#8, a⟩

/-- A powered part that sends no reply: a request frame is taken at once (R178). -/
structure Listens (s : State) : Prop where
  power : s.power = .on
  reply : s.hlk.reply = none

/-- The state that a request row answers with where its owner's rule leaves `u`: what stands in `u` comes about, and the
reply is on its way. -/
def answered (kind : Byte) (a : Answer) (u : State) : State := { settle u with hlk.reply := some ⟨kind, 0#8, a⟩ }

/-- A request row does what its owner's rule says: it answers next with what comes of `u`, and the reply. That keeps the
stores of `u`, leaves no reaction standing, and is `u` itself with the reply where none stands in `u`. -/
def Does (c : Instr) (s : State) (kind : Byte) (a : Answer) (u : State) : Prop :=
  exec c s = .next (answered kind a u) ∧ StoresKept u (answered kind a u) ∧ Quiet (answered kind a u) ∧
    (Quiet u → answered kind a u = { u with hlk.reply := some ⟨kind, 0#8, a⟩ })

/-- An event row does what its rule says: it answers next with what comes of `u`, which is `u` but for the reactions that
follow, leaves none standing, and is `u` itself where none stands in `u`. -/
def Happens (c : Instr) (s u : State) : Prop :=
  exec c s = .next (settle u) ∧ Reacted u (settle u) ∧ Quiet (settle u) ∧ (Quiet u → settle u = u)

/-- The reaction that leads from `u` to `w` comes about: every row whose own rule leaves `u` answers next with what it would
have answered with `w`. -/
def BringsAbout (u w : State) : Prop :=
  ∀ (c : Instr) (s : State), (Happens c s u → exec c s = .next (settle w)) ∧
    ∀ kind a, Does c s kind a u → exec c s = .next (answered kind a w)

/-- An entry that the serving level permits, of a READY panel (R123, R124). -/
def Waits (s : State) (e : QueueEntry) : Prop :=
  let level := match s.enm.transition with | .lowering d => d | _ => s.enm.present
  (panelAt s e.panel).link = .ready ∧ (level = .el4 → e.urgent = true) ∧
    (level = .el5 → e.urgent = true ∧ s.awu.brief = true)

/-- The urgent-entry condition and the cold flag have been reported as they stand (R126, R142). -/
structure Told (s : State) : Prop where
  urgent : s.awu.urgent = true ↔ ∃ e ∈ s.bdc.queue, e.urgent = true
  cold : coldNow s = s.plc.cold

/-- Of the line nothing stands: no probe can take it and no entry can be served (R124, R132). -/
structure LineOffered (s : State) : Prop extends Told s where
  probe : s.plc.line.isSome ∨ s.plc.mode = .off ∨ ∀ a, (panelAt s a).probeDue = false
  entry : s.plc.line.isSome ∨ s.bdc.credit = 0 ∨ ∀ e ∈ s.bdc.queue, ¬Waits s e

/-- Commands one after another, each on the state the one before left. -/
def runCommands : List Instr → State → Host.Outcome State Fault Refusal
  | [], s => .next s
  | c :: l, s =>
    match exec c s with
    | .next t => runCommands l t
    | .fault r => .fault r
    | .refused r => .refused r

/-! ### What the host line carries -/

/-- The byte of a direction in Table 11-7. -/
def directionByte : Coded Direction → Byte
  | .named .up => 0#8
  | .named .down => 1#8
  | .other n => BitVec.ofNat 8 n

/-- The body of TABLE-ADD as Table 11-7 lays it out. -/
def serviceBytes (number : Nat) (direction : Coded Direction) (minute platform : Nat) (calls : List Nat) : List Byte :=
  bigEndian 2 number ++ directionByte direction :: bigEndian 2 minute ++ BitVec.ofNat 8 platform ::
    BitVec.ofNat 8 calls.length :: calls.map (BitVec.ofNat 8)

/-! ### What statements spell out -/

/-- A raised source (R182): pending and unseen. -/
def raisedAt (n : Nat) (l : List Notice) : List Notice := l.modify n fun x => { x with pending := true, seen := false }

/-- The demand timer with the full timeout of a level's entry; stopped without one and for 0 (R164). -/
def demandTimerOf (e : LevelEntry) : DemandTimer :=
  match e.timeout with
  | none => .stopped
  | some 0 => .stopped
  | some t => .running (t * 1000)

/-- Activity (R165, R174): the demand level at the effective ceiling, the timer restarted unless held, a brief episode
ended, and the target computed again. -/
def activated (s : State) : State :=
  let v := { s with
    awu.demand := s.enm.effective
    awu.timer := if s.awu.timer = .held then .held else demandTimerOf (s.enm.table.get s.enm.effective) }
  if s.awu.brief then retarget (followRailMode { v with awu.brief := false, awu.returnTimer := .stopped }) else retarget v

/-- A wake (R170): activity, the woke record written whole, a field input's woke flag set, WOKE pending. -/
def woken (source : WokeSource) (edge : Option Edge) (s : State) : State :=
  let v := activated s
  { v with
    awu.woke := some ⟨source, edge, s.clock.map fun c => c.tod / 60⟩
    awu.wokeFlags := match source with
      | .field i => fiveSet v.awu.wokeFlags i true
      | _ => v.awu.wokeFlags
    hlk.notices := raisedAt 12 v.hlk.notices }

/-- The line as the end of its transaction leaves it (R143): in GATED the idle timer of 2 s starts, in OFF the rail is
switched off. -/
def freedLine (p : Plc) : Plc :=
  match p.mode with
  | .always => { p with line := none }
  | .gated => { p with line := none, idle := if p.rail = .off then p.idle else some 2000 }
  | .off => { p with line := none, idle := none, rail := .off }

/-- The refresh queue after a request for a PRESENT panel (R120): an entry of at least the class asked for stands; an urgent
one, new or upgraded, comes at the end of the urgent group; a new ordinary one comes at the end. -/
def placedEntry (a : Addr) (urgent : Bool) (q : List QueueEntry) : List QueueEntry :=
  if q.any (fun e => e.panel == a && (e.urgent || !urgent)) = true then q
  else if urgent then q.filter (·.urgent) ++ ⟨a, true⟩ :: q.filter fun e => !e.urgent && !(e.panel == a)
  else q ++ [⟨a, false⟩]

/-- The first of the reasons that hold, as a sales event carries it; none while sales are open (R87, R119). -/
def firstReason (s : State) : Option Reason := (salesReasons s).head?

/-- The refresh queue after the sales event that a state calls for (R87, R119, R121): none where neither the open state nor the
first reason has changed since the last event; else every PRESENT SALES panel is requested in ascending address, urgently for a
change of the open state. -/
def salesQueue (s : State) : List QueueEntry :=
  if firstReason s = s.bdc.sales then s.bdc.queue
  else
    ([Addr.p1, .p2, .p3, .p4].filter fun a => (s.bdc.profiles.get a).isPresent && (s.bdc.profiles.get a).kind == .sales).foldl
      (fun q a => placedEntry a ((firstReason s).isNone != s.bdc.sales.isNone) q) s.bdc.queue

/-- Every PRESENT panel of a kind has an entry in the refresh queue (R121). -/
def Queued (k : PanelKind) (s : State) : Prop :=
  ∀ a, (s.bdc.profiles.get a).isPresent = true → (s.bdc.profiles.get a).kind = k → ∃ e ∈ s.bdc.queue, e.panel = a

/-- Every PRESENT panel of a kind has an urgent one. -/
def QueuedUrgent (k : PanelKind) (s : State) : Prop :=
  ∀ a, (s.bdc.profiles.get a).isPresent = true → (s.bdc.profiles.get a).kind = k →
    ∃ e ∈ s.bdc.queue, e.panel = a ∧ e.urgent = true

/-- What a change event of cause TABLE asks of the Board Composer in `s` (R22, R23, R117, R121): the DEPARTURES panels are
queued, the automatic list is emptied, and where it held an entry the MESSAGES panels are queued. -/
def TableChanged (s u : State) : Prop :=
  u.bdc.auto = [] ∧ Queued .departures u ∧ (s.bdc.auto ≠ [] → Queued .messages u)

/-- The automatic list with an entry added for a service of the current table (R117): the next arrival number, and of a list
of 4 the entry with the lowest one leaves. -/
def AutoAdded (v : Service) (s u : State) : Prop :=
  let e : AutoEntry := ⟨v.plan.number, v.plan.minute, (v.plan.calls.getLast?).getD 0, s.bdc.arrivals + 1⟩
  u.bdc.arrivals = s.bdc.arrivals + 1 ∧ (s.bdc.auto.length < 4 → u.bdc.auto = s.bdc.auto ++ [e]) ∧
    ∀ x ∈ s.bdc.auto, 4 ≤ s.bdc.auto.length → (∀ y ∈ s.bdc.auto, x.arrival ≤ y.arrival) →
      u.bdc.auto = s.bdc.auto.filter (fun y => !(y.arrival == x.arrival)) ++ [e]

/-- What a counted record of a sale bound to a service hands the Board Composer (R49, R117): where the sold count of a
CANCELLED service of the sale's date has risen, and no automatic entry stands for it, one is added, with an urgent refresh of
every MESSAGES panel; else both lists stay. -/
def SoldTold (x : Sale) (number : Nat) (s u : State) : Prop :=
  let rises := fun v : Service => v.status = .cancelled ∧ min 65535 (v.sold + x.quote.quantity) ≠ v.sold ∧
    ∀ e ∈ s.bdc.auto, e.service ≠ number
  (∀ t v, s.tts.current = some t → t.header.date = x.date → v ∈ t.services → v.plan.number = number → rises v →
    AutoAdded v s u ∧ QueuedUrgent .messages u) ∧
  ((∀ t v, s.tts.current = some t → t.header.date = x.date → v ∈ t.services → v.plan.number = number → ¬rises v) →
    u.bdc.auto = s.bdc.auto ∧ u.bdc.arrivals = s.bdc.arrivals)

/-- What a minute event does, taken in `s`, where the clock stands at its minute (R6): every service is evaluated (R42, R43),
the expired host messages leave, with a refresh queued for each MESSAGES panel (R116), the lamp is set (R127), and QUIET is
evaluated (R152), whose end wakes the part at EL4 and EL5 where CLOCK's wake flag is set (R170); that its wake record stands
also where an approach start wakes the part too is the order of log 7. -/
structure MinuteTaken (m : Nat) (s u : State) : Prop where
  tables : u.tts = { s.tts with current := s.tts.current.map fun t =>
    { t with services := t.services.map (evaluateService s.tts.grace s.tts.window m) } }
  left : ∀ x, x ∈ u.bdc.host ↔ x ∈ s.bdc.host ∧ ¬∃ e, x.expiry = some e ∧ e ≤ m
  order : u.bdc.host.Sublist s.bdc.host
  auto : u.bdc.auto = s.bdc.auto
  messages : (∃ x ∈ s.bdc.host, ∃ e, x.expiry = some e ∧ e ≤ m) → Queued .messages u
  lit : s.enm.present = .ela ∨ s.tts.current = none → u.bdc.lamp = (s.enm.table.get s.enm.present).lamp
  lamp : ∀ t, s.tts.current = some t → s.enm.present ≠ .ela →
    u.bdc.lamp =
      if t.header.darkFrom ≤ m ∨ m < t.header.darkUntil then (s.enm.table.get s.enm.present).lamp else 0
  quiet : u.enm.quietLimit =
    if (s.enm.quietStart < s.enm.quietEnd ∧ s.enm.quietStart ≤ m ∧ m < s.enm.quietEnd) ∨
        (s.enm.quietEnd < s.enm.quietStart ∧ (s.enm.quietStart ≤ m ∨ m < s.enm.quietEnd)) then
      some .el3
    else none
  changed : s.hlk.notices.length = sourceCount → u.enm.quietLimit ≠ s.enm.quietLimit → (noticeAt u 11).pending = true
  woken : s.hlk.notices.length = sourceCount → s.enm.quietLimit.isSome → u.enm.quietLimit = none →
    s.awu.config.clock = true → s.enm.present = .el4 ∨ s.enm.present = .el5 →
    u.awu.woke = some ⟨.clock, none, some m⟩ ∧ u.awu.demand = s.enm.effective ∧ (noticeAt u 12).pending = true

/-- The queue after an ordinary request for a PRESENT panel: unchanged with an entry for it, else one more at the tail;
unchanged for an ABSENT panel (R120). -/
def ordinaryEntry (a : Addr) (s : State) : List QueueEntry :=
  if (s.bdc.profiles.get a).isPresent = false ∨ s.bdc.queue.any (fun e => e.panel == a) = true then s.bdc.queue
  else s.bdc.queue ++ [⟨a, false⟩]

/-- What a failed attempt leaves, `p` being the panel's record with whatever else the failure did to it (R135): below the
third the wait of 1 s; the third drops the refresh, after a silence with the panel OFFLINE (R138), else with an ordinary
entry for it. -/
def attemptFailed (silent : Bool) (t : Transaction) (p : PanelRecord) (s : State) : State :=
  let q := { p with attempts := p.attempts + 1, link := if p.link = .refreshing then .ready else p.link }
  if p.attempts < 2 then
    { s with plc.panels := s.plc.panels.set t.panel q, plc.line := some { t with phase := .retry 1000 } }
  else if silent then
    { s with
      plc := freedLine { s.plc with
        panels := s.plc.panels.set t.panel
          { q with link := .offline, page := none, probeDue := false, probeTimer := some 60000 } }
      hlk.notices := raisedAt 7 s.hlk.notices }
  else
    { s with
      plc := freedLine { s.plc with panels := s.plc.panels.set t.panel q }, bdc.queue := ordinaryEntry t.panel s }

/-- What TARIFF-READ and FARE-TRIAL find under a selector: the state, the heading, the stations and the rules (R62). -/
def Selected (s : State) (sel : TariffSel) (state : LoadState) (heading : Option (Nat × Date)) (stations : List Station)
    (rules : Option Rules) : Prop :=
  match sel with
  | .active =>
    (s.tfe.active = none ∧ state = .absent ∧ heading = none ∧ stations = [] ∧ rules = none) ∨
      ∃ t, s.tfe.active = some t ∧ state = .present ∧ heading = some (t.version, t.effective) ∧ stations = t.stations ∧
        rules = some t.rules
  | .pending =>
    (s.tfe.pending = none ∧ state = .none ∧ heading = none ∧ stations = [] ∧ rules = none) ∨
      ∃ p, s.tfe.pending = some p ∧ state = (if p.ready then .ready else .loading) ∧
        heading = some (p.version, p.effective) ∧ stations = p.stations ∧ rules = p.rules

/-- The current table stands emptied, with NO-TIMETABLE pending (R23, R25). -/
def TableEmptied (t : State) : Prop := t.tts.current = none ∧ (noticeAt t 15).pending = true

/-- Table 2-5, with the evaluation of the minute event that follows (R22, R23, R42, R43). -/
def TablesEntered (entered : Date) (minute : Nat) (s t : State) : Prop :=
  (s.tts.next = none → t.tts.next = none ∧ TableEmptied t) ∧
    ∀ n, s.tts.next = some n →
      (n.ready = false → t.tts.next = some n ∧ TableEmptied t) ∧
      (n.ready = true → dateBefore entered n.header.date = true → t.tts.next = some n ∧ TableEmptied t) ∧
      (n.ready = true → dateBefore n.header.date entered = true → t.tts.next = none ∧ TableEmptied t) ∧
      (n.ready = true → n.header.date = entered → t.tts.next = none ∧
        t.tts.current = some ⟨n.header, n.records.map fun p =>
          evaluateService s.tts.grace s.tts.window minute ⟨p, .scheduled, 0, p.platform, false, none, false, 0⟩⟩)

/-- The tariffs after a rollover that enters a date: a READY tariff whose date has come is the active one (R61). -/
def TariffEntered (entered : Date) (s t : State) : Prop :=
  (s.tfe.pending = none → t.tfe = s.tfe) ∧
    ∀ p, s.tfe.pending = some p →
      (p.ready = false ∨ dateBefore entered p.effective = true → t.tfe = s.tfe) ∧
      ∀ r, p.ready = true → dateBefore entered p.effective = false → p.rules = some r →
        t.tfe = ⟨some ⟨p.version, p.effective, p.stations, r⟩, none⟩

/-- What a rollover leaves of the boards (R116, R117, R121): both message lists empty and every PRESENT panel queued. -/
def BoardsEntered (u : State) : Prop :=
  u.bdc.host = [] ∧ u.bdc.auto = [] ∧
    ∀ a, (u.bdc.profiles.get a).isPresent = true → ∃ e ∈ u.bdc.queue, e.panel = a

/-! ### Restarts -/

/-- The retained store of the tables: everything but the running fields other than the sold count (R30). -/
def Tts.retained (t : Tts) : Option (Header × List Planned) × Option NextTable × Nat × Nat × Nat :=
  (t.current.map fun c => (c.header, c.services.map (·.plan)), t.next, t.grace, t.window, t.margin)

/-- The settings that every restart and power loss keep (R75, R88, R111, R145 to R149, R153, R169, R184, R187). -/
structure SettingsKept (s t : State) : Prop where
  tts : t.tts.retained = s.tts.retained
  tfe : t.tfe = s.tfe
  kinds : t.slc.kinds = s.slc.kinds
  types : t.slc.types = s.slc.types
  hostClosed : t.slc.hostClosed = s.slc.hostClosed
  next : t.sjn.next = s.sjn.next
  released : t.sjn.released = s.sjn.released
  handedBack : t.sjn.handedBack = s.sjn.handedBack
  low : t.sjn.low = s.sjn.low
  profiles : t.bdc.profiles = s.bdc.profiles
  table : t.enm.table = s.enm.table
  capacity : t.enm.capacity = s.enm.capacity
  ceiling : t.enm.ceiling = s.enm.ceiling
  hostLimit : t.enm.hostLimit = s.enm.hostLimit
  quietStart : t.enm.quietStart = s.enm.quietStart
  quietEnd : t.enm.quietEnd = s.enm.quietEnd
  raiseSettle : t.enm.raiseSettle = s.enm.raiseSettle
  dormantSettle : t.enm.dormantSettle = s.enm.dormantSettle
  config : t.awu.config = s.awu.config
  notices : t.hlk.notices.map Notice.config = s.hlk.notices.map Notice.config
  doorSense : t.hlk.doorSense = s.hlk.doorSense

/-- The panel whose probe takes the free line first: the PRESENT one with the lowest address, of a part that has just
restarted (R130, R132). -/
def firstProbed (t : State) : Option Addr := [Addr.p1, .p2, .p3, .p4].find? fun a => (t.bdc.profiles.get a).isPresent

/-- The level whose rail mode and draw stand: the destination of a raise in flight, else the present level (R143, R157,
R158). -/
def railLevelOf (t : State) : Level :=
  match t.enm.transition with
  | .raising d _ => d
  | _ => t.enm.present

/-- The restart values of the non-retained state but the services' running fields, in the state `t` that a restart of `s`
leaves (R1, R25, R73, R79, R92, R100, R108, R115, R117, R129, R130, R137, R142, R143, R150 to R152, R156 to R160, R162, R168,
R171, R175 to R178, R182, R185, R186). They are the values that the restart rules give with what those bring about at once:
every PRESENT panel is due for a probe, and the first of them has the line and waits for the rail; the part restarts at EL4
and the target starts a transition, which toward EL5 has completed where no probe has taken the line. -/
structure Fresh (s t : State) : Prop where
  clock : t.clock = none
  slot : t.slc.slot = .idle
  reason : t.slc.lastReason = none
  reserved : t.sjn.reserved = false
  host : t.bdc.host = []
  auto : t.bdc.auto = []
  arrivals : t.bdc.arrivals = 0
  composed : t.bdc.composed = .all none
  queue : t.bdc.queue = []
  credit : t.bdc.credit = 0
  accrual : t.bdc.accrual = if (presentEntry t).rate = 0 then none else some (3600 / (presentEntry t).rate * 1000)
  position : t.bdc.position = none
  rotation : t.bdc.rotation = none
  lamp : t.bdc.lamp = (presentEntry t).lamp
  sales : t.bdc.sales = some .clock
  glass : ∀ a, (panelAt t a).glass = (none, none, none, none, 0)
  due : ∀ a, (panelAt t a).probeDue = ((t.bdc.profiles.get a).isPresent && decide (firstProbed t ≠ some a))
  probeTimer : ∀ a, (panelAt t a).probeTimer = none
  line : t.plc.line = (firstProbed t).map fun a => ⟨a, .probe, .settle, false⟩
  railLevel : t.plc.railLevel = railLevelOf t
  mode : t.plc.mode = if railLevelOf t = .el5 then .off else .gated
  rail : t.plc.rail = if (firstProbed t).isSome then .settling 250 else .off
  idle : t.plc.idle = none
  link : ∀ a, (panelAt t a).link = if (t.bdc.profiles.get a).isPresent then .unknown else .absent
  attempts : ∀ a, (panelAt t a).attempts = 0
  cold : t.plc.cold = false
  lowArmed : t.sjn.lowArmed = decide (t.sjn.low < freeCount t)
  fullArmed : t.sjn.fullArmed = decide (0 < freeCount t)
  target : t.enm.target = computeTarget t
  present : t.enm.present = if t.enm.target = .el5 ∧ firstProbed t = none then .el5 else .el4
  previous : t.enm.previous = if t.enm.present = .el4 then none else some .el4
  transition : t.enm.transition =
    if t.enm.target = t.enm.present then .none
    else if t.enm.target = .el5 then .lowering .el5
    else .raising t.enm.target t.enm.raiseSettle
  draw : t.enm.draw = (t.enm.table.get (railLevelOf t)).draw
  battery : t.enm.battery = some .el2
  charge : t.enm.charge = none
  stale : t.enm.stale = true
  staleTimer : t.enm.staleTimer = some 900000
  coldLimit : t.enm.coldLimit = none
  quietLimit : t.enm.quietLimit = none
  effective : t.enm.effective = highestEnabled t t.enm.ceiling
  demand : t.awu.demand = t.enm.effective
  timer : t.awu.timer = demandTimerOf (t.enm.table.get t.awu.demand)
  brief : t.awu.brief = false
  returnTimer : t.awu.returnTimer = .stopped
  urgent : t.awu.urgent = false
  filtered : t.awu.filtered = ⟨none, none, none, none, none⟩
  lock : t.awu.lock = none
  woke : t.awu.woke = some ⟨.restart, none, none⟩
  wokeFlags : t.awu.wokeFlags = ⟨false, false, false, false, false⟩
  receiver : t.hlk.receiver = .hunting
  waiting : t.hlk.waiting = []
  reply : t.hlk.reply = none
  restartDue : t.hlk.restartDue = false
  day : t.hlk.day = none
  hold : t.hlk.hold = true
  seen : ∀ n, (noticeAt t n).seen = false
  notices : t.hlk.notices.length = sourceCount → ∀ n, (noticeAt t n).pending = true ↔
    n = 12 ∨ (n = 2 ∧ slotState s.slc.slot = .printing) ∨ (n = 3 ∧ freeCount t = 0) ∨ (n = 5 ∧ freeCount t ≤ t.sjn.low) ∨
      (n = 10 ∧ t.enm.present = .el5) ∨ (n = 15 ∧ t.tts.current = none)

/-! ### Invariants -/

/-- "Whenever no level transition is in flight, the present level equals the target level" (R156). -/
def LevelAtTarget (s : State) : Prop := s.enm.transition = .none → s.enm.present = s.enm.target

/-- A raise leads to a higher level (R157). -/
def RaiseRises (s : State) : Prop := ∀ d n, s.enm.transition = .raising d n → levelRank d < levelRank s.enm.present

/-- "Whenever the present level is EL4 or EL5, the sale slot is IDLE" (R89), in a powered part; and during a lowering
toward those levels it is not QUOTED. -/
def RestingSlot (s : State) : Prop :=
  RaiseRises s ∧
    (s.power = .on →
      (resting s.enm.present = true → s.slc.slot = .idle) ∧
        ∀ d, s.enm.transition = .lowering d → resting d = true → slotState s.slc.slot ≠ .quoted)

/-- The journal's places: a reservation stands exactly while the slot is PRINTING, and records and reservation fit the
capacity (R94, R96). -/
def JournalPlaces (s : State) : Prop :=
  (s.sjn.reserved = true ↔ slotState s.slc.slot = .printing) ∧
    s.sjn.records.length + (if s.sjn.reserved then 1 else 0) ≤ journalCapacity

/-- The takings balance: for every payment kind the lifetime takings are the released takings and the counted fares that
the journal holds (R106). -/
def TakingsBalance (s : State) : Prop :=
  ∀ k, s.sjn.lifetime.get k = s.sjn.handedBack.get k + faresOf k s.sjn.records

/-- The journal's serials run on without a gap from the released-through serial, a PRINTING sale holds the one after them, and
the next serial follows (R94, R97). -/
def SerialsRunOn (s : State) : Prop :=
  (∀ i r, s.sjn.records[i]? = some r → r.serial = s.sjn.released + 1 + i) ∧
    (∀ x left, s.slc.slot = .printing x left → x.serial = s.sjn.released + 1 + s.sjn.records.length) ∧
    s.sjn.next = s.sjn.released + 1 + s.sjn.records.length + (if slotState s.slc.slot = .printing then 1 else 0) ∧
    s.sjn.next ≤ 16777216

/-- "The next toggle is always the other value of the shown toggle", and both are unknown together (R130). -/
def TogglesOpposed (s : State) : Prop := ∀ a, (panelAt s a).next = (panelAt s a).shown.map (!·)

/-- "The refresh credit is never negative and never exceeds the depth of the present level" (R122). -/
def CreditWithinDepth (s : State) : Prop := s.bdc.credit ≤ (presentEntry s).depth

/-- The clock, when SET, holds a service date of the span and a time of day of the day (R1, R3). -/
def ClockInRange (s : State) : Prop := ∀ c, s.clock = some c → inSpan c.date = true ∧ c.tod ≤ 86399

/-- No two services of the current table share a number, and no two records of the next table do (R15, R18). -/
def NumbersDistinct (s : State) : Prop :=
  (∀ t, s.tts.current = some t → (t.services.map (·.plan.number)).Nodup) ∧
    ∀ t, s.tts.next = some t → (t.records.map (·.number)).Nodup

/-- Sixteen sources, and SUPPLY-CRITICAL always enabled and HIGH (R182, R184). -/
def NoticesWhole (s : State) : Prop :=
  s.hlk.notices.length = sourceCount ∧ (noticeAt s 0).config = (true, .high)

/-- The refresh queue holds a panel at most once, urgent entries first (R120). -/
def QueueOrdered (s : State) : Prop :=
  (s.bdc.queue.map (·.panel)).Nodup ∧ s.bdc.queue.Pairwise fun a b => b.urgent = true → a.urgent = true

end Sys2Proof.Machine
end

