-- ==== Sys2Proof/Certificates/Slice0/Obligations.lean ====
section
/-! DEFINITION. The statements for the provers. `atOwner s` and `atSales s` are the states in which a request reaches its
owner; `Does` and `Happens` say that a command answers next, with which state, what it leaves alone, and that no reaction
stands after it; `BringsAbout` says of a reaction that stands that every such command brings it about. A request row is the
whole taking of a valid frame with tag 0 (log 1); the reactions that follow a rule come in the order of log 6; seconds left are rounded as `Config.roundsUp` has it (log 10). -/

section
open Sys2Proof Sys2Proof.Machine

/-! ### The step -/

/-- A step takes the command at the front of the queue, on the state with the queue's rest. On an empty queue the step is
one millisecond of every running timer of a powered part, and nothing of a part held or without supply: the model's choice
(log 9). Every command answers next, from every state. -/
def Obligations.StepTakesTheFront : Prop :=
  (∀ (c : Instr) (rest : List Instr) (s : State),
     s.pending = c :: rest → step s = exec c { s with pending := rest }) ∧
  (∀ s : State, s.pending = [] → s.power ≠ .on → step s = .next s) ∧
  (∀ s : State, s.pending = [] → s.power = .on →
     let down : Option Nat → Option Nat := fun t => t.map fun n => n - 1
     step s = .next
       { s with
         clock := s.clock.map fun c => { c with phase := if c.phase < 999 then c.phase + 1 else c.phase }
         slc.slot := match s.slc.slot with
           | .idle => .idle
           | .quoted q n => .quoted q (n - 1)
           | .printing x n => .printing x (n - 1)
         bdc.accrual := down s.bdc.accrual
         bdc.rotation := down s.bdc.rotation
         plc.panels := s.plc.panels.map fun p =>
           if p.link = .offline ∧ s.plc.rail ≠ .on then p else { p with probeTimer := down p.probeTimer }
         plc.line := s.plc.line.map fun t => { t with phase := match t.phase with
           | .drawing n => .drawing (n - 1)
           | .probing n => .probing (n - 1)
           | .interval n => .interval (n - 1)
           | .retry n => .retry (n - 1)
           | x => x }
         plc.rail := match s.plc.rail with
           | .settling n => .settling (n - 1)
           | r => r
         plc.idle := down s.plc.idle
         enm.staleTimer := down s.enm.staleTimer
         enm.transition := match s.enm.transition with
           | .raising d n => .raising d (n - 1)
           | t => t
         awu.timer := match s.awu.timer with
           | .running n => .running (n - 1)
           | t => t
         awu.returnTimer := match s.awu.returnTimer with
           | .running n => .running (n - 1)
           | t => t }) ∧
  ∀ (c : Instr) (s : State), ∃ t, exec c s = .next t

/-- A part held by RESETN or without supply does nothing on any command but those of its supply and of RESETN (R176, log
14). -/
def Obligations.InactivePartDoesNothing : Prop :=
  ∀ (c : Instr) (s : State), s.power ≠ .on → (∀ b, c ≠ .powerOn b) → (∀ b, c ≠ .resetnReleased b) →
    c ≠ .resetnAsserted → c ≠ .powerLoss → exec c s = .next s

/-! ### Restarts, power loss and the reset input (R74, R92, R176, R187) -/

/-- POWER-ON restarts the part, and one that is still powered too (DEDUCED, log 14): the settings are kept, the current table
with its sold counts, and the other state takes its restart values, every running field of a service among them (R30, R32):
no timer runs that the restart does not start, no notice but those of the restart is pending and none is seen (R182), no
transaction of before goes on (R137), and every PRESENT panel is due for a probe, whose first has the line (R130, R132). The
restart conversion: a retained PRINTING sale is appended UNCONFIRMED without a completion time and counted, its passengers
are added to the sold count of its service where the table is of its date (R49), and PRINT-TIMEOUT is pending; without one
the journal is as it was. No reaction stands after it. -/
def Obligations.RestartsKeepSettingsAndConcludeSales : Prop :=
  (∀ (strap : Bool) (s : State), resetLow s.power = false → NumbersDistinct s →
     ∃ t, exec (.powerOn strap) s = .next t ∧ t.power = .on ∧ t.strap = strap ∧ t.hlk.fastLine = strap ∧
       SettingsKept s t ∧ Fresh s t ∧ Quiet t ∧ t.free = s.free ∧ t.pending = s.pending ∧
       (s.tts.current = none → t.tts.current = none) ∧
       ∀ c, s.tts.current = some c →
         let sold := fun v : Service => match s.slc.slot with
           | .printing x _ => if c.header.date = x.date ∧ x.quote.bound.map (·.number) = some v.plan.number then
               min 65535 (v.sold + x.quote.quantity) else v.sold
           | _ => v.sold
         t.tts.current = some ⟨c.header, c.services.map fun v =>
           ⟨v.plan, .scheduled, 0, v.plan.platform, false, none, false, sold v⟩⟩) ∧
  (∀ (strap : Bool) (s : State), resetLow s.power = false → ∃ t, exec (.powerOn strap) s = .next t ∧
     (∀ x left, s.slc.slot = .printing x left → s.hlk.notices.length = sourceCount →
       t.sjn.records = s.sjn.records ++ [recordOf x .unconfirmed none] ∧
         (∀ k, t.sjn.lifetime.get k = s.sjn.lifetime.get k + if k = x.payment then x.quote.total else 0) ∧
         (noticeOf t .printTimeout).pending = true) ∧
     (slotState s.slc.slot ≠ .printing → t.sjn.records = s.sjn.records ∧ t.sjn.lifetime = s.sjn.lifetime))

/-- RESETN held low makes the part inactive: no notice pending, ATTN released, RAILEN low, LAMP at 0, no frame
received or sent; the stores stand as they were. What else it drops at once is the model's choice (log 15). The three
causes of a restart act alike: a RESETN release after a hold and the end of RESTART's reply do what a power-on does, and a
release without a hold does nothing. The part stays held as long as RESETN stays low, through a power loss and the power-on
after it, which then waits for the release (log 14); the strap that RESTART's restart samples is free (log 12). -/
def Obligations.ResetInputHoldsAndRestarts : Prop :=
  (∀ s : State, s.power = .on → ∃ t, exec .resetnAsserted s = .next t ∧ t.power = .held ∧ attnAsserted t = false ∧
     railEnabled t = false ∧ t.bdc.lamp = 0 ∧ (∀ n ∈ t.hlk.notices, n.pending = false) ∧
     t.hlk.receiver = .hunting ∧ t.hlk.waiting = [] ∧ t.hlk.reply = none ∧
     t.clock = s.clock ∧ t.tts = s.tts ∧ t.tfe = s.tfe ∧ t.slc = s.slc ∧ t.sjn = s.sjn ∧ t.enm = s.enm ∧ t.awu = s.awu ∧
     t.hlk.notices.map Notice.config = s.hlk.notices.map Notice.config) ∧
  (∀ (strap : Bool) (s : State),
     (s.power = .held → (∃ t, exec (.resetnReleased strap) s = .next t ∧ t.power = .on) ∧
       exec (.resetnReleased strap) s = exec (.powerOn strap) { s with power := .off } ∧
       exec (.powerOn strap) s = .next s ∧ exec .resetnAsserted s = .next s) ∧
     (s.power = .off → exec .resetnAsserted s = .next { s with power := .offHeld }) ∧
     (s.power = .offHeld → exec (.powerOn strap) s = .next { s with power := .held } ∧
       exec (.resetnReleased strap) s = .next { s with power := .off } ∧ exec .resetnAsserted s = .next s) ∧
     (resetLow s.power = false → exec (.resetnReleased strap) s = .next s)) ∧
  ∀ s : State, s.power = .on → s.hlk.reply.isSome → s.hlk.restartDue = true →
    exec .replySent s = exec (.powerOn (Config.strapAt s.free)) { s with free := s.free + 1 }

/-- A power loss keeps the retained store, a PRINTING slot but for its timer among it, and a power-on after it
restarts the part as a power-on without it would. That a power-on restarts a part that is still powered, and that the
loss falls between two takings, are the model's (log 14, DEDUCED). -/
def Obligations.PowerLossKeepsTheStore : Prop :=
  ∀ s : State, ∃ t, exec .powerLoss s = .next t ∧
    t.power = (if s.power = .held ∨ s.power = .offHeld then .offHeld else .off) ∧ SettingsKept s t ∧
    t.sjn.records = s.sjn.records ∧ t.sjn.lifetime = s.sjn.lifetime ∧ t.clock = none ∧
    (∀ x left, s.slc.slot = .printing x left → t.slc.slot = .printing x 0) ∧
    (slotState s.slc.slot ≠ .printing → t.slc.slot = .idle) ∧
    (∀ c v, s.tts.current = some c → v ∈ c.services → ∃ d w, t.tts.current = some d ∧ w ∈ d.services ∧
      w.plan = v.plan ∧ w.sold = v.sold) ∧
    (resetLow s.power = false → ∀ strap, exec (.powerOn strap) t = exec (.powerOn strap) s)

/-! ### The host line (R177 to R179, Section 11.8) -/

/-- The bytes of a frame with its check, one after another on a hunting receiver, do what the frame does; with another
check the frame leaves no trace. That the last byte and the frame are one taking is the model's choice (log 2). -/
def Obligations.BytesMakeTheFrame : Prop :=
  ∀ (f : Frame) (s : State) (check : BitVec 16), s.power = .on → s.hlk.receiver = .hunting → f.body.length ≤ 250 →
    (check = frameCheck f → runCommands ((frameBytes f check).map .hostByteReceived) s =
      exec (.frameComplete f.kind f.tag f.body) s) ∧
    (check ≠ frameCheck f → runCommands ((frameBytes f check).map .hostByteReceived) s = .next s)

/-- A hunting receiver ignores every byte but the start byte, a length above 250 abandons the frame, and so does a
gap. -/
def Obligations.ReceiverHuntsAndAbandons : Prop :=
  ∀ (b : Byte) (s : State), s.power = .on →
    (s.hlk.receiver = .hunting → b ≠ 0xA5#8 → exec (.hostByteReceived b) s = .next s) ∧
    (s.hlk.receiver = .inFrame [] → 250 < b.toNat →
      exec (.hostByteReceived b) s = .next { s with hlk.receiver := .hunting }) ∧
    exec .interByteGap s = .next { s with hlk.receiver := .hunting }

/-- Frames are taken one at a time: with no reply being sent a frame of an unknown kind is answered UNKNOWN-KIND; else a
frame waits, or is discarded with two waiting; the end of a reply takes the oldest waiting frame. A request row is such a
frame, with tag 0 (log 1). A taking begins with the end of the attention hold and the LINK event, a wake at EL4 and EL5 where
LINK's wake flag is set (R170, R179). An empty body is the form of a request without fields, and no other body is: the frame
does what the request row does, or is answered MALFORMED (log 3). The bytes of a refusal without fields are its status and
its detail, by the values of Table 11-2; those of a DONE without fields are the status alone. In every body a string is its
length and its characters, a service date three bytes, and a number, signed or not, its most significant byte first, in a
width that Section 11.8 leaves open for most, as it does the code of a negative number (log 22). -/
def Obligations.FramesWaitAndFieldlessFramesAnswer : Prop :=
  (∀ (f : Frame) (s : State), s.power = .on →
     (s.hlk.reply = none → f.kind ∉ catalogue → ∃ t, exec (.frameComplete f.kind f.tag f.body) s = .next t ∧
       t.hlk.reply = some ⟨f.kind ||| 0x80#8, f.tag, refuse .unknownKind .none⟩ ∧ t.hlk.hold = false ∧
       (let r : Frame := ⟨f.kind ||| 0x80#8, f.tag, [2#8, 0#8]⟩
        replyBytes t = some (frameBytes r (frameCheck r))) ∧ StoresKept s t) ∧
     (s.hlk.reply.isSome → s.hlk.waiting.length < 2 → exec (.frameComplete f.kind f.tag f.body) s =
       .next { s with hlk.waiting := s.hlk.waiting ++ [.frame f] }) ∧
     (s.hlk.reply.isSome → 2 ≤ s.hlk.waiting.length → exec (.frameComplete f.kind f.tag f.body) s = .next s) ∧
     (s.hlk.reply.isSome → s.hlk.restartDue = false → s.hlk.waiting = [] →
       exec .replySent s = .next { s with hlk.reply := none }) ∧
     (∀ rest, s.hlk.reply.isSome → s.hlk.restartDue = false → s.hlk.waiting = .frame f :: rest →
       exec .replySent s =
         exec (.frameComplete f.kind f.tag f.body) { s with hlk.reply := none, hlk.waiting := rest })) ∧
  (∀ (c : Instr) (kind : Byte) (s : State), s.power = .on → kindOf c = some kind → s.hlk.reply.isSome →
     (s.hlk.waiting.length < 2 → exec c s = .next { s with hlk.waiting := s.hlk.waiting ++ [.request c] }) ∧
     (2 ≤ s.hlk.waiting.length → exec c s = .next s) ∧
     ∀ rest, s.hlk.restartDue = false → s.hlk.waiting = .request c :: rest →
       exec .replySent s = exec c { s with hlk.reply := none, hlk.waiting := rest }) ∧
  (∀ s : State,
     let w := { s with hlk.hold := false }
     (s.awu.config.link = true → s.enm.present = .el4 ∨ s.enm.present = .el5 →
       atOwner s = settle (woken .link none w)) ∧
     (s.awu.config.link = false ∨ (s.enm.present ≠ .el4 ∧ s.enm.present ≠ .el5) → atOwner s = settle w)) ∧
  (∀ (kind tag : Byte) (body : List Byte) (i : Instr) (s : State), Listens s → fieldless kind = some i →
       exec (.frameComplete kind 0#8 []) s = exec i s ∧
       (body ≠ [] → ∃ t, exec (.frameComplete kind tag body) s = .next t ∧
         t.hlk.reply = some ⟨kind ||| 0x80#8, tag, refuse .malformed .none⟩ ∧
         (let r : Frame := ⟨kind ||| 0x80#8, tag, [1#8, 0#8]⟩
          replyBytes t = some (frameBytes r (frameCheck r))) ∧ StoresKept s t)) ∧
  (∀ (kind : Byte) (st : ReplyStatus) (d : Detail), answerBytes kind ⟨st, d, .nothing⟩ =
     if st = .done then [0#8] else [statusByte st, detailByte d]) ∧
  (∀ (kind : Byte) (place : Nat),
     (∀ t : Text, fieldBytes kind place (.text t) = BitVec.ofNat 8 t.length :: t.map fun c => BitVec.ofNat 8 c.toNat) ∧
     (∀ d : Date, fieldBytes kind place (.date d) =
       [BitVec.ofNat 8 (d.year - 2000), BitVec.ofNat 8 d.month, BitVec.ofNat 8 d.day]) ∧
     ∀ n : Nat,
       let width := Config.numberWidth kind place
       let spells := fun (f : Field) (code : Nat) => (fieldBytes kind place f).length = width ∧
         (fieldBytes kind place f).foldl (fun v b => 256 * v + b.toNat) 0 = code % 256 ^ width
       spells (.number n) n ∧ spells (.signed n) n ∧ spells (.signed (-1 - (n : Int))) (Config.negativeCode width n)) ∧
  [ReplyStatus.done, .malformed, .unknownKind, .range, .busy, .closed, .full, .late, .noneLeft, .notReady,
     .unknown].map (fun x => (statusByte x).toNat) = List.range 11 ∧
  [Detail.none, .field, .backward, .tooFar, .list, .duplicate, .date, .version, .stations, .rules, .bands, .floor, .step,
     .ceiling, .window, .cls, .station, .service, .ticketType, .binding, .payment, .handed, .beyond, .expired,
     .panel].map (fun x => (detailByte x).toNat) = List.range 25

/-- Reading the body of TABLE-ADD gives back every service record that Table 11-7 can write; a body shorter than 7 bytes,
or whose length is not 7 + c, is malformed. A frame with such a record does what the TABLE-ADD row does, and one with
another body is answered MALFORMED. -/
def Obligations.ServiceRecordRoundTrip : Prop :=
  (∀ (number : Nat) (d : Coded Direction) (minute platform : Nat) (calls : List Nat),
    number < 65536 → minute < 65536 → platform < 256 → calls.length < 256 → (∀ c ∈ calls, c < 256) →
    (∀ n, d = .other n → 2 ≤ n ∧ n < 256) →
    readService (serviceBytes number d minute platform calls) = some (.tableAdd number d minute platform calls) ∧
    ∀ s, Listens s → exec (.frameComplete 0x21#8 0#8 (serviceBytes number d minute platform calls)) s =
      exec (.tableAdd number d minute platform calls) s) ∧
  (∀ body : List Byte, body.length < 7 → readService body = none) ∧
  (∀ (a b c d e f n : Byte) (calls : List Byte), calls.length ≠ n.toNat →
    readService (a :: b :: c :: d :: e :: f :: n :: calls) = none) ∧
  ∀ (tag : Byte) (body : List Byte) (s : State), Listens s → readService body = none →
    ∃ t, exec (.frameComplete 0x21#8 tag body) s = .next t ∧
      t.hlk.reply = some ⟨0xA1#8, tag, refuse .malformed .none⟩ ∧ StoresKept s t

/-! ### Device requests and notices (R180 to R185) -/

/-- IDENTIFY answers the strings, the revision and the capacities; RESTART is answered DONE and makes the restart due.
The requests that read answer from the state as it stands and leave it: clock, tables, tariffs, trial fares, takings,
boards, panel line and energy. That TARIFF-READ judges its index for STATION alone, and that the timer reported for an
UNKNOWN panel is its 1 s wait, are the model's readings (log 28, log 17); that a trial fare's stages carry one flag for the
floor and one for the ceiling, that BOARD-STATUS gives one list of messages, and that a previous level of ELA has an approach
flag are its choices (log 36), as is the rounding of seconds (log 10). -/
def Obligations.ReadsAndDeviceRequestsAnswered : Prop :=
  (∀ s : State, Listens s →
     Does .identify s 0x81#8
       (done (.identity "Aveltra".toList "Elbanor HS-42".toList 1 96 16 48 2048 4 8 4 250 2)) (atOwner s) ∧
     Does .restart s 0x82#8 (done .nothing) { atOwner s with hlk.restartDue := true } ∧
     (s.clock = none → Does .clockRead s 0x91#8 (done (.clock none)) (atOwner s)) ∧
     ∀ c, s.clock = some c →
       let l := localPosition c.date c.tod
       Does .clockRead s 0x91#8 (done (.clock (some
         ⟨c.date, c.tod, c.tod / 60, l.1, l.2 / 3600, l.2 / 60 % 60, l.2 % 60, c.lastStep⟩))) (atOwner s)) ∧
  (∀ (sel : TableSel) (i : Nat) (s : State), Listens s →
     let w := atOwner s
     let ask := Instr.tableRead (.named sel) i
     (95 < i → Does ask s 0xA5#8 (refuse .range .field) w) ∧
     (i ≤ 95 →
       (sel = .current → s.tts.current = none →
         Does ask s 0xA5#8 ⟨.noneLeft, .none, .tableRead .empty none 0 none⟩ w) ∧
       (sel = .next → s.tts.next = none → Does ask s 0xA5#8 ⟨.noneLeft, .none, .tableRead .none none 0 none⟩ w) ∧
       (∀ t, sel = .current → s.tts.current = some t →
         (∀ v, t.services[i]? = some v →
           Does ask s 0xA5#8 (done (.tableRead .present (some t.header) t.services.length (some (.current v)))) w) ∧
         (t.services.length ≤ i →
           Does ask s 0xA5#8 ⟨.noneLeft, .none, .tableRead .present (some t.header) t.services.length none⟩ w)) ∧
       ∀ t, sel = .next → s.tts.next = some t →
         let st : LoadState := if t.ready then .ready else .loading
         (∀ p, t.records[i]? = some p →
           Does ask s 0xA5#8 (done (.tableRead st (some t.header) t.records.length (some (.planned p)))) w) ∧
         (t.records.length ≤ i →
           Does ask s 0xA5#8 ⟨.noneLeft, .none, .tableRead st (some t.header) t.records.length none⟩ w))) ∧
  (∀ (sel : TariffSel) (st : LoadState) (h : Option (Nat × Date)) (l : List Station) (r : Option Rules) (i : Nat)
     (s : State), Listens s → Selected s sel st h l r →
     let w := atOwner s
     let ask := fun part => Instr.tariffRead (.named sel) (.named part) i
     Does (ask .summary) s 0xB4#8 (done (.tariffSummary st (h.map fun x => ⟨x.1, x.2, l.length, r.isSome⟩))) w ∧
     (47 < i → Does (ask .station) s 0xB4#8 (refuse .range .field) w) ∧
     (i ≤ 47 → (∀ x, l[i]? = some x → Does (ask .station) s 0xB4#8 (done (.station x)) w) ∧
       (l.length ≤ i → Does (ask .station) s 0xB4#8 ⟨.noneLeft, .none, .noStation st l.length⟩ w)) ∧
     (∀ q, r = some q → Does (ask .rules) s 0xB4#8 (done (.rules q)) w) ∧
     (r = none → Does (ask .rules) s 0xB4#8 ⟨.noneLeft, .none, .noRules st⟩ w) ∧
     ∀ (code cls n : Nat) (k : TicketType) (pk : PeakSel),
       let try' := Instr.fareTrial (.named sel) code (.named k) cls n (.named pk)
       (¬(1 ≤ code ∧ code ≤ 63 ∧ cls ≤ 7 ∧ 1 ≤ n ∧ n ≤ 9) → Does try' s 0xB5#8 (refuse .range .field) w) ∧
       (1 ≤ code ∧ code ≤ 63 ∧ cls ≤ 7 ∧ 1 ≤ n ∧ n ≤ 9 →
         (l = [] ∨ r = none → Does try' s 0xB5#8 (refuse .notReady .none) w) ∧
         ∀ q v, r = some q → h.map (·.1) = some v →
           (l ≠ [] → (∀ x ∈ l, x.code ≠ code) → Does try' s 0xB5#8 (refuse .unknown .station) w) ∧
           ∀ x, l.find? (fun y => y.code == code) = some x →
             (0 < cls → (∀ c, q.classes[cls - 1]? ≠ some (some c)) → Does try' s 0xB5#8 (refuse .range .cls) w) ∧
             ∀ c, (cls = 0 ∧ c = ⟨0, false⟩) ∨ (0 < cls ∧ q.classes[cls - 1]? = some (some c)) →
               let peak := decide (pk = .inPeak) && !c.exempt
               let f := fareStages q x.distance k c n (if peak then q.surcharge else 0)
               Does try' s 0xB5#8 (done (.trial ⟨x.name, x.side, f.fare, f.total, peak, v⟩ f)) w)) ∧
  (∀ s : State, Listens s →
     let j := s.sjn
     let count := fun k => (j.records.filter fun r => r.kind == k).length
     let of := fun k : Payment => (⟨j.lifetime.get k, j.handedBack.get k, j.lifetime.get k - j.handedBack.get k⟩ : TakingsReport)
     Does .takingsRead s 0xD2#8 (done (.takings ⟨of .cash, of .card, of .voucher⟩ j.next j.released j.records.length
       (j.records.head?.map (·.serial)) (j.records.getLast?.map (·.serial)) (j.records.filter fun r => !r.handed).length
       (count .issued) (count .spoiled) (count .unconfirmed) j.reserved
       (2048 - j.records.length - if j.reserved then 1 else 0) j.low j.lowArmed j.fullArmed)) (atOwner s)) ∧
  ∀ s : State, Listens s →
     let w := atOwner s
     let e := s.enm.table.get w.enm.present
     let pages := fun a => ((w.bdc.composed.get a).isSome,
       (w.bdc.composed.get a).isSome && decide (w.bdc.composed.get a = (panelAt w a).page))
     let on := fun l => decide (l = .el4 ∨ l = .el5 ∨ (s.enm.table.get l).draw ≤ s.enm.capacity)
     Does .boardStatus s 0xE4#8 (done (.boardStatus w.bdc.credit e.depth e.rate (w.bdc.accrual.map secondsLeft)
       (match w.enm.transition with | .lowering d => d | _ => w.enm.present) w.bdc.queue (w.bdc.queue.any (·.urgent))
       ⟨pages .p1, pages .p2, pages .p3, pages .p4⟩
       ((displayable w).map fun m => match m with
         | .host x => .host x.id x.priority x.expiry x.arrival
         | .auto x => .auto x.service x.minute)
       w.bdc.position (w.bdc.rotation.map secondsLeft) w.bdc.lamp)) w ∧
     Does .panelStatus s 0xE6#8 (done (.panelStatus w.plc.mode
       (match w.plc.rail with | .off => .off | .settling _ => .settling | .on => .on) (w.plc.idle.map secondsLeft)
       (match w.plc.line with
         | none => .free
         | some ⟨a, .probe, _, _⟩ => .probe a
         | some ⟨a, .refresh _, ph, _⟩ => .refresh a (panelAt w a).attempts (match ph with
           | .settle => .settle
           | .load => .load
           | .show => .show
           | .drawing _ => .drawing
           | .probing _ => .probing
           | .interval _ => .probing
           | .retry _ => .retryWait))
       w.plc.cold (w.plc.panels.map fun p =>
         ⟨p.link, p.shown, p.next, p.page.isSome, p.temperature, p.silences, p.probeDue, p.probeTimer.map secondsLeft⟩))) w ∧
     Does .energyStatus s 0xF6#8 (done (.energyStatus
       { present := hostLevel w.enm.present, brief := w.awu.brief, target := hostLevel w.enm.target
         phase := match w.enm.transition with
           | .none => .none
           | .raising d n => .raiseSettle (hostLevel d) n
           | .lowering d => .lowerDrain (hostLevel d) w.plc.line.isSome
               (decide ((d = .el4 ∨ d = .el5) ∧ slotState w.slc.slot = .printing))
         previous := w.enm.previous.map hostLevel, ceiling := s.enm.ceiling, effective := s.enm.effective
         demand := w.awu.demand, battery := s.enm.battery, cold := w.enm.coldLimit, quiet := s.enm.quietLimit
         host := s.enm.hostLimit, charge := s.enm.charge, stale := s.enm.stale
         staleSeconds := s.enm.staleTimer.map secondsLeft
         enabled := ⟨on .ela, on .el0, on .el1, on .el2, on .el3, on .el4, on .el5⟩
         capacity := s.enm.capacity, draw := w.enm.draw })) w

/-- CLEAR-RETAINED is refused BUSY with a record, a reservation or a slot that is not IDLE; else every retained setting takes
its default, and the clock, the present level and the BATTERY limit are kept. The demand level and its timer move only with
the effective ceiling, the draw allowance only with a raise that starts. Every panel becomes ABSENT, its entry and its
composed page gone. The Board Composer takes the default load settings of the present level (R163): the credit within the new
depth, the accrual timer afresh, no rotation, the lamp lit. The notice flags stay, but that LIMIT-CHANGED is raised for a
HOST or QUIET limit that goes. The COLD limit stays, since the cold flag is judged once, after all panels have gone: the model's
choice (log 40). -/
def Obligations.ClearRetainedClears : Prop :=
  ∀ s : State, Listens s →
    let w := atOwner s
    (w.sjn.records ≠ [] ∨ w.sjn.reserved = true ∨ slotState w.slc.slot ≠ .idle →
      Does .clearRetained s 0x83#8
        ⟨.busy, .none, .clearBusy w.sjn.records.length w.sjn.reserved (slotState w.slc.slot)⟩ w) ∧
    (w.sjn.records = [] → w.sjn.reserved = false → slotState w.slc.slot = .idle → s.hlk.notices.length = sourceCount →
      let u := clearAll w
      Does .clearRetained s 0x83#8 (done .nothing) u ∧
        u.tts = ⟨none, none, 5, 4, 2⟩ ∧ u.tfe = ⟨none, none⟩ ∧ u.slc.kinds = ⟨true, true, true⟩ ∧
        u.slc.types = ⟨true, true, true, true⟩ ∧ u.slc.hostClosed = false ∧ u.slc.lastReason = none ∧
        u.sjn = ⟨[], false, 1, 0, ⟨0, 0, 0⟩, ⟨0, 0, 0⟩, 64, true, true⟩ ∧ u.bdc.profiles = .all defaultProfile ∧
        u.bdc.host = w.bdc.host ∧ u.bdc.auto = [] ∧
        (∀ a, (w.bdc.profiles.get a).isPresent = true →
          panelAt u a = absentPanel ∧ u.bdc.composed.get a = none ∧ ∀ e ∈ u.bdc.queue, e.panel ≠ a) ∧
        (let e := defaultLevelTable.get w.enm.present
         u.bdc.credit = min w.bdc.credit e.depth ∧ u.bdc.rotation = none ∧ u.bdc.lamp = e.lamp ∧
           u.bdc.accrual = if e.rate = 0 then none else some (3600 / e.rate * 1000)) ∧
        u.enm.table = defaultLevelTable ∧ u.enm.capacity = 5000 ∧ u.enm.ceiling = .el1 ∧ u.enm.effective = .el1 ∧
        u.enm.hostLimit = none ∧ u.enm.quietLimit = none ∧ u.enm.quietStart = 0 ∧ u.enm.quietEnd = 0 ∧
        u.enm.raiseSettle = 200 ∧ u.enm.dormantSettle = 800 ∧ u.enm.present = w.enm.present ∧
        u.enm.battery = w.enm.battery ∧ u.enm.coldLimit = w.enm.coldLimit ∧ u.enm.charge = w.enm.charge ∧
        u.enm.target = computeTarget u ∧ (u.enm.transition = w.enm.transition → u.enm.draw = w.enm.draw) ∧
        (w.enm.effective = .el1 → u.awu.demand = w.awu.demand ∧ u.awu.timer = w.awu.timer) ∧
        (w.enm.effective ≠ .el1 → u.awu.demand = .el1 ∧
          (w.awu.timer ≠ .held → u.awu.timer = .running 300000) ∧ (w.awu.timer = .held → u.awu.timer = .held)) ∧
        u.awu.config = defaultWakeConfig ∧ u.awu.lock = none ∧ u.hlk.doorSense = .edge ∧
        u.hlk.notices.map Notice.config = List.replicate 5 (true, .high) ++ List.replicate 11 (true, .low) ∧
        (∀ n, n ≠ 11 → (noticeAt u n).pending = (noticeAt w n).pending) ∧
        (noticeAt u 11).pending =
          ((noticeAt w 11).pending || w.enm.hostLimit.isSome || w.enm.quietLimit.isSome) ∧
        u.clock = w.clock)

/-- NOTICE-READ returns the pending sources, HIGH before LOW, with DAY-ROLLOVER's record when it is pending, and sets
the seen mark of each. NOTICE-CONFIG stores the enables and priorities carried for sources 1 to 15 and the door's
sense, and leaves the rest alone; a field for another source, or a value outside its list, refuses it. A change to LEVEL with
the door open raises DOOR-OPEN. ATTN is asserted exactly while an enabled source is pending, but not by a part held or
without supply, nor under the attention hold of a restart (R186). -/
def Obligations.NoticesReadAndConfigured : Prop :=
  (∀ s : State, Listens s →
     let w := atOwner s
     Does .noticeRead s 0x84#8
       (done (.notices
         (((List.range 16).filter (fun n => (noticeAt w n).pending && (noticeAt w n).priority == .high) ++
           (List.range 16).filter (fun n => (noticeAt w n).pending && (noticeAt w n).priority == .low)).map
             fun n => ⟨n, (noticeAt w n).priority, (noticeAt w n).enable⟩)
         (if (noticeAt w 14).pending then w.hlk.day else none)))
       { w with hlk.notices := w.hlk.notices.map fun n => { n with seen := n.seen || n.pending } }) ∧
  (∀ (fields : List NoticeField) (sense : Option (Coded DoorSense)) (s : State), Listens s →
     s.hlk.notices.length = sourceCount →
     let w := atOwner s
     let c := Instr.noticeConfig fields sense
     let good := (∀ f ∈ fields, 1 ≤ f.source ∧ f.source ≤ 15 ∧ ∀ n, f.priority ≠ some (.other n)) ∧ ∀ n, sense ≠ some (.other n)
     (¬good → Does c s 0x86#8 (refuse .range .field) w) ∧
     (good → (fields.map (·.source)).Nodup → ∃ u,
       Does c s 0x86#8 (done (.noticeSettings (noticeSettings u) u.hlk.doorSense)) u ∧
       u.hlk.doorSense = optCoded s.hlk.doorSense sense ∧
       (∀ f ∈ fields, (noticeAt u f.source).config =
         (f.enable.getD (noticeAt w f.source).enable, optCoded (noticeAt w f.source).priority f.priority)) ∧
       (∀ m, (∀ f ∈ fields, f.source ≠ m) → (noticeAt u m).config = (noticeAt w m).config) ∧
       (∀ m, m ≠ 1 → (noticeAt u m).pending = (noticeAt w m).pending) ∧
       (noticeAt u 1).pending = ((noticeAt w 1).pending ||
         (s.hlk.doorSense == .edge && u.hlk.doorSense == .level && doorOpen w)))) ∧
  ∀ s : State, attnAsserted s = true ↔
    s.power = .on ∧ s.hlk.hold = false ∧ ∃ n ∈ s.hlk.notices, n.enable = true ∧ n.pending = true

/-- NOTICE-CLEAR clears exactly the named sources that are pending and seen; under sense LEVEL an open door raises
DOOR-OPEN again, unseen. A number above 15 refuses it and nothing changes. That a DOOR-OPEN raised again counts among
those left pending is the model's choice (log 20). -/
def Obligations.NoticeClearClearsTheSeen : Prop :=
  ∀ (sources : List Nat) (s : State), Listens s →
    let w := atOwner s
    let goes := fun n => sources.contains n && (noticeAt w n).pending && (noticeAt w n).seen
    let left := fun n : Nat =>
      if n = 1 ∧ goes 1 = true ∧ w.hlk.doorSense = .level ∧ w.awu.filtered.door = some true then
        { noticeAt w n with pending := true, seen := false }
      else if goes n then { noticeAt w n with pending := false } else noticeAt w n
    ((∃ n ∈ sources, 15 < n) → Does (.noticeClear sources) s 0x85#8 (refuse .range .field) w) ∧
    ((∀ n ∈ sources, n ≤ 15) → s.hlk.notices.length = sourceCount → Does (.noticeClear sources) s 0x85#8
      (done (.noticesCleared ((List.range 16).filter goes)
        ((List.range 16).filter fun n => sources.contains n && (left n).pending)))
      { w with hlk.notices := (List.range 16).map left })

/-! ### The clock (R2 to R12) -/

/-- The service day begins at 03:00 local (R2): at a local time of 10,800 s or more the position is the same date with 10,800 s
less, below it the calendar date before with 75,600 s more; the way back adds what this takes, and a local date and time
survives both. The date after each date of the calendar (R3). -/
def Obligations.PositionsInvert : Prop :=
  (∀ (d : Date) (l : Nat), realDate d = true → 1 ≤ d.year → l < 86400 →
     let p := clockPosition d l
     localPosition p.1 p.2 = (d, l) ∧ p.2 < 86400 ∧ realDate p.1 = true ∧
       (10800 ≤ l → p = (d, l - 10800)) ∧ (l < 10800 → nextDate p.1 = d ∧ p.2 = l + 75600)) ∧
  (∀ (d : Date) (tod : Nat), (tod < 75600 → localPosition d tod = (d, tod + 10800)) ∧
     (75600 ≤ tod → localPosition d tod = (nextDate d, tod - 75600))) ∧
  ∀ y mo d : Nat,
    let days := if mo = 2 then (if y % 4 = 0 ∧ y ≠ 2100 then 29 else 28)
      else if mo = 4 ∨ mo = 6 ∨ mo = 9 ∨ mo = 11 then 30 else 31
    (d < days → nextDate ⟨y, mo, d⟩ = ⟨y, mo, d + 1⟩) ∧
      (d = days → nextDate ⟨y, mo, d⟩ = if mo < 12 then ⟨y, mo + 1, 1⟩ else ⟨y + 1, 1, 1⟩)

/-- A completed second adds 1 to the time of day below 86,399; off a minute boundary nothing else happens. On one the minute
event of cause COUNT evaluates every service (R42, R43), removes the expired host messages, with a refresh queued for each
MESSAGES panel (R116), sets the lamp (R127) and evaluates QUIET (R152), whose end wakes the part at EL4 and EL5 where CLOCK's
wake flag is set (R170); the tariffs, the journal and the day record stay as they were. The order among the blocks, by which the CLOCK
record stands also where an approach start wakes the part too, is the model's choice (log 7). An UNSET clock counts nothing. -/
def Obligations.ClockCountsSeconds : Prop :=
  ∀ s : State, s.power = .on →
    (s.clock = none → Happens .clockSecond s s) ∧
    ∀ c, s.clock = some c → c.tod < 86399 →
      let d : ClockSetting := { c with tod := c.tod + 1, phase := 0 }
      ((c.tod + 1) % 60 ≠ 0 → Happens .clockSecond s { s with clock := some d }) ∧
      ((c.tod + 1) % 60 = 0 →
        let m := (c.tod + 1) / 60
        let placed := { s with clock := some d }
        let u := minuteEvent ⟨c.date, m, .count⟩ placed
        Happens .clockSecond s u ∧ MinuteTaken m placed u) ∧
      ∃ t, exec .clockSecond s = .next t ∧ t.clock = some d ∧ t.tfe = s.tfe ∧ t.sjn = s.sjn ∧ t.hlk.day = s.hlk.day ∧
        t.tts.next = s.tts.next ∧ t.tts.current.map (·.header) = s.tts.current.map (·.header)

/-- The end of the service day: before 31 December 2099 the next date is entered with a rollover of cause COUNT, which wakes
the part at EL4 and EL5 where CLOCK's wake flag is set (R170). On it the clock goes UNSET without one: every approach flag
clears (R43), CLOCK closes the sales and a quote stays where no lowering starts (R90), the lamp is lit (R127), the QUIET limit
goes (R152) and the target is computed with all that. The order among these is the model's choice (log 7). -/
def Obligations.ServiceDayEnds : Prop :=
  ∀ (s : State) (c : ClockSetting), s.power = .on → s.clock = some c → c.tod = 86399 →
    s.hlk.notices.length = sourceCount →
    (dateBefore c.date lastDate = true → ∃ t, exec .clockSecond s = .next t ∧
      t.clock = some { c with date := nextDate c.date, tod := 0, phase := 0 } ∧
      t.hlk.day = some ⟨nextDate c.date, .count, (tariffDue (nextDate c.date) s).map (·.version)⟩ ∧
      (noticeOf t .dayRollover).pending = true ∧ t.bdc.host = [] ∧ t.bdc.auto = [] ∧ t.sjn = s.sjn ∧
      slotState t.slc.slot ≠ .quoted ∧
      (s.awu.config.approach = false →
        (s.awu.config.clock = true → s.enm.present = .el4 ∨ s.enm.present = .el5 →
          t.awu.woke = some ⟨.clock, none, some 0⟩ ∧ t.awu.demand = s.enm.effective ∧
            (noticeOf t .woke).pending = true) ∧
        (s.awu.config.clock = false ∨ (s.enm.present ≠ .el4 ∧ s.enm.present ≠ .el5) → t.awu.woke = s.awu.woke))) ∧
    (dateBefore c.date lastDate = false →
      let u := unsetClock s
      Happens .clockSecond s u ∧ u.clock = none ∧ u.hlk.day = s.hlk.day ∧ u.bdc.host = s.bdc.host ∧
      u.bdc.auto = s.bdc.auto ∧ u.tfe = s.tfe ∧ u.sjn = s.sjn ∧
      u.tts = { s.tts with current := s.tts.current.map fun t =>
        { t with services := t.services.map fun v => { v with approach := false } } } ∧
      Reason.clock ∈ salesReasons u ∧ u.bdc.sales = some .clock ∧
      (s.bdc.sales = none → ∀ a, (s.bdc.profiles.get a).isPresent = true → (s.bdc.profiles.get a).kind = .sales →
        ∃ e ∈ u.bdc.queue, e.panel = a ∧ e.urgent = true) ∧
      u.bdc.lamp = (s.enm.table.get s.enm.present).lamp ∧ u.enm.present = s.enm.present ∧
      u.enm.quietLimit = none ∧ (s.enm.quietLimit.isSome → (noticeOf u .limitChanged).pending = true) ∧
      u.enm.target = computeTarget u ∧
      ((s.enm.transition = .none → s.enm.present = computeTarget s) →
        u.slc.slot = s.slc.slot ∧ u.slc.lastReason = s.slc.lastReason))

/-- A CLOCK-SET with a field or a service date out of range is refused with the clock fields, and nothing changes. The
first setting: an UNSET clock takes the position of an in-range CLOCK-SET, with a rollover of cause FIRST and no last
step. The ranges of the fields and of the service date (R3, R8). -/
def Obligations.ClockSetRefusesOrSetsFirst : Prop :=
  (∀ (y mo d h mi sec : Nat) (s : State), Listens s →
     (clockFieldsInRange y mo d h mi sec = false ∨
       inSpan (clockPosition ⟨y, mo, d⟩ (3600 * h + 60 * mi + sec)).1 = false) →
     Does (.clockSet y mo d h mi sec) s 0x90#8 ⟨.range, .field, .clock (clockFields s)⟩ (atOwner s)) ∧
  (∀ (y mo d h mi sec : Nat) (s : State), Listens s → s.clock = none → s.hlk.notices.length = sourceCount →
     clockFieldsInRange y mo d h mi sec = true →
     let p := clockPosition ⟨y, mo, d⟩ (3600 * h + 60 * mi + sec)
     inSpan p.1 = true →
     ∃ t, exec (.clockSet y mo d h mi sec) s = .next t ∧ t.clock = some ⟨p.1, p.2, 0, none⟩ ∧
       replied 0x90#8 (done (.clockPlaced (clockFields t) true)) t ∧
       t.hlk.day = some ⟨p.1, .first, (tariffDue p.1 s).map (·.version)⟩ ∧
       (noticeOf t .dayRollover).pending = true ∧ t.sjn = s.sjn) ∧
  ∀ y mo d h mi sec : Nat,
    let days := if mo = 2 then (if y % 4 = 0 ∧ y ≠ 2100 then 29 else 28)
      else if mo = 4 ∨ mo = 6 ∨ mo = 9 ∨ mo = 11 then 30 else 31
    let exists' := 1 ≤ mo ∧ mo ≤ 12 ∧ 1 ≤ d ∧ d ≤ days
    (inSpan ⟨y, mo, d⟩ = true ↔ 2000 ≤ y ∧ y ≤ 2099 ∧ exists') ∧
      (clockFieldsInRange y mo d h mi sec = true ↔
        2000 ≤ y ∧ y ≤ 2100 ∧ exists' ∧ h ≤ 23 ∧ mi ≤ 59 ∧ sec ≤ 59)

/-- A step of a SET clock: refused BACKWARD into an earlier date and TOO-FAR beyond 366 days, with the clock fields
and no change; else the position is taken with the signed last step, and a rollover only into a later date. On the same date
the minute event of cause SET does what one of cause COUNT does (R6, R10). The order among the blocks, by which the CLOCK
record of the end of QUIET stands also where an approach start wakes the part in that minute, is the model's choice (log 7). -/
def Obligations.ClockSteps : Prop :=
  ∀ (y mo d h mi sec : Nat) (s : State) (c : ClockSetting), Listens s → s.clock = some c →
    clockFieldsInRange y mo d h mi sec = true →
    let p := clockPosition ⟨y, mo, d⟩ (3600 * h + 60 * mi + sec)
    let ahead : Int := (dayNumber p.1 : Int) - dayNumber c.date
    let last : Int := 86400 * ahead + p.2 - c.tod
    inSpan p.1 = true →
    (dateBefore p.1 c.date = true →
      Does (.clockSet y mo d h mi sec) s 0x90#8 ⟨.range, .backward, .clock (clockFields s)⟩ (atOwner s)) ∧
    (dateBefore p.1 c.date = false → 366 < ahead →
      Does (.clockSet y mo d h mi sec) s 0x90#8 ⟨.range, .tooFar, .clock (clockFields s)⟩ (atOwner s)) ∧
    (dateBefore p.1 c.date = false → ahead ≤ 366 →
      ∃ t, exec (.clockSet y mo d h mi sec) s = .next t ∧ t.clock = some ⟨p.1, p.2, 0, some last⟩ ∧
        replied 0x90#8 (done (.clockPlaced (clockFields t) (p.1 ≠ c.date))) t ∧
        t.sjn = s.sjn ∧ (p.1 = c.date → t.hlk.day = s.hlk.day ∧ t.tfe = s.tfe ∧
          (let placed := { atOwner s with clock := some ⟨p.1, p.2, 0, some last⟩ }
           let u := minuteEvent ⟨p.1, p.2 / 60, .set⟩ placed
           Does (.clockSet y mo d h mi sec) s 0x90#8 (done (.clockPlaced (clockFields u) false)) u ∧
             MinuteTaken (p.2 / 60) placed u)) ∧
        (p.1 ≠ c.date → t.hlk.day = some ⟨p.1, .step, (tariffDue p.1 s).map (·.version)⟩))

/-- What a rollover does to the tables (Table 2-5, R23 to R25) and to the tariffs (R61), with the evaluation of the minute
event that follows: at the end of the service day, at a step into a later date and at the first setting. At a first setting
a current table of the date entered is kept, and the next table with it. The Board Composer (R116, R117, R121): both message
lists are emptied and every PRESENT panel is queued. -/
def Obligations.RolloverMovesTablesAndTariff : Prop :=
  (∀ (s : State) (c : ClockSetting), s.power = .on → s.hlk.notices.length = sourceCount → s.clock = some c →
     c.tod = 86399 → dateBefore c.date lastDate = true →
     let d : ClockSetting := { c with date := nextDate c.date, tod := 0, phase := 0 }
     let u := enterDate d (some c.date) .count .count { s with clock := some d }
     Happens .clockSecond s u ∧ TablesEntered d.date 0 s u ∧ TariffEntered d.date s u ∧ BoardsEntered u) ∧
  (∀ (y mo d h mi sec : Nat) (s : State), Listens s → s.hlk.notices.length = sourceCount →
     clockFieldsInRange y mo d h mi sec = true →
     let p := clockPosition ⟨y, mo, d⟩ (3600 * h + 60 * mi + sec)
     let w := atOwner s
     let evaluate := evaluateService s.tts.grace s.tts.window (p.2 / 60)
     let answers := fun u => Does (.clockSet y mo d h mi sec) s 0x90#8 (done (.clockPlaced (clockFields u) true)) u
     inSpan p.1 = true →
     (∀ c, s.clock = some c → dateBefore c.date p.1 = true → dayNumber p.1 ≤ dayNumber c.date + 366 →
       let e : ClockSetting := ⟨p.1, p.2, 0, some (86400 * ((dayNumber p.1 : Int) - dayNumber c.date) + p.2 - c.tod)⟩
       let u := enterDate e (some c.date) .step .set { w with clock := some e }
       answers u ∧ TablesEntered p.1 (p.2 / 60) s u ∧ TariffEntered p.1 s u ∧ BoardsEntered u) ∧
     (s.clock = none →
       let u := firstSetting p.1 p.2 w
       answers u ∧ TariffEntered p.1 s u ∧ BoardsEntered u ∧
         ((∀ c, s.tts.current = some c → c.header.date ≠ p.1) → TablesEntered p.1 (p.2 / 60) s u) ∧
         ∀ c, s.tts.current = some c → c.header.date = p.1 → u.tts.next = s.tts.next ∧
           u.tts.current = some { c with services := c.services.map evaluate }))

/-! ### Requests that read (R12, R26, R62, R72, R107, R128, R144, R161) -/

/-- A coded field that names no value of its list refuses the request RANGE with FIELD, and nothing changes (R17, R18, R26,
R34, R57, R62, R72, R75, R76, R81, R83, R111, R115, R121, R146, R184). A SALE-* request but SALE-SETTINGS is activity all the
same (R165): it is refused on `atSales s`, the state after it (DEDUCED, log 26). -/
def Obligations.OutsideValuesRefused : Prop :=
  ∀ (n : Nat) (s : State), Listens s →
    let w := atOwner s
    let no : Answer := refuse .range .field
    (∀ number stamp arg, Does (.running number stamp (.other n) arg) s 0xA7#8 no w) ∧
    (∀ date a b v, Does (.tableOpen date (.other n) a b v) s 0xA0#8 no w) ∧
    (∀ t number m p l, s.tts.next = some t → t.ready = false →
      Does (.tableAdd number (.other n) m p l) s 0xA1#8 no w) ∧
    (∀ i, Does (.tableRead (.other n) i) s 0xA5#8 no w) ∧
    (∀ p code name d, s.tfe.pending = some p → p.ready = false →
      Does (.tariffStation code name d (.other n)) s 0xB1#8 no w) ∧
    (∀ part i, Does (.tariffRead (.other n) part i) s 0xB4#8 no w) ∧
    (∀ sel i, Does (.tariffRead sel (.other n) i) s 0xB4#8 no w) ∧
    (∀ sel code k c q pk, sel = .other n ∨ k = .other n ∨ pk = .other n →
      Does (.fareTrial sel code k c q pk) s 0xB5#8 no w) ∧
    (∀ code k c q sel m, k = .other n ∨ sel = .other n →
      Does (.saleQuote code k c q sel m) s 0xC0#8 no (atSales s)) ∧
    (∀ ref, Does (.saleCommit (.other n) ref) s 0xC1#8 no (atSales s)) ∧
    (∀ serial, Does (.salePrinted serial (.other n)) s 0xC2#8 no (atSales s)) ∧
    (∀ kinds types, (∃ l, kinds = some l ∧ .other n ∈ l) ∨ (∃ l, types = some l ∧ .other n ∈ l) →
      Does (.saleSettings kinds types) s 0xC7#8 no w) ∧
    (∀ a pr k rows fl th, pr = some (.other n) ∨ k = some (.other n) ∨ fl = some (.other n) →
      Does (.panelProfile a pr k rows fl th) s 0xE0#8 no w) ∧
    (∀ id lines m, Does (.boardText id (.other n) lines m) s 0xE1#8 no w) ∧
    (∀ a, Does (.boardRefresh a (.other n)) s 0xE3#8 no w) ∧
    (∀ a b c d e f, Does (.levelTable (.other n) a b c d e f) s 0xF0#8 no w) ∧
    ∀ fields sense, (∃ x ∈ fields, x.priority = some (.other n)) ∨ sense = some (.other n) →
      Does (.noticeConfig fields sense) s 0x86#8 no w

/-! ### The timetable (R13 to R43) -/

/-- TABLE-OPEN (R17): a header out of range is refused and the next table kept; else the next table is LOADING with
the header and no record, whatever it was. The ranges of a header (R14). TABLE-CLOSE and TABLE-DROP (R19, R20). -/
def Obligations.TablesOpenCloseAndDrop : Prop :=
  (∀ (date : Date) (day : Coded DayType) (du df v : Nat) (s : State), Listens s →
     let w := atOwner s
     (headerInRange date day du df v = false → Does (.tableOpen date day du df v) s 0xA0#8 (refuse .range .field) w) ∧
     ∀ k, day = .named k → headerInRange date day du df v = true →
       Does (.tableOpen date day du df v) s 0xA0#8 (done (.header ⟨date, k, du, df, v⟩))
         { w with tts.next := some ⟨false, ⟨date, k, du, df, v⟩, []⟩ }) ∧
  (∀ (date : Date) (day : Coded DayType) (du df v : Nat), headerInRange date day du df v = true ↔
     inSpan date = true ∧ (∃ k, day = .named k) ∧ du ≤ 1439 ∧ df ≤ 1439 ∧ 1 ≤ v ∧ v ≤ 65535) ∧
  (∀ s : State, Listens s →
     let w := atOwner s
     (s.tts.next = none → Does .tableClose s 0xA2#8 (refuse .notReady .none) w ∧
       Does .tableDrop s 0xA3#8 (done (.tableDropped .none 0)) w) ∧
     ∀ t, s.tts.next = some t →
       Does .tableClose s 0xA2#8 (done (.tableClosed t.header.date t.header.version t.records.length))
         { w with tts.next := some { t with ready := true } } ∧
       Does .tableDrop s 0xA3#8 (done (.tableDropped (if t.ready then .ready else .loading) t.records.length))
         { w with tts.next := none })

/-- TABLE-ADD (R16, R18): the record stands after every record of no greater scheduled minute and before the others,
and an ordered table stays ordered; the refusals leave the table alone, in the order of the checks, the third of them for a
field outside its range (R15). -/
def Obligations.TableAddPlacesTheRecord : Prop :=
  ∀ (number : Nat) (dir : Coded Direction) (minute platform : Nat) (calls : List Nat) (s : State), Listens s →
    let w := atOwner s
    let add := Instr.tableAdd number dir minute platform calls
    (serviceInRange number dir minute platform calls = true ↔ 1 ≤ number ∧ number ≤ 9999 ∧ (∃ d, dir = .named d) ∧
      minute ≤ 1439 ∧ 1 ≤ platform ∧ platform ≤ 3 ∧ 1 ≤ calls.length ∧ calls.length ≤ 16 ∧ ∀ x ∈ calls, 1 ≤ x ∧ x ≤ 63) ∧
    (s.tts.next = none → Does add s 0xA1#8 (refuse .notReady .none) w) ∧
    ∀ t, s.tts.next = some t →
      (t.ready = true → Does add s 0xA1#8 (refuse .busy .none) w) ∧
      (t.ready = false → serviceInRange number dir minute platform calls = false →
        Does add s 0xA1#8 (refuse .range .field) w) ∧
      (t.ready = false → serviceInRange number dir minute platform calls = true →
        (¬calls.Nodup → Does add s 0xA1#8 (refuse .range .list) w) ∧
        (calls.Nodup → (∃ p ∈ t.records, p.number = number) → Does add s 0xA1#8 (refuse .range .duplicate) w) ∧
        (calls.Nodup → (∀ p ∈ t.records, p.number ≠ number) → 96 ≤ t.records.length →
          Does add s 0xA1#8 (refuse .full .none) w) ∧
        (calls.Nodup → (∀ p ∈ t.records, p.number ≠ number) → t.records.length < 96 → ∀ d, dir = .named d →
          ∃ before after : List Planned, t.records = before ++ after ∧ (∀ p ∈ before, p.minute ≤ minute) ∧
            (∀ p, after.head? = some p → minute < p.minute) ∧
            (t.records.Pairwise (fun p q => p.minute ≤ q.minute) → ∀ p ∈ after, minute < p.minute) ∧
            Does add s 0xA1#8 (done (.inserted before.length (t.records.length + 1)))
              { w with
                tts.next := some { t with records := before ++ ⟨number, d, minute, platform, calls⟩ :: after } }))

/-- TABLE-PROMOTE (R21, R22): refused NOT-READY, DATE and VERSION in that order with both tables kept; else the next
table becomes current, every service with its starting values as the evaluation leaves them. Its change event of cause TABLE
queues the DEPARTURES panels and empties the automatic list (R22, R117, R121). -/
def Obligations.PromotionMakesTheNextTableCurrent : Prop :=
  ∀ (version : Nat) (s : State), Listens s →
    let w := atOwner s
    (s.clock = none → Does (.tablePromote version) s 0xA4#8 (refuse .notReady .none) w) ∧
    (∀ t, s.tts.next = some t → t.ready = false → Does (.tablePromote version) s 0xA4#8 (refuse .notReady .none) w) ∧
    (s.tts.next = none → Does (.tablePromote version) s 0xA4#8 (refuse .notReady .none) w) ∧
    ∀ c t, s.clock = some c → s.tts.next = some t → t.ready = true →
      (t.header.date ≠ c.date → Does (.tablePromote version) s 0xA4#8 (refuse .range .date) w) ∧
      (t.header.date = c.date → t.header.version ≠ version →
        Does (.tablePromote version) s 0xA4#8 (refuse .range .version) w) ∧
      (t.header.date = c.date → t.header.version = version →
        let u := evaluateNow (promote t w)
        Does (.tablePromote version) s 0xA4#8 (done (.promoted c.date version t.records.length)) u ∧
          TableChanged w u ∧ u.tts.next = none ∧
          u.tts.current = some ⟨t.header, t.records.map fun p =>
            evaluateService s.tts.grace s.tts.window (c.tod / 60)
              ⟨p, .scheduled, 0, p.platform, false, none, false, 0⟩⟩ ∧
          u.clock = s.clock ∧ u.tfe = s.tfe ∧ u.sjn = s.sjn)

/-- SERVICE-SETTINGS (R27): a grace above 30 or a margin above 10 refuses it; the window is clamped; absent fields are
kept. With a field carried and the clock SET, every current service is evaluated with the new settings (R42, R43); with none
nothing changes. -/
def Obligations.ServiceSettingsStored : Prop :=
  ∀ (g win m : Option Nat) (s : State), Listens s →
    let w := atOwner s
    ((∃ n, g = some n ∧ 30 < n) ∨ (∃ n, m = some n ∧ 10 < n) →
      Does (.serviceSettings g win m) s 0xA6#8 (refuse .range .field) w) ∧
    ((∀ n, g = some n → n ≤ 30) → (∀ n, m = some n → n ≤ 10) →
      ∃ u, Does (.serviceSettings g win m) s 0xA6#8
          (done (.serviceSettings (g.getD s.tts.grace) ((win.map (clamp 1 15)).getD s.tts.window)
            (m.getD s.tts.margin))) u ∧
        u.tts.grace = g.getD s.tts.grace ∧ u.tts.window = (win.map (clamp 1 15)).getD s.tts.window ∧
        u.tts.margin = m.getD s.tts.margin ∧ u.tts.next = s.tts.next ∧ (g = none → win = none → m = none → u = w) ∧
        (s.clock = none → u.tts.current = s.tts.current) ∧
        ∀ c, s.clock = some c → g.isSome ∨ win.isSome ∨ m.isSome → u.tts.current = s.tts.current.map fun t =>
          { t with services := t.services.map (evaluateService (g.getD s.tts.grace)
              ((win.map (clamp 1 15)).getD s.tts.window) (c.tod / 60)) })

/-- RUNNING (R34, R35, R41): refused out of range, UNSET and for an unknown service; a final service and an older
stamp change nothing; else the service alone becomes what its kind and the evaluation make of it, with the stamp. The ranges
of its fields, the argument by its kind (R34). -/
def Obligations.RunningMessagesJudged : Prop :=
  ∀ (number stamp : Nat) (k : RunKind) (arg : Int) (s : State), Listens s →
    let w := atOwner s
    let run := Instr.running number stamp (.named k) arg
    (runningInRange number stamp (.named k) arg = true ↔ 1 ≤ number ∧ number ≤ 9999 ∧ stamp ≤ 97199 ∧
      (k = .delay → -60 ≤ arg ∧ arg ≤ 999) ∧ (k = .platform → 1 ≤ arg ∧ arg ≤ 3)) ∧
    (runningInRange number stamp (.named k) arg = false → Does run s 0xA7#8 (refuse .range .field) w) ∧
    (runningInRange number stamp (.named k) arg = true →
      (s.clock = none → Does run s 0xA7#8 (refuse .notReady .none) w) ∧
      ∀ c, s.clock = some c →
        (currentService s number = none → Does run s 0xA7#8 (refuse .unknown .none) w) ∧
        ∀ v, currentService s number = some v →
          (v.status = .departed → Does run s 0xA7#8 (runningAnswer .final k arg v) w) ∧
          (v.status ≠ .departed → (∃ old, v.stamp = some old ∧ stamp < old) →
            Does run s 0xA7#8 (runningAnswer .stale k arg v) w) ∧
          (v.status ≠ .departed → (∀ old, v.stamp = some old → old ≤ stamp) →
            let x := evaluateService s.tts.grace s.tts.window (c.tod / 60)
              { applyKind k arg s.tts.grace (c.tod / 60) v with stamp := some stamp }
            ∃ u, Does run s 0xA7#8 (runningAnswer .applied k arg x) u ∧
              u.tts = { s.tts with current := s.tts.current.map fun t =>
                ({ t with services := t.services.map fun y => if y.plan.number = number then x else y } : CurrentTable) } ∧
              u.clock = s.clock ∧ u.tfe = s.tfe ∧ u.sjn = s.sjn))

/-- What each kind of message and the evaluation do to a service (R33, R36 to R40, R42, R43). -/
def Obligations.MessageKindsApply : Prop :=
  ∀ (arg : Int) (grace win now : Nat) (v : Service),
    let d := (if arg < 0 then 0 else if 720 < arg then 720 else arg).toNat
    let status : Status := if d = 0 then .scheduled else .delayed
    (v.status.isRunning = true → applyKind .delay arg grace now v = { v with delay := d, status := status }) ∧
    (v.status = .lapsed → applyKind .delay arg grace now v =
      if now < v.plan.minute + d + grace then { v with delay := d, status := status } else { v with delay := d }) ∧
    (v.status = .cancelled → applyKind .delay arg grace now v = { v with delay := d } ∧
      applyKind .cancel arg grace now v = v ∧
      applyKind .reinstate arg grace now v = { v with status := if v.delay = 0 then .scheduled else .delayed }) ∧
    (v.status ≠ .cancelled → applyKind .cancel arg grace now v = { v with status := .cancelled, approach := false } ∧
      applyKind .reinstate arg grace now v = v) ∧
    applyKind .platform arg grace now v =
      { v with platform := arg.toNat, altered := decide (arg.toNat ≠ v.plan.platform) } ∧
    applyKind .departed arg grace now v = { v with status := .departed, approach := false } ∧
    (v.status.isRunning = false → evaluateService grace win now v = v) ∧
    (v.status.isRunning = true → v.plan.minute + v.delay + grace ≤ now →
      evaluateService grace win now v = { v with status := .lapsed, approach := false }) ∧
    (v.status.isRunning = true → now < v.plan.minute + v.delay + grace →
      evaluateService grace win now v =
        { v with approach := v.approach || decide (v.plan.minute + v.delay ≤ now + win) })

/-- What a message and a print result hand on. A message that is applied (R44 to R48): the approach condition, the approach
start, the status event and the change events of its service, in the order of log 7; that an approach start gives its
APPROACH event also with a message that changes nothing else is the model's reading (DEDUCED, log 25). The causes of Table
3-5 and their classes for a panel (R46, R47); what a change event asks of the panels (R121) and what a cancellation and a
reinstatement do to the automatic list and the MESSAGES panels (R117, R121); the withdrawal of the quote bound to a service
that stops (R48). A print result counted for a bound sale adds to the sold count of its service, up to 65,535 (R49), which of
a CANCELLED service is told to the Board Composer (R117); it is judged on the state after its own activity: DEDUCED, log 26.
-/
def Obligations.ChangesHandedOn : Prop :=
  (∀ (number stamp : Nat) (k : RunKind) (arg : Int) (c : ClockSetting) (v : Service) (s : State), Listens s →
     s.clock = some c → runningInRange number stamp (.named k) arg = true → currentService s number = some v →
     v.status ≠ .departed → (∀ old, v.stamp = some old → old ≤ stamp) →
     let w := atOwner s
     let x := evaluateService s.tts.grace s.tts.window (c.tod / 60)
       { applyKind k arg s.tts.grace (c.tod / 60) v with stamp := some stamp }
     let placed := { w with tts.current := s.tts.current.map fun t =>
       ({ t with services := t.services.map fun y => if y.plan.number = number then x else y } : CurrentTable) }
     Does (.running number stamp (.named k) arg) s 0xA7#8 (runningAnswer .applied k arg x)
       (changeEvents (statusEvent (approachStart (retarget placed) (v, x)) (v, x)) (v, x))) ∧
  (∀ (old new : Service) (s : State),
     let gives := fun c => givesCause old new c = true
     let text := fun (n : Nat) (v : Service) =>
       if v.approach then 0 else if v.status = .cancelled then 1 else if n ≤ v.delay then 2 else 3
     (gives .cancel ↔ old.status ≠ .cancelled ∧ new.status = .cancelled) ∧
     (gives .reinstate ↔ old.status = .cancelled ∧ new.status ≠ .cancelled ∧ new.status ≠ .departed) ∧
     (gives .platform ↔ old.platform ≠ new.platform) ∧ (gives .approach ↔ old.approach = false ∧ new.approach = true) ∧
     (gives .revival ↔ old.status = .lapsed ∧ (new.status = .scheduled ∨ new.status = .delayed)) ∧
     (gives .delay ↔ old.delay ≠ new.delay ∧ old.status ≠ .lapsed ∧ new.status ≠ .lapsed) ∧
     (gives .lapse ↔ (old.status = .scheduled ∨ old.status = .delayed) ∧ new.status = .lapsed) ∧
     (gives .departed ↔ old.status ≠ .departed ∧ new.status = .departed) ∧
     (∀ c p, causeUrgent old new c p = true ↔
       c ∈ [ChangeCause.cancel, .reinstate, .platform, .approach, .revival] ∨
       (c = .delay ∧ p.isPresent = true ∧ p.kind = .departures ∧
         (let a := text p.threshold old; let b := text p.threshold new
         (a = 3 ∧ b = 2) ∨ (a = 2 ∧ b = 3) ∨ (a = 1 ∧ b ≠ 1) ∨ (a ≠ 1 ∧ b = 1)))) ∧
     (changeEvents s (old, new) =
       ([ChangeCause.cancel, .reinstate, .platform, .approach, .revival, .delay, .lapse, .departed].filter
         (givesCause old new)).foldl (changeEvent old new) s) ∧
     (∀ c, (∀ a, (s.bdc.profiles.get a).isPresent = true → (s.bdc.profiles.get a).kind = .departures →
         (passes (s.bdc.profiles.get a).filter new.plan.direction = true →
           ∃ e ∈ (changeEvent old new s c).bdc.queue, e.panel = a ∧
             (causeUrgent old new c (s.bdc.profiles.get a) = true → e.urgent = true)) ∧
         (passes (s.bdc.profiles.get a).filter new.plan.direction = false → QueueOrdered s →
           (changeEvent old new s c).bdc.queue.filter (fun e => e.panel == a) =
             s.bdc.queue.filter fun e => e.panel == a)) ∧
       (c ≠ .cancel → c ≠ .reinstate → (changeEvent old new s c).bdc.auto = s.bdc.auto)) ∧
     (∀ d, passes d new.plan.direction = decide (d = .all ∨ (d = .up ∧ new.plan.direction = .up) ∨
       (d = .down ∧ new.plan.direction = .down))) ∧
     (let t := changeEvent old new s .cancel
      (new.sold = 0 ∨ (∃ x ∈ s.bdc.auto, x.service = new.plan.number) → t.bdc.auto = s.bdc.auto) ∧
      (0 < new.sold → (∀ x ∈ s.bdc.auto, x.service ≠ new.plan.number) → AutoAdded new s t ∧ QueuedUrgent .messages t)) ∧
     (let t := changeEvent old new s .reinstate
      t.bdc.auto = s.bdc.auto.filter (fun x => decide (x.service ≠ new.plan.number)) ∧
      ((∃ x ∈ s.bdc.auto, x.service = new.plan.number) → Queued .messages t) ∧
      ((∀ x ∈ s.bdc.auto, x.service ≠ new.plan.number) → QueueOrdered s → ∀ a, (s.bdc.profiles.get a).kind = .messages →
        t.bdc.queue.filter (fun e => e.panel == a) = s.bdc.queue.filter fun e => e.panel == a))) ∧
  (∀ (old new : Service) (q : Quote) (left : Nat) (s : State), s.hlk.notices.length = sourceCount →
     s.slc.slot = .quoted q left →
     let stops := (old.status = .scheduled ∨ old.status = .delayed) ∧
       ¬(new.status = .scheduled ∨ new.status = .delayed) ∧ q.bound.map (·.number) = some new.plan.number
     (stops → statusEvent s (old, new) =
       { s with
         slc.slot := .idle, slc.lastReason := some .service
         awu.timer := demandTimerOf (s.enm.table.get s.awu.demand), hlk.notices := raisedAt 6 s.hlk.notices }) ∧
     (¬stops → statusEvent s (old, new) = s)) ∧
  (∀ (old new : Service) (s : State), slotState s.slc.slot ≠ .quoted → statusEvent s (old, new) = s) ∧
  (∀ (old new : Service) (s : State),
     (¬(old.approach = false ∧ new.approach = true) → approachStart s (old, new) = s) ∧
     (old.approach = false → new.approach = true → approachStart s (old, new) =
       if (activity s).awu.config.approach = true ∧ resting (activity s).enm.present = true then
         wake .approach none (activity s)
       else activity s)) ∧
  (∀ (x : Sale) (left : Nat) (b : Bound) (t : CurrentTable) (s : State), Listens s → NumbersDistinct s →
     let w := atSales s
     w.slc.slot = .printing x left → 1 ≤ x.serial → x.serial ≤ 16777215 → x.quote.bound = some b →
     s.tts.current = some t →
     let u := conclude x .issued w
     Does (.salePrinted x.serial (.named .printed)) s 0xC2#8 (done (.concluded x.serial .issued)) u ∧
     SoldTold x b.number w u ∧
     (t.header.date ≠ x.date → u.tts = s.tts) ∧
     (t.header.date = x.date → u.tts = { s.tts with current := some { t with services := t.services.map fun y =>
       if y.plan.number = b.number then { y with sold := min 65535 (y.sold + x.quote.quantity) } else y } }))

/-! ### The tariff and the fare (R51 to R71) -/

/-- TARIFF-OPEN (R56): refused out of range with the pending tariff kept; else a fresh heading is LOADING.
TARIFF-STATION and TARIFF-RULES (R57, R58) load a LOADING tariff: a station at its place in code order, the rules when
no check of Table 4-6 fails. The ranges of a station's fields (R52, R57), and Table 4-6 in its order (R53 to R55, R58). -/
def Obligations.TariffOpensAndLoads : Prop :=
  (∀ (version : Nat) (date : Date) (s : State), Listens s →
     let w := atOwner s
     (¬(1 ≤ version ∧ version ≤ 65535 ∧ inSpan date = true) →
       Does (.tariffOpen version date) s 0xB0#8 (refuse .range .field) w) ∧
     (1 ≤ version ∧ version ≤ 65535 ∧ inSpan date = true →
       Does (.tariffOpen version date) s 0xB0#8 (done (.heading version date))
         { w with tfe.pending := some ⟨false, version, date, [], none⟩ })) ∧
  (∀ (code : Nat) (name : Text) (dist : Nat) (side : Direction) (rules : Rules) (s : State), Listens s →
     let w := atOwner s
     let add := Instr.tariffStation code name dist (.named side)
     (s.tfe.pending = none → Does add s 0xB1#8 (refuse .notReady .none) w ∧
       Does (.tariffRules rules) s 0xB2#8 (refuse .notReady .none) w) ∧
     ∀ p, s.tfe.pending = some p →
       (p.ready = true → Does add s 0xB1#8 (refuse .busy .none) w ∧
         Does (.tariffRules rules) s 0xB2#8 (refuse .busy .none) w) ∧
       (p.ready = false → stationInRange code name dist (.named side) = false →
         Does add s 0xB1#8 (refuse .range .field) w) ∧
       (p.ready = false → stationInRange code name dist (.named side) = true → (∃ x ∈ p.stations, x.code = code) →
         Does add s 0xB1#8 (refuse .range .duplicate) w) ∧
       (p.ready = false → stationInRange code name dist (.named side) = true → (∀ x ∈ p.stations, x.code ≠ code) →
         48 ≤ p.stations.length → Does add s 0xB1#8 (refuse .full .none) w) ∧
       (p.ready = false → stationInRange code name dist (.named side) = true → (∀ x ∈ p.stations, x.code ≠ code) →
         p.stations.length < 48 → ∃ before after : List Station, p.stations = before ++ after ∧
           (∀ x ∈ before, x.code < code) ∧ (∀ x, after.head? = some x → code ≤ x.code) ∧
           Does add s 0xB1#8 (done (.inserted before.length (p.stations.length + 1)))
             { w with tfe.pending := some { p with stations := before ++ ⟨code, name, dist, side⟩ :: after } }) ∧
       (p.ready = false → (∀ d, rulesRefusal rules = some d →
           Does (.tariffRules rules) s 0xB2#8 (refuse .range d) w) ∧
         (rulesRefusal rules = none → Does (.tariffRules rules) s 0xB2#8 (done .nothing)
           { w with tfe.pending := some { p with rules := some rules } }))) ∧
  (∀ (code : Nat) (name : Text) (dist : Nat) (side : Coded Direction), stationInRange code name dist side = true ↔
     1 ≤ code ∧ code ≤ 63 ∧ 1 ≤ name.length ∧ name.length ≤ 20 ∧ (∀ c ∈ name, 0x20 ≤ c.toNat ∧ c.toNat ≤ 0x7E) ∧
       1 ≤ dist ∧ dist ≤ 4000 ∧ ∃ d, side = .named d) ∧
  ∀ r : Rules,
    let ranges := 1 ≤ r.bands.length ∧ r.bands.length ≤ 4 ∧ (∀ b ∈ r.bands, 1 ≤ b.1 ∧ b.1 ≤ 4000 ∧ b.2 ≤ 65535) ∧
      r.boarding ≤ 5000 ∧ 1 ≤ r.fMin ∧ r.fMin ≤ 99990 ∧ 1 ≤ r.fMax ∧ r.fMax ≤ 99990 ∧ 1 ≤ r.cMax ∧ r.cMax ≤ 99990 ∧
      r.step ∈ [1, 2, 5, 10, 20, 50, 100] ∧ 100 ≤ r.returnFactor ∧ r.returnFactor ≤ 250 ∧ 100 ≤ r.openSingleFactor ∧
      r.openSingleFactor ≤ 150 ∧ 100 ≤ r.openReturnFactor ∧ r.openReturnFactor ≤ 300 ∧
      (∀ c, some c ∈ r.classes → c.discount ≤ 100) ∧ r.windows.length ≤ 4 ∧
      (∀ w ∈ r.windows, w.1 ≤ 1439 ∧ 1 ≤ w.2 ∧ w.2 ≤ 1440) ∧ r.surcharge ≤ 100
    let limits := (r.bands.map (·.1)).Pairwise (· < ·) ∧ r.bands.getLast?.map (·.1) = some 4000
    let windows := ∀ w ∈ r.windows, w.1 < w.2
    (¬ranges → rulesRefusal r = some .field) ∧
    (ranges → (¬limits → rulesRefusal r = some .bands) ∧
      (limits → (r.fMax < r.fMin → rulesRefusal r = some .floor) ∧
        (r.fMin ≤ r.fMax → (r.cMax % r.step ≠ 0 → rulesRefusal r = some .step) ∧
          (r.cMax % r.step = 0 → (r.cMax < r.fMin → rulesRefusal r = some .ceiling) ∧
            (r.fMin ≤ r.cMax → (¬windows → rulesRefusal r = some .window) ∧ (windows → rulesRefusal r = none))))))

/-- TARIFF-CLOSE (R59, R60): refused without stations or without rules; before its date the tariff is READY, from its
date on it is active at once, and no quote stands after it; its names event queues the DEPARTURES panels, and the MESSAGES
panels while the automatic list holds an entry (R60, R121). -/
def Obligations.TariffClosesAndActivates : Prop :=
  ∀ s : State, Listens s →
    let w := atOwner s
    (s.tfe.pending = none → Does .tariffClose s 0xB3#8 (refuse .notReady .none) w) ∧
    ∀ p, s.tfe.pending = some p →
      (p.stations = [] → Does .tariffClose s 0xB3#8 (refuse .notReady .stations) w) ∧
      (p.stations ≠ [] → p.rules = none → Does .tariffClose s 0xB3#8 (refuse .notReady .rules) w) ∧
      ∀ r, p.stations ≠ [] → p.rules = some r →
        ((∀ c, s.clock = some c → dateBefore c.date p.effective = true) →
          Does .tariffClose s 0xB3#8 (done (.tariffClosed false p.version (some p.effective) p.stations.length))
            { w with tfe.pending := some { p with ready := true } }) ∧
        ∀ c, s.clock = some c → dateBefore c.date p.effective = false →
          let u := activate ⟨p.version, p.effective, p.stations, r⟩ w
          Does .tariffClose s 0xB3#8 (done (.tariffClosed true p.version none p.stations.length)) u ∧
            Queued .departures u ∧ (w.bdc.auto ≠ [] → Queued .messages u) ∧
            u.tfe = ⟨some ⟨p.version, p.effective, p.stations, r⟩, none⟩ ∧ slotState u.slc.slot ≠ .quoted ∧
            u.clock = s.clock ∧ u.tts = s.tts ∧ u.sjn = s.sjn

/-- Every stage of the fare: the distance charge over the bands, half up (R66), the base between floor and ceiling (R67), the
type factor and the peak (R68), the concession, rounded down (R69), the step with its zero raise (R70); and stages 6 and 7
(R71): the fare is stage 5's result lowered to the ceiling, the total is n times it; a fare worked by accepted rules is a
multiple of the step, no greater than the ceiling, zero only for a discount of 100 percent, at most 99,990, with totals of at
most 899,910. That stage 2 gives one flag for the floor and one for the ceiling (R67, R72) is the model's choice (log 36).
The minutes of a ticket that are in peak (R65). -/
def Obligations.FareOnTheStepUnderTheCeiling : Prop :=
  (∀ (r : Rules) (d : Nat) (k : TicketType) (c : ClassRule) (n pk : Nat),
     let f := fareStages r d k c n pk
     let halved := fun x y : Nat => x / y + if y ≤ 2 * (x % y) then 1 else 0
     let single := r.boarding + f.charge
     let factor := match k with
       | .single => 100
       | .ret => r.returnFactor
       | .openSingle => r.openSingleFactor
       | .openReturn => r.openReturnFactor
     let odd := f.discounted % r.step
     let grid := if 2 * odd ≤ r.step then f.discounted - odd else f.discounted - odd + r.step
     f.product = ((r.bands.zip (0 :: r.bands.map (·.1))).map fun b => (min d b.1.1 - b.2) * b.1.2).sum ∧
     f.charge = halved f.product 1000 ∧ f.base = min r.fMax (max r.fMin single) ∧
     f.floorActed = decide (single < r.fMin) ∧ f.ceilingActed = decide (r.fMax < max r.fMin single) ∧
     f.typed = halved (f.base * factor * (100 + pk)) 10000 ∧ f.discounted = f.typed * (100 - c.discount) / 100 ∧
     f.stepped = (if grid = 0 ∧ c.discount < 100 then r.step else grid) ∧
     f.zeroRaised = decide (grid = 0 ∧ c.discount < 100) ∧ f.capActed = decide (r.cMax < f.stepped)) ∧
  (∀ (r : Rules) (d : Nat) (k : TicketType) (c : ClassRule) (n pk : Nat), rulesRefusal r = none → n ≤ 9 →
     let f := fareStages r d k c n pk
     f.fare = min f.stepped r.cMax ∧ f.total = n * f.fare ∧ f.fare % r.step = 0 ∧ f.fare ≤ r.cMax ∧
       (f.fare = 0 → 100 ≤ c.discount) ∧ f.fare ≤ 99990 ∧ f.total ≤ 899910) ∧
  ∀ (s : State) (r : Rules) (m : Nat), ticketInPeak s r m = true ↔
    ∃ t w, s.tts.current = some t ∧ t.header.dayType = .weekday ∧ w ∈ r.windows ∧ w.1 ≤ m ∧ m < w.2

/-! ### Sales (R73 to R91) -/

/-- SALE-QUOTE: a field out of range refuses it RANGE with FIELD; while sales are closed it is refused CLOSED with the
reasons (R76, R87). SALE-QUOTE (R76, R77): with sales open, no sale PRINTING and the type accepted, the selector binds the
next or the named eligible service, or none for an open ticket; the fare is worked at the bound service's minute or the
present one, in peak where the class is not exempt (R64, R65), and the slot is QUOTED with a fresh timer of 120 s, the demand
timer held (R166). It is judged on the state after its own activity, and a service number outside its range with NUMBER
alone: DEDUCED, log 26 and log 28. The ranges of its fields (R76). -/
def Obligations.QuotesWhileOpenOnly : Prop :=
  (∀ (code cls n : Nat) (k : TicketType) (sel : ServiceSel) (svc : Option Nat) (s : State), Listens s →
     let w := atSales s
     let ask := Instr.saleQuote code (.named k) cls n (.named sel) svc
     (quoteInRange code (.named k) cls n (.named sel) svc = false → Does ask s 0xC0#8 (refuse .range .field) w) ∧
     (quoteInRange code (.named k) cls n (.named sel) svc = true → salesOpen w = false →
       Does ask s 0xC0#8 ⟨.closed, .none, .reasons (salesReasons w)⟩ w)) ∧
  (∀ (code cls n : Nat) (k : TicketType) (sel : ServiceSel) (svc : Option Nat) (s : State), Listens s →
     let w := atSales s
     let ask := Instr.saleQuote code (.named k) cls n (.named sel) svc
     quoteInRange code (.named k) cls n (.named sel) svc = true → salesOpen w = true →
     (slotState w.slc.slot = .printing → Does ask s 0xC0#8 (refuse .busy .none) w) ∧
     (slotState w.slc.slot ≠ .printing → s.slc.types.get k = false →
       Does ask s 0xC0#8 (refuse .range .ticketType) w) ∧
     (slotState w.slc.slot ≠ .printing → s.slc.types.get k = true →
       (sel ≠ .openTicket ↔ (k = .openSingle ∨ k = .openReturn)) → Does ask s 0xC0#8 (refuse .range .binding) w) ∧
     ∀ t c, s.tfe.active = some t → s.clock = some c → slotState w.slc.slot ≠ .printing → s.slc.types.get k = true →
       (sel = .openTicket ↔ (k = .openSingle ∨ k = .openReturn)) →
       ((∀ x ∈ t.stations, x.code ≠ code) → Does ask s 0xC0#8 (refuse .unknown .station) w) ∧
       let used := fun c => (cls = 0 ∧ c = ⟨0, false⟩) ∨ (0 < cls ∧ t.rules.classes[cls - 1]? = some (some c))
       ((∃ x ∈ t.stations, x.code = code) → (∀ c, ¬used c) → Does ask s 0xC0#8 (refuse .range .cls) w) ∧
       ∀ x c', t.stations.find? (fun y => y.code == code) = some x → used c' →
         (sel = .next → nextService code w = none → Does ask s 0xC0#8 (refuse .noneLeft .none) w) ∧
         (∀ m, sel = .number → svc = some m →
           (namedService m code w = .unknown → Does ask s 0xC0#8 (refuse .unknown .service) w) ∧
           (namedService m code w = .noneLeft → Does ask s 0xC0#8 (refuse .noneLeft .none) w)) ∧
         ∀ b, ((sel = .openTicket ∧ b = none) ∨ (sel = .next ∧ b.isSome ∧ nextService code w = b) ∨
             (sel = .number ∧ ∃ m v, svc = some m ∧ b = some v ∧ namedService m code w = .found v)) →
           let peak := ticketInPeak w t.rules (b.elim (c.tod / 60) fun v => v.plan.minute) && !c'.exempt
           let f := fareStages t.rules x.distance k c' n (if peak then t.rules.surcharge else 0)
           let q : Quote := ⟨code, x.name, x.side, k, cls, n, b.map fun v => ⟨v.plan.number, v.plan.minute⟩, f.fare,
             f.total, peak, t.version⟩
           Does ask s 0xC0#8 (done (.quoted q 120 (b.map fun v => (v.plan.minute + v.delay, v.platform))))
             { w with
               slc.slot := .quoted q 120000, awu.timer := if w.slc.slot = .idle then .held else w.awu.timer }) ∧
  ∀ (code cls n : Nat) (k : Coded TicketType) (sel : Coded ServiceSel) (svc : Option Nat),
    quoteInRange code k cls n sel svc = true ↔ 1 ≤ code ∧ code ≤ 63 ∧ (∃ x, k = .named x) ∧ cls ≤ 7 ∧ 1 ≤ n ∧ n ≤ 9 ∧
      (∃ x, sel = .named x) ∧ (sel = .named .number → ∃ m, svc = some m ∧ 1 ≤ m ∧ m ≤ 9999)

/-- SALE-COMMIT (R81, R82): a reference out of range refuses it RANGE with FIELD; without a quote it is refused BUSY; with
one, by a payment that is not accepted, a full journal, closed sales and a bound service that is not eligible any more or not
of the minute quoted, in that order; else the slot is PRINTING under the next serial, a place is reserved, and the ticket
record is the reply. The thresholds are evaluated against the new free count (R100): JOURNAL-LOW and JOURNAL-FULL are raised
where armed, and each is armed exactly above its level. It is judged on the state after its own activity: DEDUCED, log 26. -/
def Obligations.CommitReservesAndPrints : Prop :=
  (∀ (k : Payment) (t : Text) (s : State), Listens s →
     ¬(t.length ≤ 16 ∧ ∀ c ∈ t, 0x20 ≤ c.toNat ∧ c.toNat ≤ 0x7E) →
     Does (.saleCommit (.named k) (some t)) s 0xC1#8 (refuse .range .field) (atSales s)) ∧
  (∀ (k : Payment) (ref : Option Text) (s : State), Listens s →
    let w := atSales s
    let buy := Instr.saleCommit (.named k) ref
    (∀ t, ref = some t → t.length ≤ 16 ∧ ∀ c ∈ t, 0x20 ≤ c.toNat ∧ c.toNat ≤ 0x7E) →
    (slotState w.slc.slot ≠ .quoted → Does buy s 0xC1#8 (refuse .busy .none) w) ∧
    ∀ q left c, w.slc.slot = .quoted q left →
      (s.slc.kinds.get k = false → Does buy s 0xC1#8 (refuse .range .payment) w) ∧
      (s.slc.kinds.get k = true → freeCount s = 0 → Does buy s 0xC1#8 (refuse .full .none) w) ∧
      (s.slc.kinds.get k = true → freeCount s ≠ 0 → salesOpen w = false →
        Does buy s 0xC1#8 ⟨.closed, .none, .reasons (salesReasons w)⟩ w) ∧
      (s.slc.kinds.get k = true → freeCount s ≠ 0 → s.clock = some c → salesOpen w = true →
        let stands := ∀ b, q.bound = some b → ∃ v, namedService b.number q.dest w = .found v ∧ v.plan.minute = b.minute
        (¬stands → Does buy s 0xC1#8 (refuse .noneLeft .none) (withdraw .service w)) ∧
        (stands →
          let u := (commit q c.date k ref w).1
          let free := freeCount u
          Does buy s 0xC1#8 (done (.ticket (ticketOf ⟨q, s.sjn.next, c.date, k, ref⟩))) u ∧
            (s.sjn.reserved = false → free = freeCount s - 1) ∧
            u.sjn.low = s.sjn.low ∧ u.sjn.lowArmed = decide (s.sjn.low < free) ∧ u.sjn.fullArmed = decide (0 < free) ∧
            (s.hlk.notices.length = sourceCount →
              (noticeAt u 5).pending = ((noticeAt w 5).pending || (s.sjn.lowArmed && decide (free ≤ s.sjn.low))) ∧
              (noticeAt u 3).pending = ((noticeAt w 3).pending || (s.sjn.fullArmed && decide (free = 0)))) ∧
            (Reason.journal ∈ salesReasons u ↔ free = 0) ∧ u.bdc.sales = (salesReasons u).head? ∧
            u.slc.slot = .printing ⟨q, s.sjn.next, c.date, k, ref⟩ 30000 ∧ u.sjn.reserved = true ∧
            u.sjn.next = s.sjn.next + 1 ∧ u.sjn.records = s.sjn.records ∧ u.sjn.lifetime = s.sjn.lifetime ∧
            u.clock = s.clock ∧ u.tts = s.tts ∧ u.tfe = s.tfe)))

/-- SALE-PRINTED with the held serial (R83, R86): the record is appended with its kind and completion time, counted takings
grow by the total, the slot is IDLE, and a SPOILED ticket or one without a bound service leaves every sold count alone (R49).
The completion time is the time of day on the sale's date, 86,400 more on the next date up to 97,199, and absent else; on a
date before the sale's it is free below 86,400: the model's choice (log 37). A serial 0 or above 16,777,215 is refused RANGE
with FIELD. SALE-PRINTED with another serial (R84): UNKNOWN from the next serial on, LATE below it with the kind of the
record that the journal holds for it, else RELEASED at or below the released-through serial. It is judged on the state after
its own activity: DEDUCED, log 26. -/
def Obligations.PrintResultsConcludeOrAreLate : Prop :=
  (∀ (serial : Nat) (o : PrintOutcome) (x : Sale) (left : Nat) (s : State), Listens s →
     let w := atSales s
     w.slc.slot = .printing x left → x.serial = serial → 1 ≤ serial → serial ≤ 16777215 →
     let kind : RecordKind := match o with | .printed => .issued | .spoiled => .spoiled
     ∃ u, Does (.salePrinted serial (.named o)) s 0xC2#8 (done (.concluded serial kind)) u ∧
       u.slc.slot = .idle ∧ u.sjn.records = s.sjn.records ++ [recordOf x kind (completionTime x.date s)] ∧
       u.sjn.reserved = false ∧ u.sjn.next = s.sjn.next ∧
       (∀ k, u.sjn.lifetime.get k =
         s.sjn.lifetime.get k + if k = x.payment ∧ o = .printed then x.quote.total else 0) ∧
       u.clock = s.clock ∧ u.tfe = s.tfe ∧ (o = .spoiled ∨ x.quote.bound = none → u.tts = s.tts)) ∧
  (∀ (serial : Nat) (o : PrintOutcome) (s : State), Listens s →
     let w := atSales s
     1 ≤ serial → serial ≤ 16777215 → (∀ x left, w.slc.slot = .printing x left → x.serial ≠ serial) →
     (s.sjn.next ≤ serial → Does (.salePrinted serial (.named o)) s 0xC2#8 (refuse .unknown .none) w) ∧
     (serial < s.sjn.next →
       let late := fun x => Does (.salePrinted serial (.named o)) s 0xC2#8 ⟨.late, .none, .standing (some x)⟩ w
       (∀ before r after, s.sjn.records = before ++ r :: after → r.serial = serial →
         (∀ y ∈ before, y.serial ≠ serial) → late (.kind r.kind)) ∧
       ((∀ r ∈ s.sjn.records, r.serial ≠ serial) → serial ≤ s.sjn.released → late .released))) ∧
  (∀ (serial : Nat) (o : PrintOutcome) (s : State), Listens s → serial = 0 ∨ 16777215 < serial →
     Does (.salePrinted serial (.named o)) s 0xC2#8 (refuse .range .field) (atSales s)) ∧
  ∀ (date : Date) (s : State), (s.clock = none → completionTime date s = none) ∧
    ∀ c, s.clock = some c →
      (c.date = date → completionTime date s = some c.tod) ∧
      (c.date = nextDate date →
        completionTime date s = if 86400 + c.tod ≤ 97199 then some (86400 + c.tod) else none) ∧
      (dateBefore (nextDate date) c.date = true → completionTime date s = none) ∧
      (dateBefore c.date date = true → ∀ n, completionTime date s = some n → n < 86400)

/-- SALE-CANCEL (R80): QUOTED returns to IDLE with no reason recorded and no notice, and the demand timer runs with its
full timeout again (R166); PRINTING is refused BUSY. SALE-STATUS (R91) and SALE-SETTINGS (R75) answer what is stored. The
SALE-* requests but SALE-SETTINGS are judged on the state after their own activity: DEDUCED, log 26. -/
def Obligations.CancelStatusAndSettings : Prop :=
  ∀ s : State, Listens s →
    let w := atSales s
    (slotState w.slc.slot = .printing → Does .saleCancel s 0xC3#8 (refuse .busy .none) w) ∧
    (slotState w.slc.slot = .quoted → Does .saleCancel s 0xC3#8 (done (.slot .idle))
      { w with slc.slot := .idle, awu.timer := demandTimerOf (w.enm.table.get w.awu.demand) }) ∧
    (slotState w.slc.slot = .idle → Does .saleCancel s 0xC3#8 (done (.slot .idle)) w) ∧
    Does .saleStatus s 0xC4#8
      (done (.saleStatus (slotReport w.slc.slot) (salesReasons w).isEmpty (salesReasons w) (salesReasons w).head?
        w.slc.hostClosed w.slc.lastReason)) w ∧
    ∀ (kinds : Option (List Payment)) (types : Option (List TicketType)),
      let newKinds := kinds.elim s.slc.kinds kindSet
      let newTypes := types.elim s.slc.types typeSet
      Does (.saleSettings (kinds.map (·.map .named)) (types.map (·.map .named))) s 0xC7#8
        (done (.saleSettings newKinds newTypes)) { atOwner s with slc.kinds := newKinds, slc.types := newTypes }

/-- SALES-CLOSE and SALES-OPEN (R88): the host close flag; where the open state or the first reason has changed a sales event,
which the Board Composer keeps for the sales page and which queues the SALES panels, urgently for a change of the open state
(R87, R119, R121); a quote withdrawn with reason CLOSED and QUOTE-WITHDRAWN raised (R79), the demand timer running with its full
timeout again (R166); a PRINTING sale left alone; and the open state with the reasons after the request. The reasons of
Table 5-5, in its order, each exactly where its condition holds; sales are open when there is none (R87). -/
def Obligations.HostClosesAndOpensSales : Prop :=
  (∀ s : State, Listens s →
     let w := atOwner s
     let state := fun u => done (.salesState (salesReasons u).isEmpty (salesReasons u))
     let told := fun (v : State) (q : List QueueEntry) => { v with bdc.sales := firstReason v, bdc.queue := q }
     let asked := fun (v : State) (q : List QueueEntry) =>
       (firstReason v = v.bdc.sales → q = v.bdc.queue) ∧ (QueueOrdered v → q = salesQueue v)
     (∃ q, let v := { w with slc.hostClosed := true }
       let u := told v q
       let withdrawn := { u with
         slc.slot := .idle, slc.lastReason := some .closed, awu.timer := demandTimerOf (w.enm.table.get w.awu.demand)
         hlk.notices := raisedAt 6 w.hlk.notices }
       asked v q ∧ Reason.host ∈ salesReasons u ∧
         (slotState w.slc.slot = .quoted → Does .salesClose s 0xC5#8 (state withdrawn) withdrawn) ∧
         (slotState w.slc.slot ≠ .quoted → Does .salesClose s 0xC5#8 (state u) u)) ∧
     ∃ q, let v := { w with slc.hostClosed := false }
       let u := told v q
       asked v q ∧ Reason.host ∉ salesReasons u ∧ Does .salesOpen s 0xC6#8 (state u) u) ∧
  ∀ s : State,
    (salesReasons s).Sublist [.clock, .tariff, .journal, .level, .host, .serials] ∧
      (salesOpen s = true ↔ salesReasons s = []) ∧ (Reason.clock ∈ salesReasons s ↔ s.clock = none) ∧
      (Reason.tariff ∈ salesReasons s ↔ s.tfe.active = none) ∧
      (Reason.journal ∈ salesReasons s ↔ 2048 ≤ s.sjn.records.length + if s.sjn.reserved then 1 else 0) ∧
      (Reason.level ∈ salesReasons s ↔ s.enm.present = .el4 ∨ s.enm.present = .el5 ∨
        s.enm.transition = .lowering .el4 ∨ s.enm.transition = .lowering .el5) ∧
      (Reason.host ∈ salesReasons s ↔ s.slc.hostClosed = true) ∧
      (Reason.serials ∈ salesReasons s ↔ 16777215 < s.sjn.next)

/-- The quote timer withdraws a quote with reason EXPIRY (R78) and the print timer concludes a sale UNCONFIRMED with
PRINT-TIMEOUT, and adds to the sold count of its service where the table is of its date (R85, R49), which of a CANCELLED
service is told to the Board Composer (R117); neither touches a slot in another state. The completion time on a date before
the sale's is free (log 37). An event whose cause does not stand changes nothing: the model's choice (log 4). -/
def Obligations.SaleTimersExpire : Prop :=
  ∀ s : State, s.power = .on → s.hlk.notices.length = sourceCount →
    (∀ q left, s.slc.slot = .quoted q left → ∃ u, Happens .quoteTimerExpiry s u ∧ u.slc.slot = .idle ∧
      u.slc.lastReason = some .expiry ∧ (noticeOf u .quoteWithdrawn).pending = true ∧ u.sjn = s.sjn) ∧
    (slotState s.slc.slot ≠ .quoted → Happens .quoteTimerExpiry s s) ∧
    (∀ x left, s.slc.slot = .printing x left → let u := printExpiry s
      Happens .printTimerExpiry s u ∧ u.slc.slot = .idle ∧
      u.sjn.records = s.sjn.records ++ [recordOf x .unconfirmed (completionTime x.date s)] ∧
      u.sjn.reserved = false ∧ (noticeOf u .printTimeout).pending = true ∧
      (∀ k, u.sjn.lifetime.get k = s.sjn.lifetime.get k + if k = x.payment then x.quote.total else 0) ∧
      (x.quote.bound = none ∨ s.tts.current = none → u.tts = s.tts ∧ u.bdc = s.bdc) ∧
      ∀ b t, x.quote.bound = some b → s.tts.current = some t → NumbersDistinct s →
        SoldTold x b.number s u ∧
        (t.header.date ≠ x.date → u.tts = s.tts) ∧
        (t.header.date = x.date → u.tts = { s.tts with current := some { t with services := t.services.map fun y =>
          if y.plan.number = b.number then { y with sold := min 65535 (y.sold + x.quote.quantity) } else y } })) ∧
    (slotState s.slc.slot ≠ .printing → Happens .printTimerExpiry s s)

/-! ### The journal (R94 to R107) -/

/-- JOURNAL-READ (R102): out of range refused; NONE where no record is at or above the serial; else the records
returned, are as many whole ones, oldest first, as the count and the body admit, and only they are marked handed out.
-/
def Obligations.JournalReadHandsOut : Prop :=
  ∀ (from' count : Nat) (s : State), Listens s →
    let w := atOwner s
    (¬(1 ≤ from' ∧ from' ≤ 16777215 ∧ 1 ≤ count ∧ count ≤ 8) →
      Does (.journalRead from' count) s 0xD0#8 (refuse .range .field) w) ∧
    (1 ≤ from' ∧ from' ≤ 16777215 ∧ 1 ≤ count ∧ count ≤ 8 →
      ∃ l : List JRecord, l <+: s.sjn.records.filter (fun r => decide (from' ≤ r.serial)) ∧ l.length ≤ count ∧
        (l.map fun r => (recordBytes r).length).sum ≤ 243 ∧
        (∀ r rest, s.sjn.records.filter (fun r => decide (from' ≤ r.serial)) = l ++ r :: rest → l.length = count ∨
          243 < (l.map fun r => (recordBytes r).length).sum + (recordBytes r).length) ∧
        (l = [] → Does (.journalRead from' count) s 0xD0#8 
          ⟨.noneLeft, .none, .noRecords (newestSerial s) s.sjn.records.length⟩ w) ∧
        (l ≠ [] → Does (.journalRead from' count) s 0xD0#8
          (done (.records l (newestSerial s) s.sjn.records.length))
          { w with sjn.records := s.sjn.records.map fun r =>
              if r.serial ∈ l.map (·.serial) then { r with handed := true } else r }))

/-- JOURNAL-RELEASE (R103, R104): at or below the released-through serial nothing changes, and the reply's sums are 0 (the
model's choice, log 36); a record not handed out or a serial beyond the newest refuses it; else the records through the
serial leave and their counted fares are released. JOURNAL-SETTINGS (R101): above 512 refused; a threshold is stored,
JOURNAL-LOW raised where armed at or below it, and armed again below the free count; with no field nothing changes. Both
thresholds are evaluated against the new free count (R100), and JOURNAL-FULL is armed again by a release, and raised where it
is armed at a free count of 0. -/
def Obligations.JournalReleasesAndThresholds : Prop :=
  (∀ (n : Nat) (s : State), Listens s →
     let w := atOwner s
     let gone := s.sjn.records.filter fun r => decide (r.serial ≤ n)
     (16777215 < n → Does (.journalRelease n) s 0xD1#8 (refuse .range .field) w) ∧ (n ≤ 16777215 →
     (n ≤ s.sjn.released → Does (.journalRelease n) s 0xD1#8
       (done (.released 0 ⟨0, 0, 0⟩ s.sjn.released s.sjn.records.length (freeCount s))) w) ∧
     (∀ before r after, s.sjn.released < n → gone = before ++ r :: after → (∀ x ∈ before, x.handed = true) →
       r.handed = false → Does (.journalRelease n) s 0xD1#8 ⟨.range, .handed,
         .releaseRefused (some r.serial) s.sjn.released s.sjn.records.length (freeCount s)⟩ w) ∧
     (s.sjn.released < n → (∀ r ∈ gone, r.handed = true) → (∀ m, newestSerial s = some m → m < n) →
       Does (.journalRelease n) s 0xD1#8 ⟨.range, .beyond,
         .releaseRefused (newestSerial s) s.sjn.released s.sjn.records.length (freeCount s)⟩ w) ∧
     (s.sjn.released < n → (∀ r ∈ gone, r.handed = true) → (∃ m, newestSerial s = some m ∧ n ≤ m) →
       ∃ u, Does (.journalRelease n) s 0xD1#8
           (done (.released gone.length (PerPayment.build fun k => faresOf k gone) n u.sjn.records.length (freeCount u)))
           u ∧
         u.sjn.records = s.sjn.records.filter (fun r => decide (n < r.serial)) ∧ u.sjn.released = n ∧
         (∀ k, u.sjn.handedBack.get k = s.sjn.handedBack.get k + faresOf k gone) ∧
         u.sjn.lowArmed = decide (s.sjn.low < freeCount u) ∧ u.sjn.fullArmed = decide (0 < freeCount u) ∧
         u.sjn.lifetime = s.sjn.lifetime ∧ u.sjn.next = s.sjn.next ∧ u.slc.slot = w.slc.slot))) ∧
  (∀ (n : Nat) (s : State), Listens s → s.hlk.notices.length = sourceCount →
     let w := atOwner s
     (512 < n → Does (.journalSettings (some n)) s 0xD3#8 (refuse .range .field) w) ∧
     (n ≤ 512 → ∃ u, Does (.journalSettings (some n)) s 0xD3#8
         (done (.journalSettings n (freeCount s) u.sjn.lowArmed u.sjn.fullArmed)) u ∧ u.sjn.low = n ∧
       u.sjn.lowArmed = decide (n < freeCount s) ∧
       (s.sjn.lowArmed = true → freeCount s ≤ n → (noticeOf u .journalLow).pending = true) ∧
       u.sjn.fullArmed = decide (0 < freeCount s) ∧
       (s.sjn.fullArmed = true → freeCount s = 0 → (noticeOf u .journalFull).pending = true) ∧
       u.sjn.records = s.sjn.records ∧ u.sjn.next = s.sjn.next) ∧
     Does (.journalSettings none) s 0xD3#8
       (done (.journalSettings s.sjn.low (freeCount s) s.sjn.lowArmed s.sjn.fullArmed)) w)

/-! ### The boards (R110 to R127) -/

/-- PANEL-PROFILE (R111, R112, R130, R137): an address or field out of range refuses it; rows are clamped; PRESENT from
ABSENT makes the panel UNKNOWN and queued; a changed profile of a PRESENT panel queues it; ABSENT from PRESENT removes its
entry, page and record, and ends its transaction, at the frame on the line where one is, at once where none is: DEDUCED for
the rail settle, log 31. That the reply to a request without a profile field carries a clear clamped flag is the model's
choice (log 36). -/
def Obligations.PanelProfileStored : Prop :=
  ∀ (n : Nat) (pr : Option Bool) (k : Option PanelKind) (rows : Option Nat) (fl : Option DirFilter) (th : Option Nat)
    (s : State), Listens s →
    let w := atOwner s
    let c := Instr.panelProfile n (pr.map .named) (k.map .named) rows (fl.map .named) th
    (panelOf n = none ∨ (∃ m, th = some m ∧ 10 < m) → Does c s 0xE0#8 (refuse .range .field) w) ∧
    ∀ a, panelOf n = some a → (∀ m, th = some m → m ≤ 10) →
      let old := s.bdc.profiles.get a
      let kept := fun r : Nat => if r < 1 then 1 else if 8 < r then 8 else r
      let p : Profile := ⟨pr.getD old.isPresent, k.getD old.kind, (rows.map kept).getD old.rows, fl.getD old.filter,
        th.getD old.threshold⟩
      let stored := { w with bdc.profiles := s.bdc.profiles.set a p }
      let queued := if w.bdc.queue.any fun e => e.panel == a then w.bdc.queue else w.bdc.queue ++ [⟨a, false⟩]
      let gone := { stored with
        bdc.queue := w.bdc.queue.filter (fun e => !(e.panel == a)), bdc.composed := w.bdc.composed.set a none
        plc.panels := w.plc.panels.set a ⟨.absent, none, none, none, none, 0, 0, false, none⟩ }
      let answers := Does c s 0xE0#8 (done (.profile p (rows.any fun r => kept r != r)))
      (old.isPresent = p.isPresent → p = old ∨ p.isPresent = false → answers stored) ∧
      (old.isPresent = true → p.isPresent = true → p ≠ old → answers { stored with bdc.queue := queued }) ∧
      (old.isPresent = false → p.isPresent = true → answers
        { stored with
          plc.panels := w.plc.panels.set a ⟨.unknown, none, none, none, none, 0, 0, true, none⟩, bdc.queue := queued }) ∧
      (old.isPresent = true → p.isPresent = false →
        ((∀ t, w.plc.line = some t → t.panel ≠ a) → answers gone) ∧
        ∀ t, w.plc.line = some t → t.panel = a →
          (t.phase.awaits = true → answers { gone with plc.line := some { t with discarded := true } }) ∧
          (t.phase.awaits = false → answers { gone with plc := freedLine gone.plc }))

/-- BOARD-TEXT (R115): an entry of its id is replaced, a list below 8 grows, a full list loses its NORMAL entry of the
lowest arrival number, and a list of 8 URGENT entries refuses FULL; the new entry takes the next arrival number.
BOARD-TEXT-DROP (R116) removes the named entry, or all. A placed entry queues each PRESENT MESSAGES panel, urgent where it is
URGENT; a removal queues each of them, ordinary; a drop of nothing queues none, and a refusal changes nothing (R121). With
both lists empty the rotation position is none, also where the last entry has left by its id (R118; DEDUCED, log 18). The
ranges of BOARD-TEXT's fields (R115, R179). -/
def Obligations.HostMessagesPlaced : Prop :=
  ∀ (id : Nat) (p : MsgPriority) (lines : List Text) (expiry : Option Nat) (s : State), Listens s →
    let w := atOwner s
    let c := Instr.boardText id (.named p) lines expiry
    let e : HostEntry := ⟨id, p, lines, expiry, s.bdc.arrivals + 1⟩
    let live := ∀ m now, expiry = some m → nowMinute s = some now → now < m
    let shows := fun a => (s.bdc.profiles.get a).isPresent && (s.bdc.profiles.get a).kind == .messages
    let ordinary := ([Addr.p1, .p2, .p3, .p4].filter shows).foldl (init := w.bdc.queue) fun q a =>
      if q.any fun e => e.panel == a then q else q ++ [⟨a, false⟩]
    let queued := fun u : State => (p = .normal → u.bdc.queue = ordinary) ∧
      (p = .urgent → ∀ a, (shows a = true → ∃ e ∈ u.bdc.queue, e.panel = a ∧ e.urgent = true) ∧
        (shows a = false → QueueOrdered w →
          u.bdc.queue.filter (fun e => e.panel == a) = w.bdc.queue.filter fun e => e.panel == a))
    let position := fun u : State =>
      u.bdc.position = if u.bdc.host = [] ∧ u.bdc.auto = [] then none else w.bdc.position
    (messageInRange id (.named p) lines expiry = true ↔ 1 ≤ id ∧ id ≤ 255 ∧ 1 ≤ lines.length ∧ lines.length ≤ 4 ∧
      (∀ l ∈ lines, l.length ≤ 24 ∧ ∀ c ∈ l, 0x20 ≤ c.toNat ∧ c.toNat ≤ 0x7E) ∧ ∀ m, expiry = some m → m ≤ 1439) ∧
    (messageInRange id (.named p) lines expiry = false → Does c s 0xE1#8 (refuse .range .field) w) ∧
    (messageInRange id (.named p) lines expiry = true →
      (¬live → Does c s 0xE1#8 (refuse .range .expired) w) ∧
      (live → (∃ x ∈ s.bdc.host, x.id = id) → ∃ u, Does c s 0xE1#8 (done (.message true none u.bdc.host.length)) u ∧
        u.bdc.host = s.bdc.host.filter (fun x => !(x.id == id)) ++ [e] ∧ u.bdc.arrivals = s.bdc.arrivals + 1 ∧
        u.bdc.auto = s.bdc.auto ∧ queued u) ∧
      (live → (∀ x ∈ s.bdc.host, x.id ≠ id) → s.bdc.host.length < 8 →
        ∃ u, Does c s 0xE1#8 (done (.message false none (s.bdc.host.length + 1))) u ∧
          u.bdc.host = s.bdc.host ++ [e] ∧ u.bdc.arrivals = s.bdc.arrivals + 1 ∧ u.bdc.auto = s.bdc.auto ∧
          queued u) ∧
      (live → (∀ x ∈ s.bdc.host, x.id ≠ id) → 8 ≤ s.bdc.host.length → (∀ x ∈ s.bdc.host, x.priority = .urgent) →
        Does c s 0xE1#8 (refuse .full .none) w) ∧
      (live → ∀ d ∈ s.bdc.host, (∀ x ∈ s.bdc.host, x.id ≠ id) → 8 ≤ s.bdc.host.length → d.priority = .normal →
        (∀ x ∈ s.bdc.host, x ≠ d → x.arrival ≠ d.arrival) →
        (∀ x ∈ s.bdc.host, x.priority = .normal → d.arrival ≤ x.arrival) →
        ∃ u, Does c s 0xE1#8 (done (.message false (some d.id) u.bdc.host.length)) u ∧
          u.bdc.host = s.bdc.host.filter (fun x => !(x.arrival == d.arrival)) ++ [e] ∧
          u.bdc.arrivals = s.bdc.arrivals + 1 ∧ u.bdc.auto = s.bdc.auto ∧ queued u)) ∧
    (¬(1 ≤ id ∧ id ≤ 255) → Does (.boardTextDrop (some id)) s 0xE2#8 (refuse .range .field) w) ∧
    (1 ≤ id ∧ id ≤ 255 → ∃ u, Does (.boardTextDrop (some id)) s 0xE2#8
        (done (.removed (s.bdc.host.filter fun x => x.id == id).length)) u ∧
      u.bdc.host = s.bdc.host.filter (fun x => !(x.id == id)) ∧ u.bdc.auto = s.bdc.auto ∧ position u ∧
      u.bdc.queue = if s.bdc.host.any fun x => x.id == id then ordinary else w.bdc.queue) ∧
    ∃ u, Does (.boardTextDrop none) s 0xE2#8 (done (.removed s.bdc.host.length)) u ∧ u.bdc.host = [] ∧
      u.bdc.auto = s.bdc.auto ∧ position u ∧ u.bdc.queue = if s.bdc.host = [] then w.bdc.queue else ordinary

/-- BOARD-REFRESH (R120, R121): without an address every PRESENT panel is requested in ascending address, and each has one
entry after it. Of one panel: refused out of range and for an ABSENT panel; else the panel has one entry, urgent where it was
urgent or the request is, and every other panel's entry keeps its flag and its order. A new or upgraded urgent entry comes at
the end of the urgent group, a new ordinary one at the end of the queue. The reply's queue is the one before serving: the
model's choice (log 19). -/
def Obligations.RefreshRequestsQueue : Prop :=
  ∀ (n : Nat) (urgent : Bool) (s : State), Listens s →
    let w := atOwner s
    let c := Instr.boardRefresh (some n) (.named urgent)
    (∃ q, Does (.boardRefresh none (.named urgent)) s 0xE3#8 (done (.queue q)) { w with bdc.queue := q } ∧
      (∀ a, (s.bdc.profiles.get a).isPresent = true → ∃ e ∈ q, e.panel = a ∧ (urgent = true → e.urgent = true)) ∧
      (QueueOrdered w → (q.map (·.panel)).Nodup ∧
        q = ([Addr.p1, .p2, .p3, .p4].filter fun a => (s.bdc.profiles.get a).isPresent).foldl
          (fun q a => placedEntry a urgent q) w.bdc.queue)) ∧
    (panelOf n = none → Does c s 0xE3#8 (refuse .range .field) w) ∧
    ∀ a, panelOf n = some a →
      ((s.bdc.profiles.get a).isPresent = false → Does c s 0xE3#8 (refuse .unknown .panel) w) ∧
      ((s.bdc.profiles.get a).isPresent = true →
        ∃ q, Does c s 0xE3#8 (done (.queue q)) { w with bdc.queue := q } ∧
          (QueueOrdered w → q = placedEntry a urgent w.bdc.queue ∧
            q.filter (fun e => !(e.panel == a)) = w.bdc.queue.filter (fun e => !(e.panel == a)) ∧
            q.filter (fun e => e.panel == a) = [⟨a, urgent || w.bdc.queue.any fun e => e.panel == a && e.urgent⟩]))

/-- What a page holds when it is composed (R113, R114, R117 to R119), over the display order and the displayable messages
(R28, R118), and the services a sale can be bound to (R29). The lamp duty after a minute event (R127).
That the rotation position is an arrival number is the model's reading (DEDUCED, log 18). -/
def Obligations.PagesOrdersAndTheLamp : Prop :=
  (∀ (s : State), (s.clock = none ∨ s.tts.current = none → displayOrder s = []) ∧
     ∀ c t, s.clock = some c → s.tts.current = some t →
       let now := c.tod / 60
       (displayOrder s).Perm (t.services.filter fun v =>
         decide (v.status = .scheduled ∨ v.status = .delayed ∨
           (v.status = .cancelled ∧ now < v.plan.minute + s.tts.grace))) ∧
       (displayOrder s).Pairwise (fun a b =>
         a.plan.minute + a.delay < b.plan.minute + b.delay ∨ (a.plan.minute + a.delay = b.plan.minute + b.delay ∧
           (a.plan.minute < b.plan.minute ∨ (a.plan.minute = b.plan.minute ∧ a.plan.number ≤ b.plan.number)))) ∧
       ∀ code, let fits := fun v : Service => (v.status = .scheduled ∨ v.status = .delayed) ∧ code ∈ v.plan.calls ∧
           now + s.tts.margin ≤ v.plan.minute + v.delay
         (∀ v, nextService code s = some v ↔ ∃ before after, displayOrder s = before ++ v :: after ∧ fits v ∧
           ∀ x ∈ before, ¬fits x) ∧
         (nextService code s = none ↔ ∀ x ∈ displayOrder s, ¬fits x) ∧
         ∀ n, (currentService s n = none → namedService n code s = .unknown) ∧
           ∀ v, currentService s n = some v →
             (fits v → namedService n code s = .found v) ∧ (¬fits v → namedService n code s = .noneLeft)) ∧
  (∀ (p : Profile) (s : State), p.kind = .departures →
     let note := fun t : String => Page.departures [⟨[], t.toList, none, []⟩]
     let name := fun code => match s.tfe.active.bind fun t => t.stations.find? fun x => x.code == code with
       | some x => x.name
       | none => decimal code
     let row := fun v : Service => (⟨clockReading v.plan.minute, name ((v.plan.calls.getLast?).getD 0),
       some (v.platform, v.altered),
       if v.approach then "APPROACHING".toList else if v.status = .cancelled then "CANCELLED".toList
       else if p.threshold ≤ v.delay then "Exp ".toList ++ clockReading (v.plan.minute + v.delay)
       else "On time".toList⟩ : DepartureRow)
     let services := ((displayOrder s).filter fun v => passes p.filter v.plan.direction).take p.rows
     (s.clock = none → composePage p s = note "Information unavailable") ∧
     (s.clock.isSome → s.tts.current = none → composePage p s = note "Timetable unavailable") ∧
     (s.clock.isSome → s.tts.current.isSome →
       (services = [] → composePage p s = note "No further departures") ∧
       (services ≠ [] → composePage p s = .departures (services.map row)))) ∧
  (∀ (p : Profile) (s : State), p.kind = .messages →
     let before := fun a b : Message => (a.urgent = true ∧ b.urgent = false) ∨ (a.urgent = b.urgent ∧ b.arrival ≤ a.arrival)
     let lines := fun m : Message => match m with
       | .host e => e.lines
       | .auto e => ["Tickets for the ".toList ++ clockReading e.minute, "to ".toList ++ stationName s e.terminus,
           "accepted on the".toList, "next service".toList]
     (displayable s).Perm (s.bdc.host.map .host ++ s.bdc.auto.map .auto) ∧ (displayable s).Pairwise before ∧
     (displayable s = [] → composePage p s = .messages []) ∧
     (∀ l m r, displayable s = l ++ m :: r → s.bdc.position = some m.arrival → (∀ x ∈ l, x.arrival ≠ m.arrival) →
       composePage p s = .messages ((lines m).take p.rows)) ∧
     ∀ m r, displayable s = m :: r → (∀ n, s.bdc.position = some n → ∀ x ∈ displayable s, x.arrival ≠ n) →
       composePage p s = .messages ((lines m).take p.rows)) ∧
  (∀ (p : Profile) (s : State), p.kind = .sales →
     (s.bdc.sales = none → composePage p s = .sales ["Tickets on sale here".toList]) ∧
     ∀ r, s.bdc.sales = some r → composePage p s = .sales ["Ticket machine closed".toList,
       match r with
       | .clock => "Clock not set".toList
       | .tariff => "Fares not available".toList
       | .journal => "Sales record full".toList
       | .level => "Touch screen to start".toList
       | .host => "Out of service".toList
       | .serials => "Out of service".toList]) ∧
  ∀ (s : State) (c : ClockSetting), s.power = .on → s.clock = some c → c.tod < 86399 → (c.tod + 1) % 60 = 0 →
    let m := (c.tod + 1) / 60
    let u := minuteEvent ⟨c.date, m, .count⟩ { s with clock := some { c with tod := c.tod + 1, phase := 0 } }
    let duty := (s.enm.table.get s.enm.present).lamp
    Happens .clockSecond s u ∧
    (s.enm.present = .ela ∨ s.tts.current = none → u.bdc.lamp = duty) ∧
    ∀ t, s.tts.current = some t → s.enm.present ≠ .ela →
      u.bdc.lamp = if t.header.darkFrom ≤ m ∨ m < t.header.darkUntil then
        duty else 0

/-- The accrual timer (R122) adds a credit below the depth and restarts; the rotation timer (R118) moves the position to the
next displayable message, or the first, restarts with the period of the level, and queues the MESSAGES panels. An event whose
cause does not stand changes nothing: the model's choice (log 4). Serving (R123, R124): the first entry whose panel is READY
and that the serving level permits, with a credit and the line free, leaves the queue and its page is composed; equal to the
shown page it costs nothing and starts nothing, else a refresh with it takes the line, unless the panel is below −15 °C and
becomes COLD (R133). A due probe goes first. By log 5 serving comes of itself in a run: once the urgent-entry condition and
the cold flag are reported, every command whose own rule leaves such a state brings it about, so that no run reaches a state
in which the row finds an entry. In the same way the rotation timer starts with the period of the level when its condition
comes to hold, and stops when it ceases to (R118). That the position is an arrival number is the model's reading (DEDUCED,
log 18). -/
def Obligations.BoardTimersAndServing : Prop :=
  (∀ s : State, s.power = .on →
    (∀ left, s.bdc.accrual = some left → Happens .accrualTimerExpiry s
      { s with
        bdc.credit := if s.bdc.credit < (presentEntry s).depth then s.bdc.credit + 1 else s.bdc.credit
        bdc.accrual := if (presentEntry s).rate = 0 then none else some (3600 / (presentEntry s).rate * 1000) }) ∧
    (s.bdc.accrual = none → Happens .accrualTimerExpiry s s) ∧
    (∀ left, s.bdc.rotation = some left →
      let next := rotatedPosition s
      let period := (presentEntry s).rotation
      let shows := fun a => (s.bdc.profiles.get a).isPresent && (s.bdc.profiles.get a).kind == .messages
      Happens .rotationTimerExpiry s
        { s with
          bdc.position := next
          bdc.rotation :=
            if 0 < period ∧ 2 ≤ s.bdc.host.length + s.bdc.auto.length ∧ [Addr.p1, .p2, .p3, .p4].any shows then
              some (period * 1000)
            else none
          bdc.queue := ([Addr.p1, .p2, .p3, .p4].filter shows).foldl (init := s.bdc.queue) fun q a =>
            if q.any fun e => e.panel == a then q else q ++ [⟨a, false⟩] } ∧
      (∀ before m follow after, displayable s = before ++ m :: follow :: after → s.bdc.position = some m.arrival →
        (∀ x ∈ before, x.arrival ≠ m.arrival) → next = some follow.arrival) ∧
      (∀ before m, displayable s = before ++ [m] → s.bdc.position = some m.arrival →
        (∀ x ∈ before, x.arrival ≠ m.arrival) → next = (displayable s).head?.map Message.arrival) ∧
      ((∀ n, s.bdc.position = some n → ∀ x ∈ displayable s, x.arrival ≠ n) →
        next = (displayable s).head?.map Message.arrival)) ∧
    (s.bdc.rotation = none → Happens .rotationTimerExpiry s s)) ∧
  (∀ s : State, s.power = .on →
    let level := match s.enm.transition with | .lowering d => d | _ => s.enm.present
    let ready := fun e : QueueEntry => (panelAt s e.panel).link = .ready ∧ (level = .el4 → e.urgent = true) ∧
      (level = .el5 → e.urgent = true ∧ s.awu.brief = true)
    (∀ before e after, s.bdc.queue = before ++ e :: after → (∀ x ∈ before, ¬ready x) → ready e → 1 ≤ s.bdc.credit →
      s.plc.line = none → (s.plc.mode = .off ∨ ∀ a, (panelAt s a).probeDue = false) →
      let profile := s.bdc.profiles.get e.panel
      let page := composePage profile s
      let p := panelAt s e.panel
      let v := { s with
        bdc.queue := s.bdc.queue.filter fun x => !(x.panel == e.panel)
        bdc.composed := s.bdc.composed.set e.panel (some page)
        bdc.position := if profile.kind = .messages then (shownMessage s).map Message.arrival else s.bdc.position }
      let take := fun ph => some (⟨e.panel, .refresh ⟨page, p.next, false, 0, 0⟩, ph, false⟩ : Transaction)
      let begun := { v with plc.panels := s.plc.panels.set e.panel { p with attempts := 0 }, plc.idle := none }
      let comes := fun u => Happens .serveEntry s u ∧ (Told s → BringsAbout s u)
      (p.page = some page → comes v) ∧
      (∀ t, p.page ≠ some page → p.temperature = some t → t < -15 → comes
        { v with
          plc.panels := s.plc.panels.set e.panel { p with link := .cold, probeTimer := some 600000 }
          hlk.notices := raisedAt 9 s.hlk.notices }) ∧
      (p.page ≠ some page → (∀ t, p.temperature = some t → -15 ≤ t) →
        (s.plc.rail = .on → s.plc.mode ≠ .off → comes { begun with plc.line := take .load }) ∧
        (s.plc.rail = .off → s.plc.mode ≠ .off → comes
          { begun with plc.line := take .settle, plc.rail := .settling 250 }) ∧
        ((∃ n, s.plc.rail = .settling n) ∨ s.plc.mode = .off → comes { begun with plc.line := take .settle }))) ∧
    (s.plc.line.isSome ∨ s.bdc.credit = 0 ∨ (∀ e ∈ s.bdc.queue, ¬ready e) ∨
        (s.plc.mode ≠ .off ∧ ∃ a, (panelAt s a).probeDue = true) → Happens .serveEntry s s)) ∧
  ∀ (s : State) (old : Option Nat), Quiet { s with bdc.rotation := old } →
    let period := (presentEntry s).rotation
    let runs := 0 < period ∧ 2 ≤ s.bdc.host.length + s.bdc.auto.length ∧
      ∃ a, (s.bdc.profiles.get a).isPresent = true ∧ (s.bdc.profiles.get a).kind = .messages
    (runs → s.bdc.rotation = none → BringsAbout s { s with bdc.rotation := some (period * 1000) }) ∧
    (¬runs → s.bdc.rotation.isSome → BringsAbout s { s with bdc.rotation := none })

/-! ### The panel line (R130 to R144) -/

/-- PANEL-RESET (R140): an address out of range, an ABSENT panel and a transaction in flight refuse it; else the panel
is UNKNOWN with its probe due and its temperature kept. -/
def Obligations.PanelResetMakesUnknown : Prop :=
  ∀ (n : Nat) (s : State), Listens s →
    let w := atOwner s
    (panelOf n = none → Does (.panelReset n) s 0xE5#8 (refuse .range .field) w) ∧
    ∀ a, panelOf n = some a →
      ((panelAt w a).link = .absent → Does (.panelReset n) s 0xE5#8 (refuse .unknown .panel) w) ∧
      ((panelAt w a).link ≠ .absent → (∃ t, w.plc.line = some t ∧ t.panel = a) →
        Does (.panelReset n) s 0xE5#8 (refuse .busy .none) w) ∧
      ((panelAt w a).link ≠ .absent → (∀ t, w.plc.line = some t → t.panel ≠ a) →
        Does (.panelReset n) s 0xE5#8 (done (.link (panelAt w a).link))
          { w with
            plc.panels :=
              w.plc.panels.set a ⟨.unknown, none, none, none, (panelAt w a).temperature, 0, 0, true, none⟩ })

/-- A due probe takes the free line (R132, R143): the lowest due panel, its flag cleared; with the rail ON its frame is sent,
with the rail OFF the rail is switched on and settles. While the mode is OFF or the line is taken nothing happens. An event
whose cause does not stand changes nothing: the model's choice (log 4). By log 5 the probe starts of itself in a run: once
the urgent-entry condition and the cold flag are reported, every command whose own rule leaves such a state brings it about,
as one that leaves a changed cold flag brings its judgement about. A STATE to a probe: of an UNKNOWN or OFFLINE panel it
resynchronises (R139), toggles from the reply, page unknown, attempts 0, timer stopped; READY from −15 °C with a refresh
queued, else COLD with its 10-minute timer; PANEL-BACK only from OFFLINE. Of a COLD panel (R141): READY from −13 °C with a
refresh queued, else COLD for 10 more minutes, the page kept (log 16). The cold flag and the COLD limit (R142, R152): set
below −5 °C, cleared from −2 °C on, by the coldest panel READY or REFRESHING. -/
def Obligations.ProbesAndTheirStates : Prop :=
  (∀ s : State, s.power = .on →
    (∀ a, s.plc.line = none → s.plc.mode ≠ .off → (panelAt s a).probeDue = true →
      (∀ b, b ∈ [Addr.p1, .p2, .p3, .p4].takeWhile (fun x => decide (x ≠ a)) → (panelAt s b).probeDue = false) →
      let v := { s with
        plc.panels := s.plc.panels.set a { panelAt s a with probeDue := false }, plc.idle := none }
      let comes := fun u => Happens .probeStart s u ∧ (Told s → BringsAbout s u)
      (s.plc.rail = .on → comes { v with plc.line := some ⟨a, .probe, .probing 500, false⟩ }) ∧
      (s.plc.rail = .off → comes { v with plc.line := some ⟨a, .probe, .settle, false⟩, plc.rail := .settling 250 }) ∧
      (∀ n, s.plc.rail = .settling n → comes { v with plc.line := some ⟨a, .probe, .settle, false⟩ })) ∧
    (s.plc.line.isSome ∨ s.plc.mode = .off ∨ (∀ a, (panelAt s a).probeDue = false) → Happens .probeStart s s)) ∧
  (∀ (s : State) (a : Addr) (left : Nat) (tog busy : Bool) (temp : Int), s.power = .on →
    s.plc.line = some ⟨a, .probe, .probing left, false⟩ → -40 ≤ temp → temp ≤ 85 →
    let c := Instr.panelReply a true (.state tog busy temp)
    let heard := { panelAt s a with shown := some tog, next := some !tog, temperature := some temp, silences := 0 }
    let q := { heard with page := none, attempts := 0, probeTimer := none }
    let ends := fun p => freedLine { s.plc with panels := s.plc.panels.set a p }
    let back := fun l : List Notice => if (panelAt s a).link = .offline then raisedAt 8 l else l
    ((panelAt s a).link = .unknown ∨ (panelAt s a).link = .offline →
      (-15 ≤ temp → Happens c s
        { s with
          plc := ends { q with link := .ready }, bdc.queue := ordinaryEntry a s, hlk.notices := back s.hlk.notices }) ∧
      (temp < -15 → Happens c s
        { s with
          plc := ends { q with link := .cold, probeTimer := some 600000 }
          hlk.notices := back (raisedAt 9 s.hlk.notices) })) ∧
    ((panelAt s a).link = .cold →
      (-13 ≤ temp → Happens c s
        { s with plc := ends { heard with link := .ready, probeTimer := none }, bdc.queue := ordinaryEntry a s }) ∧
      (temp < -13 → Happens c s { s with plc := ends { heard with probeTimer := some 600000 } }))) ∧
  ∀ s : State,
    let drawn := fun a t => ((panelAt s a).link = .ready ∨ (panelAt s a).link = .refreshing) ∧
      (panelAt s a).temperature = some t
    (∀ a t, drawn a t → t < -5 → coldNow s = true) ∧
    (∀ a t, drawn a t → (∀ b x, drawn b x → -2 ≤ x) → coldNow s = false) ∧
    ((∀ a t, drawn a t → -5 ≤ t) → ((∀ a t, ¬drawn a t) ∨ ∃ a t, drawn a t ∧ t < -2) → coldNow s = s.plc.cold) ∧
    ((s.awu.urgent = true ↔ ∃ e ∈ s.bdc.queue, e.urgent = true) → coldNow s ≠ s.plc.cold →
      BringsAbout s (judgeCold s)) ∧
    let limit : Option Level := if coldNow s then some .el2 else none
    (limit = s.enm.coldLimit → judgeCold s = { s with plc.cold := coldNow s }) ∧
    (limit ≠ s.enm.coldLimit → judgeCold s =
      retarget { s with
        plc.cold := coldNow s, enm.coldLimit := limit, hlk.notices := raisedAt 11 s.hlk.notices })

/-- A frame's answer or silence ends a discarded transaction and does nothing else to the panels (R137). A silence
(R131, R138): it adds to the count, and the third makes any panel but an OFFLINE one OFFLINE at once, with the
transaction ended, the page unknown, the probe timer at 60 s and PANEL-OFFLINE pending. Below the third, and of an OFFLINE
panel, a silence to a probe ends it with the wait of the panel's link state (R138, R139, R141), one to LOAD or SHOW fails
the attempt (R135), and one to a PROBE of a drawing panel leads to the next PROBE, or, after the last, to a failed attempt
with the page unknown (R134). A reply of another panel, with a failing check or of a kind the frame does not allow is a
silence, at once: the model's choice (log 30). That the 1 s wait of an UNKNOWN panel stands in its probe timer and that
OFFLINE clears the probe-due flag (log 17), and that a third silence adds nothing to the attempt count (log 35), are the
model's choices too. -/
def Obligations.SilencesTakeAPanelOffline : Prop :=
  (∀ (s : State) (t : Transaction) (source : Addr) (ok : Bool) (a : PanelAnswer), s.power = .on → s.plc.line = some t →
     t.discarded = true → t.phase.awaits = true →
     Happens (.panelReply source ok a) s { s with plc := freedLine s.plc } ∧
     Happens .replyWaitExpiry s { s with plc := freedLine s.plc }) ∧
  (∀ (s : State) (t : Transaction), s.power = .on → s.plc.line = some t → t.discarded = false →
     t.phase.awaits = true →
     let p := panelAt s t.panel
     let q := { p with silences := min 3 (p.silences + 1) }
     let ends := fun x => freedLine { s.plc with panels := s.plc.panels.set t.panel x }
     let wait := if p.link = .offline then some 60000 else if p.link = .unknown then some 1000
       else if p.link = .cold then some 600000 else none
     (∀ source ok a, (source ≠ t.panel ∨ ok = false ∨ t.phase.allows a = false) →
       exec (.panelReply source ok a) s = exec .replyWaitExpiry s) ∧
     (2 ≤ p.silences → p.link ≠ .offline → Happens .replyWaitExpiry s
       { s with
         plc := ends { p with
           silences := 3, link := .offline, page := none, probeDue := false, probeTimer := some 60000 }
         hlk.notices := raisedAt 7 s.hlk.notices }) ∧
     (p.silences < 2 ∨ p.link = .offline →
       (t.work = .probe → Happens .replyWaitExpiry s
         { s with plc := ends { q with probeTimer := wait } }) ∧
       ∀ r, t.work = .refresh r →
         (t.phase = .load ∨ t.phase = .show → Happens .replyWaitExpiry s (attemptFailed true t q s)) ∧
         ∀ left, t.phase = .probing left →
           (r.probes ≤ 4 * r.duration → Happens .replyWaitExpiry s
             { s with
               plc.panels := s.plc.panels.set t.panel q, plc.line := some { t with phase := .interval left } }) ∧
           (4 * r.duration < r.probes →
             Happens .replyWaitExpiry s (attemptFailed true t { q with page := none } s))))

/-- LOAD and SHOW answered TAKEN (R133, R134): LOAD leads to SHOW; SHOW makes the panel REFRESHING, takes a credit at
the first time in the refresh and starts the drawing wait for the last temperature (Table 8-4; below −15 °C and without one
the duration is free, log 32). BUSY fails the attempt (R133, R135), FAULT makes the panel FAULTED and ends the refresh (R136);
that FAULT, an answer, zeroes the silence count first is the model's reading (DEDUCED, log 29). A STATE not
busy from a drawing panel (R134): with the toggle sent the refresh completes, the page and toggles move and the panel is
READY; with the other toggle the position is taken as reported, the page is unknown and the attempt fails. A busy one leads
to the next PROBE, or, after the last, to a failed attempt with the page unknown. -/
def Obligations.TakenLeadsToDrawingToTheToggle : Prop :=
  (∀ (s : State) (a : Addr) (r : Refresh) (ph : LinePhase), s.power = .on → ph = .load ∨ ph = .show →
     s.plc.line = some ⟨a, .refresh r, ph, false⟩ →
     let q := { panelAt s a with silences := 0 }
     (ph = .load → Happens (.panelReply a true .taken) s
       { s with plc.panels := s.plc.panels.set a q, plc.line := some ⟨a, .refresh r, .show, false⟩ }) ∧
     (ph = .show →
       let d := match q.temperature with
         | some t => if 15 ≤ t then 2 else if 5 ≤ t then 3 else if -5 ≤ t then 5 else if -15 ≤ t then 9
           else Config.openDrawing (some t)
         | none => Config.openDrawing none
       Happens (.panelReply a true .taken) s
         { s with
           plc.panels := s.plc.panels.set a { q with link := .refreshing }
           plc.line := some ⟨a, .refresh { r with credited := true, duration := d }, .drawing (d * 1000), false⟩
           bdc.credit := if r.credited then s.bdc.credit else s.bdc.credit - 1 }) ∧
     Happens (.panelReply a true .busy) s (attemptFailed false ⟨a, .refresh r, ph, false⟩ q s) ∧
     Happens (.panelReply a true .fault) s
       { s with
         plc := freedLine { s.plc with panels := s.plc.panels.set a { q with link := .faulted, page := none } }
         hlk.notices := raisedAt 4 s.hlk.notices }) ∧
  (∀ (s : State) (a : Addr) (r : Refresh) (left : Nat) (tog : Bool) (temp : Int), s.power = .on →
     s.plc.line = some ⟨a, .refresh r, .probing left, false⟩ →
     let t : Transaction := ⟨a, .refresh r, .probing left, false⟩
     let q := { panelAt s a with temperature := some (clampInt (-40) 85 temp), silences := 0 }
     let told := { q with shown := some tog, next := some !tog }
     (r.toggle = some tog → Happens (.panelReply a true (.state tog false temp)) s
       { s with plc := freedLine { s.plc with
           panels := s.plc.panels.set a { told with link := .ready, page := some r.page } } }) ∧
     (r.toggle ≠ some tog → Happens (.panelReply a true (.state tog false temp)) s
       (attemptFailed false t { told with page := none } s)) ∧
     (r.probes ≤ 4 * r.duration → Happens (.panelReply a true (.state tog true temp)) s
       { s with plc.panels := s.plc.panels.set a q, plc.line := some ⟨a, .refresh r, .interval left, false⟩ }) ∧
     (4 * r.duration < r.probes → Happens (.panelReply a true (.state tog true temp)) s
       (attemptFailed false t { q with page := none } s)))

/-- The waits of a refresh (R134, R135): after the drawing duration the first PROBE, 500 ms after one the next, and 1
s after a failed attempt a LOAD of the next toggle as it then stands. An event whose cause does not stand changes
nothing: the model's choice (log 4). The rail (R143): at the end of the settle it is ON and a waiting transaction
sends its first frame; at the end of the idle timer it is OFF. A settle that ends with no transaction waiting starts no
idle timer: DEDUCED, log 23. The probe timers (R138, R139, R141) make the probe of a panel in their link state due, an
OFFLINE panel's only while the rail is ON; that the wait of an UNKNOWN panel stands in its probe timer is the model's
choice (log 17). An event whose cause does not stand changes nothing: the model's choice (log 4). RAILEN is high exactly while
the rail of a powered part is not OFF (R143, R176). -/
def Obligations.LineRailAndProbeTimersExpire : Prop :=
  (∀ (s : State) (a : Addr) (r : Refresh) (n : Nat) (d : Bool), s.power = .on →
     (s.plc.line = some ⟨a, .refresh r, .drawing n, d⟩ → Happens .drawingWaitExpiry s
       { s with plc.line := some ⟨a, .refresh { r with probes := 1 }, .probing 500, d⟩ }) ∧
     (s.plc.line = some ⟨a, .refresh r, .interval n, d⟩ → Happens .probeIntervalExpiry s
       { s with plc.line := some ⟨a, .refresh { r with probes := r.probes + 1 }, .probing 500, d⟩ }) ∧
     (s.plc.line = some ⟨a, .refresh r, .retry n, d⟩ → Happens .retryWaitExpiry s
       { s with plc.line := some ⟨a, .refresh { r with toggle := (panelAt s a).next, probes := 0 }, .load, d⟩ }) ∧
     (s.plc.line = none → Happens .drawingWaitExpiry s s ∧ Happens .probeIntervalExpiry s s ∧
       Happens .retryWaitExpiry s s)) ∧
  (∀ (s : State) (a : Addr) (n : Nat), s.power = .on →
     (s.plc.rail = .settling n → s.plc.line = none → Happens .railSettleExpiry s { s with plc.rail := .on }) ∧
     (∀ d, s.plc.rail = .settling n → s.plc.line = some ⟨a, .probe, .settle, d⟩ → Happens .railSettleExpiry s
       { s with plc.rail := .on, plc.line := some ⟨a, .probe, .probing 500, d⟩ }) ∧
     (∀ r d, s.plc.rail = .settling n → s.plc.line = some ⟨a, .refresh r, .settle, d⟩ → Happens .railSettleExpiry s
       { s with
         plc.rail := .on
         plc.line := some ⟨a, .refresh { r with toggle := (panelAt s a).next, probes := 0 }, .load, d⟩ }) ∧
     (s.plc.rail = .off ∨ s.plc.rail = .on → Happens .railSettleExpiry s s) ∧
     (s.plc.idle = some n → Happens .railIdleExpiry s { s with plc.rail := .off, plc.idle := none }) ∧
     (s.plc.idle = none → Happens .railIdleExpiry s s) ∧
     ∀ c link, (c, link) ∈ [(Instr.unknownReprobeDelay a, LinkState.unknown), (.offlineProbeTimerExpiry a, .offline),
         (.coldProbeTimerExpiry a, .cold)] →
       ((panelAt s a).link = link → (panelAt s a).probeTimer = some n → (link = .offline → s.plc.rail = .on) →
         Happens c s
         { s with plc.panels := s.plc.panels.set a ({ panelAt s a with probeDue := true, probeTimer := none }) }) ∧
       ((panelAt s a).link ≠ link ∨ (link = .offline ∧ s.plc.rail ≠ .on) → Happens c s s)) ∧
  ∀ s : State, railEnabled s = true ↔ s.power = .on ∧ s.plc.rail ≠ .off

/-! ### The energy levels (R145 to R160) -/

/-- ENERGY-SETTINGS (R147, R152): a value out of range, or a start or an end alone, refuses it; else the values
carried are stored, absent ones are kept, and a request that carries a window evaluates QUIET. LEVEL-TABLE,
LEVEL-CEILING and SUPPLY-CAPACITY (R146, R148, R149): what each refuses, reads and stores, and what follows of it for the
draw allowance, the demand timer, the refresh credit, the accrual and rotation timers and the lamp, the effective ceiling, the
demand level and the target; of another level than the present one the boards keep all these. The effective ceiling is the
highest enabled level no higher than the ceiling as written, EL4 and EL5 enabled always and another level where the capacity
covers its draw (R148, R149). That LEVEL-TABLE of the present level restarts its
timers in full also for values it had is the model's reading (DEDUCED, log 24); that the reply to one without a parameter
carries a clear clamped flag (log 36), and that a changed ceiling moves the demand level before the target is computed once
(log 7), are its choices. -/
def Obligations.EnergyAndLevelSettingsStored : Prop :=
  (∀ (q : Option (Nat × Nat)) (r d : Option Nat) (s : State), Listens s →
     let w := atOwner s
     let c := Instr.energySettings (q.map (·.1)) (q.map (·.2)) r d
     let good := (∀ x, q = some x → x.1 ≤ 1439 ∧ x.2 ≤ 1439) ∧ (∀ n, r = some n → 50 ≤ n ∧ n ≤ 2000) ∧
       ∀ n, d = some n → 50 ≤ n ∧ n ≤ 2000
     let first := (q.map (·.1)).getD s.enm.quietStart
     let last := (q.map (·.2)).getD s.enm.quietEnd
     let v := { w with
       enm.quietStart := first, enm.quietEnd := last, enm.raiseSettle := r.getD s.enm.raiseSettle
       enm.dormantSettle := d.getD s.enm.dormantSettle }
     let answers := Does c s 0xF5#8
       (done (.energySettings first last (r.getD s.enm.raiseSettle) (d.getD s.enm.dormantSettle)))
     let inside := ∃ c, s.clock = some c ∧ ((first < last ∧ first ≤ c.tod / 60 ∧ c.tod / 60 < last) ∨
       (last < first ∧ (first ≤ c.tod / 60 ∨ c.tod / 60 < last)))
     (¬good → Does c s 0xF5#8 (refuse .range .field) w) ∧
     (∀ a, Does (.energySettings (some a) none r d) s 0xF5#8 (refuse .range .field) w ∧
       Does (.energySettings none (some a) r d) s 0xF5#8 (refuse .range .field) w) ∧
     (good → (q = none → answers v) ∧
       ∀ limit : Option Level, q.isSome → (inside → limit = some .el3) → (¬inside → limit = none) →
         (limit = s.enm.quietLimit → answers v) ∧
         (limit ≠ s.enm.quietLimit → answers
           (retarget { v with enm.quietLimit := limit, hlk.notices := raisedAt 11 w.hlk.notices })))) ∧
  (∀ s : State, Listens s →
     let w := atOwner s
     (∀ l, Does (.levelTable (.named l) none none none none none none) s 0xF0#8
       (done (.levelEntry (s.enm.table.get l) false)) w) ∧
     (∀ l dr ra de ro la ti, entryInRange l dr ra de ro la ti = true ↔ (∀ n, dr = some n → 1 ≤ n ∧ n ≤ 5000) ∧
       (∀ n, ra = some n → n ≤ 3600) ∧ (∀ n, de = some n → n ≤ 15) ∧ (∀ n, ro = some n → n ≤ 3600) ∧
       (∀ n, la = some n → n ≤ 100) ∧ (l = .ela ∨ l = .el5 → ti = none)) ∧
     (∀ l dr ra de ro la ti, entryInRange l dr ra de ro la ti = false →
       Does (.levelTable (.named l) dr ra de ro la ti) s 0xF0#8 (refuse .range .field) w) ∧
     (∀ l draw rate depth rot lamp time, entryInRange l draw rate depth rot lamp time = true →
       ¬(draw = none ∧ rate = none ∧ depth = none ∧ rot = none ∧ lamp = none ∧ time = none) →
       let old := s.enm.table.get l
       let kept := fun t : Nat => if t = 0 then 0 else if t < 10 then 10 else if 14400 < t then 14400 else t
       let e : LevelEntry := ⟨draw.getD old.draw, rate.getD old.rate, depth.getD old.depth, rot.getD old.rotation,
         lamp.getD old.lamp, (time.map kept).or old.timeout⟩
       let u := applyEntry l e w
       let budget := match w.enm.transition with | .raising d _ => d | _ => w.enm.present
       Does (.levelTable (.named l) draw rate depth rot lamp time) s 0xF0#8
         (done (.levelEntry e (time.any fun t => kept t != t))) u ∧
       u.enm.table = s.enm.table.set l e ∧ u.enm.present = w.enm.present ∧ u.enm.capacity = s.enm.capacity ∧
       (e.draw = old.draw → u.enm = { w.enm with table := s.enm.table.set l e } ∧ u.awu.demand = w.awu.demand ∧
         u.awu.timer = (if e.timeout ≠ old.timeout ∧ w.awu.demand = l ∧ w.awu.timer ≠ .held then demandTimerOf e
           else w.awu.timer)) ∧
       (e.draw ≠ old.draw → u.enm.effective = highestEnabled u s.enm.ceiling ∧ u.enm.target = computeTarget u ∧
         (u.enm.effective ≠ s.enm.effective → u.awu.demand = u.enm.effective) ∧
         (u.enm.effective = s.enm.effective → u.awu.demand = w.awu.demand) ∧
         (u.enm.transition = w.enm.transition → u.enm.draw = if budget = l then e.draw else w.enm.draw)) ∧
       (l = w.enm.present → u.bdc.credit = min w.bdc.credit e.depth ∧
         u.bdc.accrual = (if e.rate = 0 then none else some (3600 / e.rate * 1000)) ∧
         u.bdc.rotation = (if 0 < e.rotation ∧ 2 ≤ w.bdc.host.length + w.bdc.auto.length ∧
             ([Addr.p1, .p2, .p3, .p4].any fun a =>
               (s.bdc.profiles.get a).isPresent && (s.bdc.profiles.get a).kind == .messages) = true then
           some (e.rotation * 1000) else none) ∧
         u.bdc.lamp = if lampLit w then e.lamp else 0) ∧
       (l ≠ w.enm.present → u.bdc.credit = w.bdc.credit ∧ u.bdc.accrual = w.bdc.accrual ∧
         u.bdc.rotation = w.bdc.rotation ∧ u.bdc.lamp = w.bdc.lamp)) ∧
     (∀ n, 5 < n → Does (.levelCeiling (some n)) s 0xF1#8 (refuse .range .field) w) ∧
     Does (.levelCeiling none) s 0xF1#8 (done (.ceiling s.enm.ceiling s.enm.effective)) w ∧
     (∀ n l, levelOf n = some l →
       let top := highestEnabled w l
       let v := { w with enm.ceiling := l }
       let moved := { v with
         enm.effective := top, awu.demand := top
         awu.timer := if w.awu.timer = .held then .held else demandTimerOf (s.enm.table.get top) }
       Does (.levelCeiling (some n)) s 0xF1#8 (done (.ceiling l top))
         (retarget (if top = s.enm.effective then v else moved))) ∧
     Does (.supplyCapacity none) s 0xF3#8 (done (.capacity s.enm.capacity (enabledSet w))) w ∧
     (∀ n, n < 50 ∨ 5000 < n → Does (.supplyCapacity (some n)) s 0xF3#8 (refuse .range .field) w) ∧
     ∀ n, 50 ≤ n → n ≤ 5000 →
       let v := { w with enm.capacity := n }
       let top := highestEnabled v s.enm.ceiling
       let moved := { v with
         enm.effective := top, awu.demand := top
         awu.timer := if w.awu.timer = .held then .held else demandTimerOf (s.enm.table.get top) }
       let on := fun l => decide (l = .el4 ∨ l = .el5 ∨ (s.enm.table.get l).draw ≤ n)
       Does (.supplyCapacity (some n)) s 0xF3#8
         (done (.capacity n ⟨on .ela, on .el0, on .el1, on .el2, on .el3, on .el4, on .el5⟩))
         (retarget (if top = s.enm.effective then v else moved))) ∧
  (∀ (s : State) (l : Level),
     let on := fun x => x = .el4 ∨ x = .el5 ∨ (s.enm.table.get x).draw ≤ s.enm.capacity
     let top := highestEnabled s l
     (∀ x, (enabledSet s).get x = true ↔ on x) ∧ on top ∧ levelRank l ≤ levelRank top ∧
       ∀ x, on x → levelRank l ≤ levelRank x → levelRank top ≤ levelRank x) ∧
  [Level.ela, .el0, .el1, .el2, .el3, .el4, .el5].map levelRank = [0, 1, 2, 3, 4, 5, 6]

/-- The bands of Table 9-4 with their hysteresis (R150): a stricter band is taken at once; a less strict one only with
3 more than its lower bound, in steps as far as the charge carries. LEVEL-LIMIT and SUPPLY-REPORT (R150, R153, R154):
the HOST limit is stored, a changed limit raises LIMIT-CHANGED and brings a target computed with it, which the reply
carries; a charge below 5 raises SUPPLY-CRITICAL, and the BATTERY limit takes the band, or with hysteresis the band 3
above. That a target of ELA stands as level 0 with the approach flag in both replies is the model's choice (log 36), as
is the target before the judgement of a brief episode where BATTERY leaves EL5 (log 7). -/
def Obligations.LimitsFollowReportsByTheBands : Prop :=
  (∀ (c : Nat) (l : Option Level), c ≤ 100 →
     (bandOf c = if 60 ≤ c then none else if 40 ≤ c then some .el1 else if 25 ≤ c then some .el2
       else if 12 ≤ c then some .el3 else if 5 ≤ c then some .el4 else some .el5) ∧
     (strictness l ≤ strictness (bandOf c) → batteryAfter c l = bandOf c) ∧
     (strictness (bandOf c) < strictness l → 3 ≤ c → batteryAfter c l = bandOf (c - 3) ) ∧
     (strictness (bandOf c) ≤ strictness (batteryAfter c l))) ∧
  (∀ s : State, Listens s → s.hlk.notices.length = sourceCount →
     let w := atOwner s
     (∀ n, 5 < n → Does (.levelLimit (.level n)) s 0xF2#8 (refuse .range .field) w) ∧
     (∀ n, Does (.levelLimit (.other n)) s 0xF2#8 (refuse .range .field) w) ∧
     Does (.levelLimit .absent) s 0xF2#8 (done (.limit s.enm.hostLimit (hostLevel w.enm.target))) w ∧
     (∀ f l, (f = .noLimit ∧ l = none) ∨ (∃ n, f = .level n ∧ levelOf n = l ∧ l.isSome) →
       let v := if l = s.enm.hostLimit then w
         else retarget { w with enm.hostLimit := l, hlk.notices := raisedAt 11 w.hlk.notices }
       let u := settle v
       Does (.levelLimit f) s 0xF2#8 (done (.limit l (hostLevel u.enm.target))) u ∧ Reacted v u ∧
         u.enm.hostLimit = l ∧ (l ≠ s.enm.hostLimit → (noticeAt u 11).pending = true ∧ u.enm.target = computeTarget u)) ∧
     ∀ c : Int,
       let n := (clampInt 0 100 c).toNat
       let limit := batteryAfter n s.enm.battery
       let told := { w with
         enm.charge := some n, enm.stale := false, enm.staleTimer := some 900000
         hlk.notices := if c < 5 then raisedAt 0 w.hlk.notices else w.hlk.notices }
       let changed := { told with enm.battery := limit, hlk.notices := raisedAt 11 told.hlk.notices }
       let v := if limit = s.enm.battery then told
         else if limit = some .el5 then (if w.awu.brief then endBrief changed else retarget changed)
         else if s.enm.battery = some .el5 then judgeBriefStart (retarget changed) else retarget changed
       let u := settle v
       Does (.supplyReport c) s 0xF4#8 (done (.supply n limit (hostLevel u.enm.target))) u ∧ Reacted v u ∧
         u.enm.battery = limit ∧ u.enm.charge = some n ∧ u.enm.stale = false ∧ u.enm.staleTimer = some 900000 ∧
         (c < 5 → (noticeAt u 0).pending = true) ∧
         (limit ≠ s.enm.battery → (noticeAt u 11).pending = true ∧ u.enm.target = computeTarget u))

/-- The target level (R155): the lowest of the demand level and the active limits, clamped to the highest enabled level no
higher, with the approach substitution at EL0 and the brief substitution at EL5. The start of a transition toward it (R156 to
R158, R89) and the rail mode that follows (R143). The transitions' ends (R157 to R160): a raise completes at its settle's end
and a drained lowering when its drain clears, each with the level left as the previous level, the load settings of the new
level and LEVEL-CHANGED pending; of itself the lowering completes once the freed line has been offered to probes and entries
(R159), and no episode has returned (log 21): every command whose own rule leaves such a state brings it about. That the next
transition starts before the queue is tested again is the model's choice (log 7); the stale timer sets the stricter of EL2
and the limit in force (R151). An event whose cause does not stand changes nothing: the model's choice (log 4). -/
def Obligations.TransitionsComplete : Prop :=
  (∀ (s : State) (l₀ l : Level),
    let asked := fun x => x = s.awu.demand ∨ s.enm.battery = some x ∨ s.enm.coldLimit = some x ∨
      s.enm.quietLimit = some x ∨ s.enm.hostLimit = some x
    let enabled := fun x : Level => x = .el4 ∨ x = .el5 ∨ (s.enm.table.get x).draw ≤ s.enm.capacity
    asked l₀ → (∀ x, asked x → levelRank x ≤ levelRank l₀) →
    enabled l → levelRank l₀ ≤ levelRank l → (∀ x, enabled x → levelRank l₀ ≤ levelRank x → levelRank l ≤ levelRank x) →
    let ela := l = .el0 ∧ approachCondition s = true ∧ s.enm.battery = none ∧ s.enm.coldLimit = none ∧ enabled .ela
    let brief := l = .el5 ∧ s.awu.brief = true ∧ s.enm.battery ≠ some .el5
    (ela → computeTarget s = .ela) ∧ (brief → enabled .el3 → computeTarget s = .el3) ∧
      (brief → ¬enabled .el3 → computeTarget s = .el4) ∧ (¬ela → ¬brief → computeTarget s = l)) ∧
  (∀ s : State,
    let t := computeTarget s
    let v := { s with enm.target := t }
    (s.enm.transition ≠ .none ∨ t = s.enm.present → retarget s = v) ∧
    (s.enm.transition = .none → levelRank t < levelRank s.enm.present → retarget s = followRailMode
      { v with
        enm.transition := .raising t (if s.enm.present = .el5 then s.enm.dormantSettle else s.enm.raiseSettle)
        enm.draw := (s.enm.table.get t).draw, plc.railLevel := t }) ∧
    (s.enm.transition = .none → levelRank s.enm.present < levelRank t →
      (t ≠ .el4 → t ≠ .el5 → retarget s = { v with enm.transition := .lowering t }) ∧
      (t = .el4 ∨ t = .el5 → (retarget s).enm = { s.enm with target := t, transition := .lowering t } ∧
        Reason.level ∈ salesReasons (retarget s) ∧ (retarget s).plc = s.plc ∧
        (∀ q n, s.slc.slot = .quoted q n → (retarget s).slc.slot = .idle ∧
          (retarget s).slc.lastReason = some .level ∧
          (s.hlk.notices.length = sourceCount → (noticeAt (retarget s) 6).pending = true)) ∧
        (slotState s.slc.slot ≠ .quoted → (retarget s).slc = s.slc ∧ (retarget s).hlk = s.hlk)))) ∧
  (∀ (s : State) (m : RailMode),
    m = (match s.plc.railLevel with
      | .ela => .always
      | .el0 => .always
      | .el1 => .always
      | .el2 => .gated
      | .el3 => .gated
      | .el4 => .gated
      | .el5 => if s.awu.brief then .gated else .off) →
    (m = s.plc.mode → followRailMode s = s) ∧
    (m ≠ s.plc.mode →
      (m = .always → followRailMode s = { s with
        plc.mode := m, plc.idle := none, plc.rail := if s.plc.rail = .off then .settling 250 else s.plc.rail }) ∧
      (m = .gated → followRailMode s = { s with
        plc.mode := m
        plc.rail := if s.plc.rail = .off ∧ s.plc.line.isSome then .settling 250 else s.plc.rail
        plc.idle := if s.plc.rail = .on ∧ s.plc.line = none then some 2000 else s.plc.idle }) ∧
      (m = .off → followRailMode s = { s with
        plc.mode := m, plc.idle := none, plc.rail := if s.plc.line = none then .off else s.plc.rail }))) ∧
  (∀ s : State, s.power = .on → s.hlk.notices.length = sourceCount →
    let completes := fun (d : Level) (u : State) => u.enm.present = d ∧ u.enm.previous = some s.enm.present ∧
      (noticeAt u 10).pending = true ∧ LevelAtTarget u ∧ u.enm.target = computeTarget u ∧
      (let e := s.enm.table.get d
       u.bdc.credit = (if s.enm.present = .el5 ∧ min s.bdc.credit e.depth = 0 then min 1 e.depth
         else min s.bdc.credit e.depth) ∧
       u.bdc.accrual = (if e.rate = 0 then none else some (3600 / e.rate * 1000)) ∧
       u.bdc.rotation = (if 0 < e.rotation ∧ 2 ≤ s.bdc.host.length + s.bdc.auto.length ∧
           ([Addr.p1, .p2, .p3, .p4].any fun a =>
             (s.bdc.profiles.get a).isPresent && (s.bdc.profiles.get a).kind == .messages) = true then
         some (e.rotation * 1000) else none)) ∧
      u.bdc.lamp = (if lampLit { s with enm.present := d } then (s.enm.table.get d).lamp else 0) ∧
      u.bdc.sales = (salesReasons u).head?
    (∀ d n, s.enm.transition = .raising d n → let u := raiseSettled s
      Happens .raiseSettleExpiry s u ∧ completes d u) ∧
    ((∀ d n, s.enm.transition ≠ .raising d n) → Happens .raiseSettleExpiry s s) ∧
    (∀ d, s.enm.transition = .lowering d → s.plc.line = none →
      (d = .el4 ∨ d = .el5 → slotState s.slc.slot ≠ .printing) →
      let u := completeAt d (followRailMode { s with enm.draw := (s.enm.table.get d).draw, plc.railLevel := d })
      Happens .loweringComplete s u ∧ completes d u ∧
      (LineOffered s → (s.awu.brief = true → s.awu.returnTimer = .expired → ∃ e ∈ s.bdc.queue, e.urgent = true) →
        BringsAbout s u)) ∧
    (∀ d, s.enm.transition = .lowering d → s.plc.line.isSome ∨ ((d = .el4 ∨ d = .el5) ∧
      slotState s.slc.slot = .printing) → Happens .loweringComplete s s) ∧
    ((∀ d, s.enm.transition ≠ .lowering d) → Happens .loweringComplete s s) ∧
    (∀ n, s.enm.staleTimer = some n → let u := staleExpiry s
      Happens .staleTimerExpiry s u ∧ u.enm.stale = true ∧ u.enm.staleTimer = none ∧
      u.enm.battery = stricter (some .el2) s.enm.battery ∧ (noticeAt u 13).pending = true ∧
      (u.enm.battery ≠ s.enm.battery → (noticeAt u 11).pending = true ∧ u.enm.target = computeTarget u)) ∧
    (s.enm.staleTimer = none → Happens .staleTimerExpiry s s))

/-! ### Activity, wakes and brief episodes (R164 to R174) -/

/-- ACTIVITY (R165, R167): the demand level is the effective ceiling, the timer restarts unless held, a brief episode ends
(R174), and the reply carries both. WAKE-STATUS (R172) returns the woke record and the flags and clears them; the level that
it reports for an input not yet taken is free (log 13), and the 0 seconds of a return timer that has expired are (log 36) the
model's choices. WAKE-CONFIG (R169) stores, and a changed sense of
CALL clears the re-wake lock. The demand timer (R164): at its expiry the demand level falls one level and the timer restarts
with the new level's timeout, or stops at EL5 and for a timeout of 0. A brief episode (R173, R174): at EL5 with an urgent
entry reported, BATTERY not EL5 and none running, it starts with the return time; the timer's expiry alone ends nothing; it
returns when the timer has expired, no urgent entry waits and the line is clear. By log 5 both come of themselves in a run:
every command whose own rule leaves a changed urgent-entry condition has it reported, and with it the start judged; the row
judges the start whenever it is given, also where none of R173's three moments has come: the model's choice (log 39); one
that leaves the conditions of a return, once the freed line has been offered (log 21), has the episode return. An event whose
cause does not stand changes nothing: the model's choice (log 4). -/
def Obligations.ActivityDemandAndBriefEpisodes : Prop :=
  (∀ s : State, Listens s →
    let w := atOwner s
    let v := { w with
      awu.demand := s.enm.effective
      awu.timer := if w.awu.timer = .held then .held else demandTimerOf (s.enm.table.get s.enm.effective) }
    let u := if w.awu.brief then
        retarget (followRailMode { v with awu.brief := false, awu.returnTimer := .stopped })
      else retarget v
    let level := fun i => (fiveGet s.awu.filtered i).getD (Config.levelBeforeTaking i)
    Does .activity s 0xF8#8 (done (.activity s.enm.effective
      (match u.awu.timer with | .running ms => some (secondsLeft ms) | _ => none))) u ∧
    u.awu.demand = s.enm.effective ∧ u.awu.brief = false ∧ u.awu.woke = w.awu.woke ∧
    (slotState w.slc.slot ≠ .quoted → u.awu.timer = v.awu.timer) ∧
    Does .wakeStatus s 0xFA#8 (done (.wakeStatus
      ⟨w.awu.woke, w.awu.wokeFlags, ⟨level .call, level .presence, level .card, level .door, level .aux⟩,
        w.awu.lock.map (·.active), w.awu.demand,
        (match w.awu.timer with | .stopped => .stopped | .held => .held | .running ms => .running (secondsLeft ms)),
        w.awu.brief,
        (match w.awu.returnTimer with
          | .stopped => none | .expired => some 0 | .running ms => some (secondsLeft ms))⟩))
      { w with awu.woke := none, awu.wokeFlags := ⟨false, false, false, false, false⟩ } ∧
    (∀ f, wakeInRange f = true ↔ (∀ i n, (fiveGet f.inputs i).sense ≠ some (.other n) ∧
      (fiveGet f.inputs i).activity ≠ some (.other n) ∧ (fiveGet f.inputs i).wake ≠ some (.other n)) ∧
      (∀ n, f.approach ≠ some (.other n) ∧ f.clock ≠ some (.other n) ∧ f.link ≠ some (.other n)) ∧
      ∀ n, f.returnTime = some n → 30 ≤ n ∧ n ≤ 600) ∧
    (∀ f, wakeInRange f = false → Does (.wakeConfig f) s 0xF9#8 (refuse .range .field) w) ∧
    ∀ f, wakeInRange f = true →
      let input := fun i => (⟨optCoded (fiveGet s.awu.config.inputs i).sense (fiveGet f.inputs i).sense,
        optCoded (fiveGet s.awu.config.inputs i).activity (fiveGet f.inputs i).activity,
        optCoded (fiveGet s.awu.config.inputs i).wake (fiveGet f.inputs i).wake⟩ : InputConfig)
      let new : WakeConfig := ⟨⟨input .call, input .presence, input .card, input .door, input .aux⟩,
        optCoded s.awu.config.approach f.approach, optCoded s.awu.config.clock f.clock,
        optCoded s.awu.config.link f.link, f.returnTime.getD s.awu.config.returnTime⟩
      Does (.wakeConfig f) s 0xF9#8 (done (.wakeConfig new))
        { w with
          awu.config := new
          awu.lock := if new.inputs.call.sense = s.awu.config.inputs.call.sense then s.awu.lock else none }) ∧
  (∀ s : State, s.power = .on →
     (∀ n, s.awu.timer = .running n → Happens .demandTimerExpiry s
       (retarget { s with
         awu.demand := levelDown s.awu.demand
         awu.timer := demandTimerOf (s.enm.table.get (levelDown s.awu.demand)) })) ∧
     ((∀ n, s.awu.timer ≠ .running n) → Happens .demandTimerExpiry s s)) ∧
  (∀ s : State, s.power = .on →
     (s.enm.present = .el5 → s.awu.urgent = true → s.enm.battery ≠ some .el5 → s.awu.brief = false →
       Happens .briefEpisodeStart s (retarget (followRailMode { s with
         awu.brief := true, awu.returnTimer := .running (s.awu.config.returnTime * 1000) }))) ∧
     (s.enm.present ≠ .el5 ∨ s.awu.urgent = false ∨ s.enm.battery = some .el5 ∨ s.awu.brief = true →
       Happens .briefEpisodeStart s s) ∧
     (∀ n, s.awu.returnTimer = .running n →
       Happens .returnTimerExpiry s { s with awu.returnTimer := .expired }) ∧
     ((∀ n, s.awu.returnTimer ≠ .running n) → Happens .returnTimerExpiry s s) ∧
     (let started := fun v : State => retarget (followRailMode { v with
        awu.brief := true, awu.returnTimer := .running (s.awu.config.returnTime * 1000) })
      let starts := s.enm.present = .el5 ∧ s.enm.battery ≠ some .el5 ∧ s.awu.brief = false
      ((∃ e ∈ s.bdc.queue, e.urgent = true) → s.awu.urgent = false →
        (starts → BringsAbout s (started { s with awu.urgent := true })) ∧
        (¬starts → BringsAbout s { s with awu.urgent := true })) ∧
      ((∀ e ∈ s.bdc.queue, e.urgent = false) → s.awu.urgent = true → BringsAbout s { s with awu.urgent := false })) ∧
     (s.awu.brief = true → s.awu.returnTimer = .expired → (∀ e ∈ s.bdc.queue, e.urgent = false) → s.plc.line = none →
       let u := retarget (followRailMode { s with awu.brief := false, awu.returnTimer := .stopped })
       Happens .briefEpisodeReturn s u ∧ (LineOffered s → BringsAbout s u)) ∧
     (s.awu.brief = false ∨ s.awu.returnTimer ≠ .expired ∨ (∃ e ∈ s.bdc.queue, e.urgent = true) ∨ s.plc.line.isSome →
       Happens .briefEpisodeReturn s s))

/-- An edge of a field input (R165, R168, R170, R171, R184): a change of the filtered level, reported for the door and passed
by CALL's re-wake lock, which clears at the return to its active level and before the edge is judged. An edge that the sense
admits is, by the wake flag at EL4 or EL5, a wake, unless CALL's lock holds it back, and sets CALL's lock; else, by the
activity flag, activity; else nothing more. The same level again is no edge. The first taking after a restart is no edge, and
raises DOOR-OPEN for an open door under sense LEVEL. An event whose cause does not stand changes nothing: the model's choice
(log 4). -/
def Obligations.FieldInputsWake : Prop :=
  ∀ (i : FieldInput) (high : Bool) (s : State), s.power = .on →
    let c := fiveGet s.awu.config.inputs i
    let edge : Edge := if high then .rising else .falling
    let passed := match s.awu.lock with
      | none => none
      | some k => if high ≠ k.active then some ⟨k.active, true⟩ else if k.otherSeen then none else some k
    let lock := if i = .call then passed else s.awu.lock
    let w := { s with
      awu.filtered := fiveSet s.awu.filtered i (some high), awu.lock := lock
      hlk.notices := if i = .door ∧ high = true then raisedAt 1 s.hlk.notices else s.hlk.notices }
    let admitted := c.sense = .either ∨ (c.sense = .rising ∧ high = true) ∨ (c.sense = .falling ∧ high = false)
    let wakes := c.wake = true ∧ (s.enm.present = .el4 ∨ s.enm.present = .el5) ∧ ¬(i = .call ∧ lock.isSome)
    let woke := woken (.field i) (some edge) w
    (fiveGet s.awu.filtered i = some high → Happens (.fieldInputEdge i high) s s ∧
      Happens (.filterInitialLevel i high) s s) ∧
    (fiveGet s.awu.filtered i = some !high →
      (¬admitted → Happens (.fieldInputEdge i high) s w) ∧
      (admitted → wakes → Happens (.fieldInputEdge i high) s
        { woke with awu.lock := if i = .call then some ⟨high, false⟩ else woke.awu.lock }) ∧
      (admitted → ¬wakes → c.activity = true → Happens (.fieldInputEdge i high) s (activated w)) ∧
      (admitted → ¬wakes → c.activity = false → Happens (.fieldInputEdge i high) s w) ∧
      Happens (.filterInitialLevel i high) s s) ∧
    (fiveGet s.awu.filtered i = none → Happens (.fieldInputEdge i high) s s ∧
      Happens (.filterInitialLevel i high) s
        { s with
          awu.filtered := fiveSet s.awu.filtered i (some high)
          hlk.notices := if i = .door ∧ high = true ∧ s.hlk.doorSense = .level then raisedAt 1 s.hlk.notices
            else s.hlk.notices })

/-! ### Invariants that every step keeps -/

/-- The state after reset meets every invariant below. -/
def Obligations.ResetMeetsTheInvariants : Prop :=
  LevelAtTarget State.reset ∧ RestingSlot State.reset ∧ JournalPlaces State.reset ∧ TakingsBalance State.reset ∧
    SerialsRunOn State.reset ∧ TogglesOpposed State.reset ∧ CreditWithinDepth State.reset ∧ ClockInRange State.reset ∧ NoticesWhole State.reset ∧
    QueueOrdered State.reset ∧ NumbersDistinct State.reset

/-- Whenever no level transition is in flight, the present level equals the target level (R156). -/
def Obligations.StepKeepsLevelAtTarget : Prop :=
  ∀ s t : State, LevelAtTarget s → step s = .next t → LevelAtTarget t

/-- Whenever the present level of a powered part is EL4 or EL5, the sale slot is IDLE (R89). -/
def Obligations.StepKeepsRestingSlotIdle : Prop := ∀ s t : State, RestingSlot s → step s = .next t → RestingSlot t

/-- The reservation stands exactly while a sale is PRINTING, and the journal never overflows (R94, R96). The takings
balance against the records (R106). The serials run on without a gap from the released-through serial, over the records and a
PRINTING sale, to the next serial (R94, R97); so every serial from 1 to one below the next is released, in the journal or held
in PRINTING, and only one of these. -/
def Obligations.StepKeepsTheJournalSound : Prop :=
  (∀ s t : State, JournalPlaces s → step s = .next t → JournalPlaces t) ∧
  (∀ s t : State, TakingsBalance s → step s = .next t → TakingsBalance t) ∧
  (∀ s t : State, SerialsRunOn s → step s = .next t → SerialsRunOn t) ∧
  ∀ (s : State) (n : Nat), SerialsRunOn s → 1 ≤ n → n < s.sjn.next →
    let released := n ≤ s.sjn.released
    let recorded := ∃ r ∈ s.sjn.records, r.serial = n
    let held := ∃ x left, s.slc.slot = .printing x left ∧ x.serial = n
    (released ∧ ¬recorded ∧ ¬held) ∨ (¬released ∧ recorded ∧ ¬held) ∨ (¬released ∧ ¬recorded ∧ held)

/-- The next toggle of every panel is the other value of the shown one (R130). -/
def Obligations.StepKeepsTogglesOpposed : Prop :=
  ∀ s t : State, TogglesOpposed s → step s = .next t → TogglesOpposed t

/-- The refresh credit never exceeds the depth of the present level (R122). The refresh queue holds a panel at most
once, urgent entries first (R120). -/
def Obligations.StepKeepsCreditAndQueue : Prop :=
  (∀ s t : State, CreditWithinDepth s → step s = .next t → CreditWithinDepth t) ∧
  (∀ s t : State, QueueOrdered s → step s = .next t → QueueOrdered t)

/-- The clock holds a date of the span and a time of day of the day (R1, R3). There are sixteen sources, and
SUPPLY-CRITICAL stays enabled and HIGH (R182, R184). No two services of the current table share a number, and no two
records of the next one (R15, R18). -/
def Obligations.StepKeepsClockAndNotices : Prop :=
  (∀ s t : State, ClockInRange s → step s = .next t → ClockInRange t) ∧
  (∀ s t : State, NoticesWhole s → step s = .next t → NoticesWhole t) ∧
  (∀ s t : State, NumbersDistinct s → step s = .next t → NumbersDistinct t)

end
end

