-- ==== Sys2Proof/Laws/State.lean ====
section
/-! SUPPORT. The small lemmas of the named updates: one per field per update, and reading after writing an indexed
collection. -/

namespace Sys2Proof.Machine

/-! ### Reading after writing -/

@[simp] theorem Four.get_set {α : Type} (f : Four α) (a b : Addr) (v : α) :
    (f.set a v).get b = if b = a then v else f.get b := by cases a <;> cases b <;> rfl

@[simp] theorem Four.get_map {α β : Type} (g : α → β) (f : Four α) (a : Addr) : (f.map g).get a = g (f.get a) := by
  cases a <;> rfl

@[simp] theorem Four.get_all {α : Type} (v : α) (a : Addr) : (Four.all v).get a = v := by cases a <;> rfl

@[simp] theorem PerLevel.get_set {α : Type} (f : PerLevel α) (a b : Level) (v : α) :
    (f.set a v).get b = if b = a then v else f.get b := by cases a <;> cases b <;> rfl

@[simp] theorem PerPayment.get_set {α : Type} (f : PerPayment α) (a b : Payment) (v : α) :
    (f.set a v).get b = if b = a then v else f.get b := by cases a <;> cases b <;> rfl

@[simp] theorem PerPayment.get_build {β : Type} (g : Payment → β) (a : Payment) : (PerPayment.build g).get a = g a := by
  cases a <;> rfl

@[simp] theorem fiveGet_fiveSet {α : Type} (f : Five α) (a b : FieldInput) (v : α) :
    fiveGet (fiveSet f a v) b = if b = a then v else fiveGet f b := by cases a <;> cases b <;> rfl

@[simp] theorem panelAt_setPanel (a b : Addr) (p : PanelRecord) (s : State) :
    panelAt (setPanel a p s) b = if b = a then p else panelAt s b := by simp [panelAt, setPanel]

/-! ### A panel's record -/

@[simp] theorem setPanel_clock (a : Addr) (p : PanelRecord) (s : State) : (setPanel a p s).clock = s.clock := rfl
@[simp] theorem setPanel_tts (a : Addr) (p : PanelRecord) (s : State) : (setPanel a p s).tts = s.tts := rfl
@[simp] theorem setPanel_tfe (a : Addr) (p : PanelRecord) (s : State) : (setPanel a p s).tfe = s.tfe := rfl
@[simp] theorem setPanel_slc (a : Addr) (p : PanelRecord) (s : State) : (setPanel a p s).slc = s.slc := rfl
@[simp] theorem setPanel_sjn (a : Addr) (p : PanelRecord) (s : State) : (setPanel a p s).sjn = s.sjn := rfl
@[simp] theorem setPanel_bdc (a : Addr) (p : PanelRecord) (s : State) : (setPanel a p s).bdc = s.bdc := rfl
@[simp] theorem setPanel_enm (a : Addr) (p : PanelRecord) (s : State) : (setPanel a p s).enm = s.enm := rfl
@[simp] theorem setPanel_awu (a : Addr) (p : PanelRecord) (s : State) : (setPanel a p s).awu = s.awu := rfl
@[simp] theorem setPanel_hlk (a : Addr) (p : PanelRecord) (s : State) : (setPanel a p s).hlk = s.hlk := rfl
@[simp] theorem setPanel_strap (a : Addr) (p : PanelRecord) (s : State) : (setPanel a p s).strap = s.strap := rfl
@[simp] theorem setPanel_power (a : Addr) (p : PanelRecord) (s : State) : (setPanel a p s).power = s.power := rfl
@[simp] theorem setPanel_free (a : Addr) (p : PanelRecord) (s : State) : (setPanel a p s).free = s.free := rfl
@[simp] theorem setPanel_pending (a : Addr) (p : PanelRecord) (s : State) : (setPanel a p s).pending = s.pending := rfl
@[simp] theorem setPanel_plc_line (a : Addr) (p : PanelRecord) (s : State) :
    (setPanel a p s).plc.line = s.plc.line := rfl
@[simp] theorem setPanel_plc_cold (a : Addr) (p : PanelRecord) (s : State) :
    (setPanel a p s).plc.cold = s.plc.cold := rfl
@[simp] theorem setPanel_plc_mode (a : Addr) (p : PanelRecord) (s : State) :
    (setPanel a p s).plc.mode = s.plc.mode := rfl
@[simp] theorem setPanel_plc_rail (a : Addr) (p : PanelRecord) (s : State) :
    (setPanel a p s).plc.rail = s.plc.rail := rfl
@[simp] theorem setPanel_plc_idle (a : Addr) (p : PanelRecord) (s : State) :
    (setPanel a p s).plc.idle = s.plc.idle := rfl
@[simp] theorem setPanel_plc_railLevel (a : Addr) (p : PanelRecord) (s : State) :
    (setPanel a p s).plc.railLevel = s.plc.railLevel := rfl

/-! ### The line -/

@[simp] theorem setLine_clock (t : Option Transaction) (s : State) : (setLine t s).clock = s.clock := rfl
@[simp] theorem setLine_tts (t : Option Transaction) (s : State) : (setLine t s).tts = s.tts := rfl
@[simp] theorem setLine_tfe (t : Option Transaction) (s : State) : (setLine t s).tfe = s.tfe := rfl
@[simp] theorem setLine_slc (t : Option Transaction) (s : State) : (setLine t s).slc = s.slc := rfl
@[simp] theorem setLine_sjn (t : Option Transaction) (s : State) : (setLine t s).sjn = s.sjn := rfl
@[simp] theorem setLine_bdc (t : Option Transaction) (s : State) : (setLine t s).bdc = s.bdc := rfl
@[simp] theorem setLine_enm (t : Option Transaction) (s : State) : (setLine t s).enm = s.enm := rfl
@[simp] theorem setLine_awu (t : Option Transaction) (s : State) : (setLine t s).awu = s.awu := rfl
@[simp] theorem setLine_hlk (t : Option Transaction) (s : State) : (setLine t s).hlk = s.hlk := rfl
@[simp] theorem setLine_strap (t : Option Transaction) (s : State) : (setLine t s).strap = s.strap := rfl
@[simp] theorem setLine_power (t : Option Transaction) (s : State) : (setLine t s).power = s.power := rfl
@[simp] theorem setLine_free (t : Option Transaction) (s : State) : (setLine t s).free = s.free := rfl
@[simp] theorem setLine_pending (t : Option Transaction) (s : State) : (setLine t s).pending = s.pending := rfl
@[simp] theorem setLine_plc_panels (t : Option Transaction) (s : State) : (setLine t s).plc.panels = s.plc.panels := rfl
@[simp] theorem setLine_plc_line (t : Option Transaction) (s : State) : (setLine t s).plc.line = t := rfl
@[simp] theorem setLine_plc_cold (t : Option Transaction) (s : State) : (setLine t s).plc.cold = s.plc.cold := rfl
@[simp] theorem setLine_plc_mode (t : Option Transaction) (s : State) : (setLine t s).plc.mode = s.plc.mode := rfl
@[simp] theorem setLine_plc_rail (t : Option Transaction) (s : State) : (setLine t s).plc.rail = s.plc.rail := rfl
@[simp] theorem setLine_plc_idle (t : Option Transaction) (s : State) : (setLine t s).plc.idle = s.plc.idle := rfl
@[simp] theorem setLine_plc_railLevel (t : Option Transaction) (s : State) :
    (setLine t s).plc.railLevel = s.plc.railLevel := rfl

/-! ### The receiver -/

@[simp] theorem setReceiver_clock (r : Receiver) (s : State) : (setReceiver r s).clock = s.clock := rfl
@[simp] theorem setReceiver_tts (r : Receiver) (s : State) : (setReceiver r s).tts = s.tts := rfl
@[simp] theorem setReceiver_tfe (r : Receiver) (s : State) : (setReceiver r s).tfe = s.tfe := rfl
@[simp] theorem setReceiver_slc (r : Receiver) (s : State) : (setReceiver r s).slc = s.slc := rfl
@[simp] theorem setReceiver_sjn (r : Receiver) (s : State) : (setReceiver r s).sjn = s.sjn := rfl
@[simp] theorem setReceiver_bdc (r : Receiver) (s : State) : (setReceiver r s).bdc = s.bdc := rfl
@[simp] theorem setReceiver_plc (r : Receiver) (s : State) : (setReceiver r s).plc = s.plc := rfl
@[simp] theorem setReceiver_enm (r : Receiver) (s : State) : (setReceiver r s).enm = s.enm := rfl
@[simp] theorem setReceiver_awu (r : Receiver) (s : State) : (setReceiver r s).awu = s.awu := rfl
@[simp] theorem setReceiver_strap (r : Receiver) (s : State) : (setReceiver r s).strap = s.strap := rfl
@[simp] theorem setReceiver_power (r : Receiver) (s : State) : (setReceiver r s).power = s.power := rfl
@[simp] theorem setReceiver_free (r : Receiver) (s : State) : (setReceiver r s).free = s.free := rfl
@[simp] theorem setReceiver_pending (r : Receiver) (s : State) : (setReceiver r s).pending = s.pending := rfl
@[simp] theorem setReceiver_hlk_receiver (r : Receiver) (s : State) : (setReceiver r s).hlk.receiver = r := rfl
@[simp] theorem setReceiver_hlk_waiting (r : Receiver) (s : State) :
    (setReceiver r s).hlk.waiting = s.hlk.waiting := rfl
@[simp] theorem setReceiver_hlk_reply (r : Receiver) (s : State) : (setReceiver r s).hlk.reply = s.hlk.reply := rfl
@[simp] theorem setReceiver_hlk_restartDue (r : Receiver) (s : State) :
    (setReceiver r s).hlk.restartDue = s.hlk.restartDue := rfl
@[simp] theorem setReceiver_hlk_notices (r : Receiver) (s : State) :
    (setReceiver r s).hlk.notices = s.hlk.notices := rfl
@[simp] theorem setReceiver_hlk_doorSense (r : Receiver) (s : State) :
    (setReceiver r s).hlk.doorSense = s.hlk.doorSense := rfl
@[simp] theorem setReceiver_hlk_day (r : Receiver) (s : State) : (setReceiver r s).hlk.day = s.hlk.day := rfl
@[simp] theorem setReceiver_hlk_hold (r : Receiver) (s : State) : (setReceiver r s).hlk.hold = s.hlk.hold := rfl
@[simp] theorem setReceiver_hlk_fastLine (r : Receiver) (s : State) :
    (setReceiver r s).hlk.fastLine = s.hlk.fastLine := rfl

/-! ### The reply -/

@[simp] theorem sendReply_clock (k g : Byte) (a : Answer) (s : State) : (sendReply k g a s).clock = s.clock := rfl
@[simp] theorem sendReply_tts (k g : Byte) (a : Answer) (s : State) : (sendReply k g a s).tts = s.tts := rfl
@[simp] theorem sendReply_tfe (k g : Byte) (a : Answer) (s : State) : (sendReply k g a s).tfe = s.tfe := rfl
@[simp] theorem sendReply_slc (k g : Byte) (a : Answer) (s : State) : (sendReply k g a s).slc = s.slc := rfl
@[simp] theorem sendReply_sjn (k g : Byte) (a : Answer) (s : State) : (sendReply k g a s).sjn = s.sjn := rfl
@[simp] theorem sendReply_bdc (k g : Byte) (a : Answer) (s : State) : (sendReply k g a s).bdc = s.bdc := rfl
@[simp] theorem sendReply_plc (k g : Byte) (a : Answer) (s : State) : (sendReply k g a s).plc = s.plc := rfl
@[simp] theorem sendReply_enm (k g : Byte) (a : Answer) (s : State) : (sendReply k g a s).enm = s.enm := rfl
@[simp] theorem sendReply_awu (k g : Byte) (a : Answer) (s : State) : (sendReply k g a s).awu = s.awu := rfl
@[simp] theorem sendReply_strap (k g : Byte) (a : Answer) (s : State) : (sendReply k g a s).strap = s.strap := rfl
@[simp] theorem sendReply_power (k g : Byte) (a : Answer) (s : State) : (sendReply k g a s).power = s.power := rfl
@[simp] theorem sendReply_free (k g : Byte) (a : Answer) (s : State) : (sendReply k g a s).free = s.free := rfl
@[simp] theorem sendReply_pending (k g : Byte) (a : Answer) (s : State) : (sendReply k g a s).pending = s.pending := rfl
@[simp] theorem sendReply_hlk_receiver (k g : Byte) (a : Answer) (s : State) :
    (sendReply k g a s).hlk.receiver = s.hlk.receiver := rfl
@[simp] theorem sendReply_hlk_waiting (k g : Byte) (a : Answer) (s : State) :
    (sendReply k g a s).hlk.waiting = s.hlk.waiting := rfl
@[simp] theorem sendReply_hlk_reply (k g : Byte) (a : Answer) (s : State) :
    (sendReply k g a s).hlk.reply = some ⟨k ||| 0x80#8, g, a⟩ := rfl
@[simp] theorem sendReply_hlk_restartDue (k g : Byte) (a : Answer) (s : State) :
    (sendReply k g a s).hlk.restartDue = s.hlk.restartDue := rfl
@[simp] theorem sendReply_hlk_notices (k g : Byte) (a : Answer) (s : State) :
    (sendReply k g a s).hlk.notices = s.hlk.notices := rfl
@[simp] theorem sendReply_hlk_doorSense (k g : Byte) (a : Answer) (s : State) :
    (sendReply k g a s).hlk.doorSense = s.hlk.doorSense := rfl
@[simp] theorem sendReply_hlk_day (k g : Byte) (a : Answer) (s : State) : (sendReply k g a s).hlk.day = s.hlk.day := rfl
@[simp] theorem sendReply_hlk_hold (k g : Byte) (a : Answer) (s : State) :
    (sendReply k g a s).hlk.hold = s.hlk.hold := rfl
@[simp] theorem sendReply_hlk_fastLine (k g : Byte) (a : Answer) (s : State) :
    (sendReply k g a s).hlk.fastLine = s.hlk.fastLine := rfl

/-! ### A raised notice -/

@[simp] theorem raiseNotice_clock (src : Source) (s : State) : (raiseNotice src s).clock = s.clock := rfl
@[simp] theorem raiseNotice_tts (src : Source) (s : State) : (raiseNotice src s).tts = s.tts := rfl
@[simp] theorem raiseNotice_tfe (src : Source) (s : State) : (raiseNotice src s).tfe = s.tfe := rfl
@[simp] theorem raiseNotice_slc (src : Source) (s : State) : (raiseNotice src s).slc = s.slc := rfl
@[simp] theorem raiseNotice_sjn (src : Source) (s : State) : (raiseNotice src s).sjn = s.sjn := rfl
@[simp] theorem raiseNotice_bdc (src : Source) (s : State) : (raiseNotice src s).bdc = s.bdc := rfl
@[simp] theorem raiseNotice_plc (src : Source) (s : State) : (raiseNotice src s).plc = s.plc := rfl
@[simp] theorem raiseNotice_enm (src : Source) (s : State) : (raiseNotice src s).enm = s.enm := rfl
@[simp] theorem raiseNotice_awu (src : Source) (s : State) : (raiseNotice src s).awu = s.awu := rfl
@[simp] theorem raiseNotice_strap (src : Source) (s : State) : (raiseNotice src s).strap = s.strap := rfl
@[simp] theorem raiseNotice_power (src : Source) (s : State) : (raiseNotice src s).power = s.power := rfl
@[simp] theorem raiseNotice_free (src : Source) (s : State) : (raiseNotice src s).free = s.free := rfl
@[simp] theorem raiseNotice_pending (src : Source) (s : State) : (raiseNotice src s).pending = s.pending := rfl
@[simp] theorem raiseNotice_hlk_receiver (src : Source) (s : State) :
    (raiseNotice src s).hlk.receiver = s.hlk.receiver := rfl
@[simp] theorem raiseNotice_hlk_waiting (src : Source) (s : State) :
    (raiseNotice src s).hlk.waiting = s.hlk.waiting := rfl
@[simp] theorem raiseNotice_hlk_reply (src : Source) (s : State) : (raiseNotice src s).hlk.reply = s.hlk.reply := rfl
@[simp] theorem raiseNotice_hlk_restartDue (src : Source) (s : State) :
    (raiseNotice src s).hlk.restartDue = s.hlk.restartDue := rfl
@[simp] theorem raiseNotice_hlk_doorSense (src : Source) (s : State) :
    (raiseNotice src s).hlk.doorSense = s.hlk.doorSense := rfl
@[simp] theorem raiseNotice_hlk_day (src : Source) (s : State) : (raiseNotice src s).hlk.day = s.hlk.day := rfl
@[simp] theorem raiseNotice_hlk_hold (src : Source) (s : State) : (raiseNotice src s).hlk.hold = s.hlk.hold := rfl
@[simp] theorem raiseNotice_hlk_fastLine (src : Source) (s : State) :
    (raiseNotice src s).hlk.fastLine = s.hlk.fastLine := rfl

/-! ### The clock placed -/

@[simp] theorem placeClock_tts (c : ClockSetting) (s : State) : (placeClock c s).tts = s.tts := rfl
@[simp] theorem placeClock_tfe (c : ClockSetting) (s : State) : (placeClock c s).tfe = s.tfe := rfl
@[simp] theorem placeClock_slc (c : ClockSetting) (s : State) : (placeClock c s).slc = s.slc := rfl
@[simp] theorem placeClock_sjn (c : ClockSetting) (s : State) : (placeClock c s).sjn = s.sjn := rfl
@[simp] theorem placeClock_bdc (c : ClockSetting) (s : State) : (placeClock c s).bdc = s.bdc := rfl
@[simp] theorem placeClock_plc (c : ClockSetting) (s : State) : (placeClock c s).plc = s.plc := rfl
@[simp] theorem placeClock_enm (c : ClockSetting) (s : State) : (placeClock c s).enm = s.enm := rfl
@[simp] theorem placeClock_awu (c : ClockSetting) (s : State) : (placeClock c s).awu = s.awu := rfl
@[simp] theorem placeClock_hlk (c : ClockSetting) (s : State) : (placeClock c s).hlk = s.hlk := rfl
@[simp] theorem placeClock_strap (c : ClockSetting) (s : State) : (placeClock c s).strap = s.strap := rfl
@[simp] theorem placeClock_power (c : ClockSetting) (s : State) : (placeClock c s).power = s.power := rfl
@[simp] theorem placeClock_free (c : ClockSetting) (s : State) : (placeClock c s).free = s.free := rfl
@[simp] theorem placeClock_pending (c : ClockSetting) (s : State) : (placeClock c s).pending = s.pending := rfl
@[simp] theorem placeClock_clock (c : ClockSetting) (s : State) : (placeClock c s).clock = some c := rfl

/-! ### The lamp -/

@[simp] theorem setLamp_clock (s : State) : (setLamp s).clock = s.clock := rfl
@[simp] theorem setLamp_tts (s : State) : (setLamp s).tts = s.tts := rfl
@[simp] theorem setLamp_tfe (s : State) : (setLamp s).tfe = s.tfe := rfl
@[simp] theorem setLamp_slc (s : State) : (setLamp s).slc = s.slc := rfl
@[simp] theorem setLamp_sjn (s : State) : (setLamp s).sjn = s.sjn := rfl
@[simp] theorem setLamp_plc (s : State) : (setLamp s).plc = s.plc := rfl
@[simp] theorem setLamp_enm (s : State) : (setLamp s).enm = s.enm := rfl
@[simp] theorem setLamp_awu (s : State) : (setLamp s).awu = s.awu := rfl
@[simp] theorem setLamp_hlk (s : State) : (setLamp s).hlk = s.hlk := rfl
@[simp] theorem setLamp_strap (s : State) : (setLamp s).strap = s.strap := rfl
@[simp] theorem setLamp_power (s : State) : (setLamp s).power = s.power := rfl
@[simp] theorem setLamp_free (s : State) : (setLamp s).free = s.free := rfl
@[simp] theorem setLamp_pending (s : State) : (setLamp s).pending = s.pending := rfl
@[simp] theorem setLamp_bdc_profiles (s : State) : (setLamp s).bdc.profiles = s.bdc.profiles := rfl
@[simp] theorem setLamp_bdc_host (s : State) : (setLamp s).bdc.host = s.bdc.host := rfl
@[simp] theorem setLamp_bdc_auto (s : State) : (setLamp s).bdc.auto = s.bdc.auto := rfl
@[simp] theorem setLamp_bdc_arrivals (s : State) : (setLamp s).bdc.arrivals = s.bdc.arrivals := rfl
@[simp] theorem setLamp_bdc_composed (s : State) : (setLamp s).bdc.composed = s.bdc.composed := rfl
@[simp] theorem setLamp_bdc_queue (s : State) : (setLamp s).bdc.queue = s.bdc.queue := rfl
@[simp] theorem setLamp_bdc_credit (s : State) : (setLamp s).bdc.credit = s.bdc.credit := rfl
@[simp] theorem setLamp_bdc_accrual (s : State) : (setLamp s).bdc.accrual = s.bdc.accrual := rfl
@[simp] theorem setLamp_bdc_position (s : State) : (setLamp s).bdc.position = s.bdc.position := rfl
@[simp] theorem setLamp_bdc_rotation (s : State) : (setLamp s).bdc.rotation = s.bdc.rotation := rfl
@[simp] theorem setLamp_bdc_sales (s : State) : (setLamp s).bdc.sales = s.bdc.sales := rfl

/-! ### The rotation timer -/

@[simp] theorem restartRotation_clock (s : State) : (restartRotation s).clock = s.clock := rfl
@[simp] theorem restartRotation_tts (s : State) : (restartRotation s).tts = s.tts := rfl
@[simp] theorem restartRotation_tfe (s : State) : (restartRotation s).tfe = s.tfe := rfl
@[simp] theorem restartRotation_slc (s : State) : (restartRotation s).slc = s.slc := rfl
@[simp] theorem restartRotation_sjn (s : State) : (restartRotation s).sjn = s.sjn := rfl
@[simp] theorem restartRotation_plc (s : State) : (restartRotation s).plc = s.plc := rfl
@[simp] theorem restartRotation_enm (s : State) : (restartRotation s).enm = s.enm := rfl
@[simp] theorem restartRotation_awu (s : State) : (restartRotation s).awu = s.awu := rfl
@[simp] theorem restartRotation_hlk (s : State) : (restartRotation s).hlk = s.hlk := rfl
@[simp] theorem restartRotation_strap (s : State) : (restartRotation s).strap = s.strap := rfl
@[simp] theorem restartRotation_power (s : State) : (restartRotation s).power = s.power := rfl
@[simp] theorem restartRotation_free (s : State) : (restartRotation s).free = s.free := rfl
@[simp] theorem restartRotation_pending (s : State) : (restartRotation s).pending = s.pending := rfl
@[simp] theorem restartRotation_bdc_profiles (s : State) : (restartRotation s).bdc.profiles = s.bdc.profiles := rfl
@[simp] theorem restartRotation_bdc_host (s : State) : (restartRotation s).bdc.host = s.bdc.host := rfl
@[simp] theorem restartRotation_bdc_auto (s : State) : (restartRotation s).bdc.auto = s.bdc.auto := rfl
@[simp] theorem restartRotation_bdc_arrivals (s : State) : (restartRotation s).bdc.arrivals = s.bdc.arrivals := rfl
@[simp] theorem restartRotation_bdc_composed (s : State) : (restartRotation s).bdc.composed = s.bdc.composed := rfl
@[simp] theorem restartRotation_bdc_queue (s : State) : (restartRotation s).bdc.queue = s.bdc.queue := rfl
@[simp] theorem restartRotation_bdc_credit (s : State) : (restartRotation s).bdc.credit = s.bdc.credit := rfl
@[simp] theorem restartRotation_bdc_accrual (s : State) : (restartRotation s).bdc.accrual = s.bdc.accrual := rfl
@[simp] theorem restartRotation_bdc_position (s : State) : (restartRotation s).bdc.position = s.bdc.position := rfl
@[simp] theorem restartRotation_bdc_lamp (s : State) : (restartRotation s).bdc.lamp = s.bdc.lamp := rfl
@[simp] theorem restartRotation_bdc_sales (s : State) : (restartRotation s).bdc.sales = s.bdc.sales := rfl

end Sys2Proof.Machine
end

