-- ==== Sys2Proof/Laws/Settled.lean ====
section
/-! SUPPORT. The reactions of a taking come to an end, and `settle` reaches it: after it none stands, and a reaction that stands
before it comes about (log 6). -/

namespace Sys2Proof.Machine

/-! ### What every reaction lowers -/

/-- The starts and completions of lowerings that can still follow each other in one taking: a raise waits for its timer, and
a lowering only leads lower (R156 to R160). -/
def movesLeft (s : State) : Nat :=
  match s.enm.transition with
  | .none => 2 * (6 - levelRank s.enm.present)
  | .raising _ _ => 0
  | .lowering d => 2 * (6 - levelRank d) + 1

/-- What can still come about at one level, the cold flag aside. An entry that leaves may change the urgent-entry condition
and the cold flag. -/
def dueHere (s : State) : Nat :=
  (if s.awu.brief = true ∧ s.awu.returnTimer = .expired then 16 else 0) + 3 * s.bdc.queue.length +
    (if urgentWaiting s = s.awu.urgent then 0 else 1) + (if s.plc.line = none then 3 else 0)

/-- The cold flag's part of it. -/
def dueCold (s : State) : Nat := if coldNow s = s.plc.cold then 0 else 1

/-- What every reaction lowers. A move may fill the queue with four entries. -/
def dueWeight (s : State) : Nat := 16 * movesLeft s + dueHere s + dueCold s

theorem dueCold_le (s : State) : dueCold s ≤ 1 := by
  unfold dueCold
  split <;> omega

theorem levelRank_le (l : Level) : levelRank l ≤ 6 := by cases l <;> decide

theorem levelRank_inj {a b : Level} (h : levelRank a = levelRank b) : a = b := by cases a <;> cases b <;> simp_all [levelRank]

theorem dueWeight_bound (s : State) : dueWeight s ≤ 256 + 3 * s.bdc.queue.length := by
  have hm : movesLeft s ≤ 13 := by
    unfold movesLeft
    split <;> omega
  unfold dueWeight dueHere dueCold
  repeat' split
  all_goals omega

/-! ### The operations that change nothing of it -/

theorem coldNow_eq {s t : State} (hl : ∀ a, (panelAt t a).link = (panelAt s a).link)
    (ht : ∀ a, (panelAt t a).temperature = (panelAt s a).temperature) (hc : t.plc.cold = s.plc.cold) :
    coldNow t = coldNow s := by
  simp only [panelAt] at hl ht
  simp only [coldNow, coldestTemperature, hl, ht, hc]

/-- Once judged, the cold flag has the value it is judged to. -/
theorem coldNow_judged {s t : State} (h : coldestTemperature t = coldestTemperature s) (hc : t.plc.cold = coldNow s) :
    coldNow t = coldNow s := by
  simp only [coldNow] at hc ⊢
  simp only [h, hc]
  cases coldestTemperature s with
  | none => rfl
  | some t => simp only []; repeat' split <;> simp_all

@[simp] theorem dueWeight_raiseNotice (n : Source) (s : State) : dueWeight (raiseNotice n s) = dueWeight s := rfl

@[simp] theorem dueWeight_followRailMode (s : State) : dueWeight (followRailMode s) = dueWeight s := by
  unfold followRailMode
  simp only
  repeat' split
  all_goals rfl

@[simp] theorem dueWeight_setLamp (s : State) : dueWeight (setLamp s) = dueWeight s := rfl

@[simp] theorem dueWeight_takeLoadSettings (s : State) : dueWeight (takeLoadSettings s) = dueWeight s := rfl

@[simp] theorem dueWeight_dormantCredit (l : Level) (s : State) : dueWeight (dormantCredit l s) = dueWeight s := by
  unfold dormantCredit
  split <;> rfl

@[simp] theorem dueWeight_withdraw (w : Withdrawal) (s : State) : dueWeight (withdraw w s) = dueWeight s := by
  unfold withdraw
  split
  · unfold putSlot
    repeat' split
    all_goals rfl
  · rfl

/-! ### The operations that fill the queue -/

theorem length_enqueue (a : Addr) (urgent : Bool) (q : List QueueEntry) : (enqueue a urgent q).length ≤ q.length + 1 := by
  have h : ∀ q : List QueueEntry, (q.filter (·.urgent)).length + (q.filter (!·.urgent)).length = q.length := by
    intro q
    induction q with
    | nil => rfl
    | cons e l ih => cases he : e.urgent <;> simp [he] <;> omega
  have hf : (q.filter fun x => !x.urgent && !(x.panel == a)).length ≤ (q.filter (!·.urgent)).length := by
    rw [show (fun x : QueueEntry => !x.urgent && !(x.panel == a)) = fun x => !(x.panel == a) && !x.urgent from
      funext fun x => Bool.and_comm _ _, ← List.filter_filter]
    exact List.length_filter_le _ _
  have := h q
  unfold enqueue
  repeat' split
  · simp only [List.length_append, List.length_cons]; omega
  · simp
  · simp only [List.length_append, List.length_cons]; omega
  · omega

/-- Between `s` and `t` the queue has at most `n` entries more, and nothing else of what reactions look at has changed. -/
structure Filled (n : Nat) (s t : State) : Prop where
  transition : t.enm.transition = s.enm.transition
  present : t.enm.present = s.enm.present
  brief : t.awu.brief = s.awu.brief
  returnTimer : t.awu.returnTimer = s.awu.returnTimer
  urgent : t.awu.urgent = s.awu.urgent
  plc : t.plc = s.plc
  queue : t.bdc.queue.length ≤ s.bdc.queue.length + n

theorem Filled.refl (s : State) : Filled 0 s s := ⟨rfl, rfl, rfl, rfl, rfl, rfl, Nat.le_refl _⟩

theorem Filled.trans {m n : Nat} {s t u : State} (h : Filled m s t) (k : Filled n t u) : Filled (m + n) s u :=
  ⟨k.transition.trans h.transition, k.present.trans h.present, k.brief.trans h.brief, k.returnTimer.trans h.returnTimer,
    k.urgent.trans h.urgent, k.plc.trans h.plc, by have := h.queue; have := k.queue; omega⟩

theorem Filled.mono {m n : Nat} {s t : State} (h : Filled m s t) (hm : m ≤ n) : Filled n s t :=
  { h with queue := by have := h.queue; omega }

theorem filled_requestRefresh (urgent : Bool) (s : State) (a : Addr) : Filled 1 s (requestRefresh urgent s a) := by
  unfold requestRefresh
  split
  · exact ⟨rfl, rfl, rfl, rfl, rfl, rfl, length_enqueue a urgent s.bdc.queue⟩
  · exact (Filled.refl s).mono (by omega)

theorem filled_requestEach (want : Profile → Option Bool) (s : State) : Filled 4 s (requestEach want s) := by
  have h : ∀ (l : List Addr) (s : State), Filled l.length s (l.foldl (fun s a => match want (s.bdc.profiles.get a) with
      | some urgent => requestRefresh urgent s a
      | none => s) s) := by
    intro l
    induction l with
    | nil => exact Filled.refl
    | cons a l ih =>
      intro s
      refine Filled.mono (Filled.trans (m := 1) ?_ (ih _)) (by simp only [List.length_cons]; omega)
      dsimp only
      split
      · exact filled_requestRefresh _ s a
      · exact (Filled.refl s).mono (by omega)
  exact h allPanels s

theorem dueWeight_filled {s t : State} (h : Filled 4 s t) : dueWeight t ≤ dueWeight s + 13 := by
  have hc : coldNow t = coldNow s := by simp only [coldNow, coldestTemperature, h.plc]
  have hq := h.queue
  simp only [dueWeight, dueHere, dueCold, movesLeft, h.transition, h.present, h.brief, h.returnTimer, h.urgent, h.plc, hc]
  repeat' split
  all_goals omega

theorem dueWeight_decideSales (s : State) : dueWeight (decideSales s) ≤ dueWeight s + 13 := by
  unfold decideSales
  simp only
  split
  · omega
  · exact dueWeight_filled (s := { s with bdc.sales := (salesReasons s).head? }) (filled_requestEach _ _)

/-! ### Levels -/

theorem dueWeight_startRaise (d : Level) (s : State) : dueWeight (startRaise d s) ≤ dueWeight s := by
  unfold startRaise
  rw [dueWeight_followRailMode]
  show 16 * 0 + dueHere s + dueCold s ≤ 16 * movesLeft s + dueHere s + dueCold s
  omega

theorem dueWeight_startLowering {d : Level} {s : State} (ht : s.enm.transition = .none)
    (hd : levelRank s.enm.present < levelRank d) : dueWeight (startLowering d s) ≤ dueWeight s := by
  have hm : movesLeft s = 2 * (6 - levelRank s.enm.present) := by simp [movesLeft, ht]
  have h : dueWeight { s with enm.transition := .lowering d } + 16 ≤ dueWeight s := by
    have := levelRank_le d
    show 16 * (2 * (6 - levelRank d) + 1) + dueHere s + dueCold s + 16 ≤ 16 * movesLeft s + dueHere s + dueCold s
    omega
  unfold startLowering
  dsimp only at h ⊢
  split
  · rw [dueWeight_withdraw]
    exact Nat.le_trans (dueWeight_decideSales _) (by omega)
  · omega

/-- A target computed again, with the transition it starts, leaves no more to do than before. -/
theorem dueWeight_retarget (s : State) : dueWeight (retarget s) ≤ dueWeight s := by
  unfold retarget
  simp only
  split
  next ht =>
    split
    · exact Nat.le_refl _
    next hne =>
      have hr : levelRank (computeTarget s) ≠ levelRank s.enm.present := fun h => hne (levelRank_inj h)
      generalize computeTarget s = l at hr ⊢
      split
      · exact dueWeight_startRaise l { s with enm.target := l }
      · exact dueWeight_startLowering (s := { s with enm.target := l }) ht (show levelRank s.enm.present < _ by omega)
  · exact Nat.le_refl _

theorem dueWeight_startBrief {s : State} (h : s.awu.brief = false) : dueWeight (startBrief s) ≤ dueWeight s := by
  unfold startBrief
  refine Nat.le_trans (dueWeight_retarget _) ?_
  rw [dueWeight_followRailMode]
  have e : dueHere s = 0 + 3 * s.bdc.queue.length + (if urgentWaiting s = s.awu.urgent then 0 else 1) +
      (if s.plc.line = none then 3 else 0) := by simp [dueHere, h]
  show 16 * movesLeft s + (0 + 3 * s.bdc.queue.length + (if urgentWaiting s = s.awu.urgent then 0 else 1) +
    (if s.plc.line = none then 3 else 0)) + dueCold s ≤ 16 * movesLeft s + dueHere s + dueCold s
  omega

theorem dueWeight_judgeBriefStart (s : State) : dueWeight (judgeBriefStart s) ≤ dueWeight s := by
  unfold judgeBriefStart
  split
  next h => exact dueWeight_startBrief (by simp only [briefStarts, Bool.and_eq_true] at h; simpa using h.2)
  · exact Nat.le_refl _

/-! ### Every reaction lowers it -/

theorem dueWeight_reportUrgent {s : State} (h : urgentWaiting s ≠ s.awu.urgent) :
    dueWeight (reportUrgent s) < dueWeight s := by
  have hs : dueWeight { s with awu.urgent := urgentWaiting s } < dueWeight s := by
    have hu : dueHere s = dueHere { s with awu.urgent := urgentWaiting s } + 1 := by
      have e : urgentWaiting { s with awu.urgent := urgentWaiting s } = urgentWaiting s := rfl
      simp only [dueHere, e, if_true, if_neg h]
      omega
    show 16 * movesLeft s + dueHere { s with awu.urgent := urgentWaiting s } + dueCold s <
      16 * movesLeft s + dueHere s + dueCold s
    omega
  unfold reportUrgent
  simp only
  split
  · exact Nat.lt_of_le_of_lt (dueWeight_judgeBriefStart _) hs
  · exact hs

theorem dueWeight_setCold (l : Option Level) (s : State) : dueWeight (setCold l s) ≤ dueWeight s := by
  unfold setCold
  split
  · exact Nat.le_refl _
  · exact dueWeight_retarget _

theorem dueWeight_judgeCold {s : State} (h : coldNow s ≠ s.plc.cold) : dueWeight (judgeCold s) < dueWeight s := by
  refine Nat.lt_of_le_of_lt (dueWeight_setCold _ _) ?_
  have hc : dueCold { s with plc.cold := coldNow s } = 0 := if_pos (coldNow_judged (t := { s with plc.cold := coldNow s }) (s := s) rfl rfl)
  have hs : dueCold s = 1 := if_neg h
  show 16 * movesLeft s + dueHere s + dueCold { s with plc.cold := coldNow s } < 16 * movesLeft s + dueHere s + dueCold s
  omega

theorem dueWeight_beginTransaction (a : Addr) (w : Work) (p : LinePhase) {s : State} (h : s.plc.line = none) :
    dueWeight (beginTransaction a w p s) + 3 = dueWeight s := by
  have hw : dueWeight s = dueWeight { s with plc.line := some ⟨a, w, .settle, false⟩ } + 3 := by
    have e : dueHere s = dueHere { s with plc.line := some ⟨a, w, .settle, false⟩ } + 3 := by
      have e : urgentWaiting { s with plc.line := some ⟨a, w, .settle, false⟩ } = urgentWaiting s := rfl
      simp only [dueHere, e, h, if_true, reduceCtorEq, if_false, Nat.add_zero]
    show 16 * movesLeft s + dueHere s + dueCold s =
      16 * movesLeft s + dueHere { s with plc.line := some ⟨a, w, .settle, false⟩ } + dueCold s + 3
    omega
  rw [hw]
  unfold beginTransaction
  simp only
  repeat' split
  all_goals rfl

/-- A record that keeps its link state and temperature keeps the cold flag's judgement. -/
theorem dueWeight_setPanel {a : Addr} {p : PanelRecord} {s : State} (hl : p.link = (panelAt s a).link)
    (ht : p.temperature = (panelAt s a).temperature) : dueWeight (setPanel a p s) = dueWeight s := by
  have hc : coldNow (setPanel a p s) = coldNow s := by
    refine coldNow_eq ?_ ?_ rfl <;> intro b <;> rw [panelAt_setPanel] <;> split <;> simp_all
  have hd : dueCold (setPanel a p s) = dueCold s := by simp only [dueCold, hc, setPanel_plc_cold]
  show 16 * movesLeft s + dueHere s + dueCold (setPanel a p s) = 16 * movesLeft s + dueHere s + dueCold s
  rw [hd]

theorem dueWeight_startProbe (a : Addr) {s : State} (h : s.plc.line = none) :
    dueWeight (startProbe a s) < dueWeight s := by
  have hp := dueWeight_setPanel (a := a) (s := s) (p := { panelAt s a with probeDue := false }) rfl rfl
  have hb := dueWeight_beginTransaction a .probe probeSent (s := setPanel a { panelAt s a with probeDue := false } s) h
  rw [hp] at hb
  unfold startProbe
  omega

theorem dueWeight_goCold (a : Addr) (s : State) : dueWeight (goCold a s) ≤ dueWeight s + 1 := by
  unfold goCold
  rw [dueWeight_raiseNotice]
  generalize { panelAt s a with link := .cold, probeTimer := some coldProbe } = p
  have := dueCold_le (setPanel a p s)
  show 16 * movesLeft s + dueHere s + dueCold (setPanel a p s) ≤ 16 * movesLeft s + dueHere s + dueCold s + 1
  omega

theorem dueWeight_startRefresh (a : Addr) (p : Page) {s : State} (h : s.plc.line = none) :
    dueWeight (startRefresh a p s) ≤ dueWeight s + 1 := by
  unfold startRefresh
  simp only
  split
  · exact dueWeight_goCold a s
  · have hp := dueWeight_setPanel (a := a) (s := s) (p := { panelAt s a with attempts := 0 }) rfl rfl
    generalize Work.refresh _ = w
    have hb := dueWeight_beginTransaction a w .load (s := setPanel a { panelAt s a with attempts := 0 } s) h
    rw [hp] at hb
    dsimp only at hb ⊢
    omega

theorem dueWeight_serve {a : Addr} {s : State} (h : s.plc.line = none) (he : ∃ e ∈ s.bdc.queue, e.panel = a) :
    dueWeight (serve a s) < dueWeight s := by
  have hq : (s.bdc.queue.filter fun e => !(e.panel == a)).length < s.bdc.queue.length := by
    obtain ⟨e, hm, hp⟩ := he
    exact List.length_filter_lt_length_iff_exists.mpr ⟨e, hm, by simp [hp]⟩
  unfold serve
  simp only
  generalize composePage (s.bdc.profiles.get a) s = page
  have hv : ∀ v : State, v.plc = s.plc → v.enm = s.enm → v.awu = s.awu → v.bdc.queue = s.bdc.queue.filter (fun e => !(e.panel == a)) →
      dueWeight v + 2 ≤ dueWeight s := by
    intro v hp hen hw hb
    have hc : coldNow v = coldNow s := by simp only [coldNow, coldestTemperature, hp]
    have hm : movesLeft v = movesLeft s := by simp only [movesLeft, hen]
    have hd : dueCold v = dueCold s := by simp only [dueCold, hc, hp]
    have hh : dueHere v + 2 ≤ dueHere s := by
      simp only [dueHere, hp, hw, hb]
      repeat' split
      all_goals omega
    simp only [dueWeight, hm, hd]
    omega
  generalize hg : ({ (if (s.bdc.profiles.get a).kind = .messages then settlePosition s else s) with
      bdc.queue := ((if (s.bdc.profiles.get a).kind = .messages then settlePosition s else s) : State).bdc.queue.filter fun e => !(e.panel == a)
      bdc.composed := ((if (s.bdc.profiles.get a).kind = .messages then settlePosition s else s) : State).bdc.composed.set a (some page) } : State) = v
  have hvs := hv v (by rw [← hg]; dsimp only; split <;> rfl) (by rw [← hg]; dsimp only; split <;> rfl)
    (by rw [← hg]; dsimp only; split <;> rfl) (by rw [← hg]; dsimp only; split <;> rfl)
  split
  · omega
  · have := dueWeight_startRefresh a page (s := v) (by rw [← hg]; dsimp only; split <;> exact h)
    omega

theorem dueWeight_endBrief {s : State} (hb : s.awu.brief = true) (hr : s.awu.returnTimer = .expired) :
    dueWeight (endBrief s) < dueWeight s := by
  unfold endBrief
  refine Nat.lt_of_le_of_lt (dueWeight_retarget _) ?_
  rw [dueWeight_followRailMode]
  have e : dueHere s = 16 + dueHere { s with awu.brief := false, awu.returnTimer := .stopped } := by
    have e : urgentWaiting { s with awu.brief := false, awu.returnTimer := .stopped } = urgentWaiting s := rfl
    simp only [dueHere, e, hb, hr, Bool.false_eq_true, false_and, and_self, if_true, if_false]
    omega
  show 16 * movesLeft s + dueHere { s with awu.brief := false, awu.returnTimer := .stopped } + dueCold s <
    16 * movesLeft s + dueHere s + dueCold s
  omega

theorem dueWeight_completeLowering {d : Level} {s : State} (h : s.enm.transition = .lowering d) :
    dueWeight (completeLowering d s) < dueWeight s := by
  unfold completeLowering
  have hr : dueWeight (followRailMode { s with enm.draw := (levelEntry s d).draw, plc.railLevel := d }) = dueWeight s := by
    rw [dueWeight_followRailMode]
    rfl
  have ht : (followRailMode { s with enm.draw := (levelEntry s d).draw, plc.railLevel := d }).enm.transition = .lowering d := by
    rw [← h]
    unfold followRailMode
    simp only
    repeat' split
    all_goals rfl
  generalize followRailMode { s with enm.draw := (levelEntry s d).draw, plc.railLevel := d } = v at hr ht ⊢
  have hs : dueWeight { v with enm.present := d, enm.previous := some v.enm.present, enm.transition := .none } + 16 =
      dueWeight v := by
    have hm : movesLeft v = 2 * (6 - levelRank d) + 1 := by simp [movesLeft, ht]
    show 16 * (2 * (6 - levelRank d)) + dueHere v + dueCold v + 16 = 16 * movesLeft v + dueHere v + dueCold v
    omega
  unfold completeAt
  simp only
  refine Nat.lt_of_le_of_lt (dueWeight_retarget _) ?_
  have hd := dueWeight_decideSales (dormantCredit v.enm.present (takeLoadSettings
    { v with enm.present := d, enm.previous := some v.enm.present, enm.transition := .none }))
  rw [dueWeight_dormantCredit, dueWeight_takeLoadSettings] at hd
  dsimp only at hs hd ⊢
  split
  · refine Nat.lt_of_le_of_lt (dueWeight_judgeBriefStart _) ?_
    rw [dueWeight_raiseNotice]
    omega
  · rw [dueWeight_raiseNotice]
    omega

/-- Every reaction lowers the weight: no taking goes on for ever. -/
theorem dueWeight_react {s t : State} (h : react s = some t) : dueWeight t < dueWeight s := by
  unfold react at h
  split at h
  next hu => cases h; exact dueWeight_reportUrgent hu
  split at h
  next hc => cases h; exact dueWeight_judgeCold hc
  split at h
  next a hp =>
    cases h
    refine dueWeight_startProbe a ?_
    unfold probeReady at hp
    split at hp
    next hl => exact Option.isNone_iff_eq_none.mp hl.1
    · cases hp
  next e hp he =>
    cases h
    have hs := List.find?_some he
    simp only [servable, Bool.and_eq_true] at hs
    exact dueWeight_serve (Option.isNone_iff_eq_none.mp hs.2) ⟨e, List.mem_of_find?_eq_some he, rfl⟩
  · split at h
    next hb =>
      cases h
      simp only [briefReturns, Bool.and_eq_true, decide_eq_true_eq] at hb
      exact dueWeight_endBrief hb.1.1.1 hb.1.1.2
    · cases hd : drainReady s with
      | none => simp [hd] at h
      | some d =>
        simp only [hd, Option.map_some, Option.some.injEq] at h
        subst h
        refine dueWeight_completeLowering ?_
        unfold drainReady loweringTo at hd
        cases ht : s.enm.transition with
        | lowering x =>
          simp only [ht, Option.bind_some] at hd
          split at hd <;> cases hd
          rfl
        | none => simp [ht] at hd
        | raising x n => simp [ht] at hd

/-! ### What `settle` reaches -/

theorem react_settleLoop {n : Nat} {s : State} (h : dueWeight s ≤ n) : react (settleLoop n s) = none := by
  induction n generalizing s with
  | zero =>
    cases hr : react s with
    | none => exact hr
    | some t => have := dueWeight_react hr; omega
  | succ n ih =>
    unfold settleLoop
    cases hr : react s with
    | none => exact hr
    | some t => exact ih (by have := dueWeight_react hr; omega)

theorem settleLoop_enough {m n : Nat} {s : State} (hm : dueWeight s ≤ m) (hn : dueWeight s ≤ n) :
    settleLoop m s = settleLoop n s := by
  induction m generalizing n s with
  | zero =>
    cases hr : react s with
    | none => cases n <;> simp [settleLoop, hr]
    | some t => have := dueWeight_react hr; omega
  | succ m ih =>
    cases hr : react s with
    | none => cases n <;> simp [settleLoop, hr]
    | some t =>
      have := dueWeight_react hr
      cases n with
      | zero => omega
      | succ n => simpa [settleLoop, hr] using ih (by omega) (by omega)

/-- A reaction that stands comes about: what comes of the state is what comes of the state after it. -/
theorem settle_of_react {s t : State} (h : react s = some t) : settle s = settle t := by
  have hs := dueWeight_bound s
  have ht := dueWeight_bound t
  have hlt := dueWeight_react h
  have e : settleLoop (256 + 3 * s.bdc.queue.length) s = settleLoop (255 + 3 * s.bdc.queue.length) t := by
    rw [show 256 + 3 * s.bdc.queue.length = (255 + 3 * s.bdc.queue.length) + 1 by omega]
    simp [settleLoop, h]
  unfold settle
  rw [e, settleLoop_enough (s := t) (by omega) ht]

/-- With no reaction but the rotation timer's standing, only the rotation timer follows its condition. -/
theorem settle_of_none {s : State} (h : react s = none) : settle s = followRotation s := by
  have hl : ∀ n, settleLoop n s = s
    | 0 => rfl
    | n + 1 => by simp [settleLoop, h]
  rw [settle, hl]

/-- What `react` finds nothing in. -/
theorem react_none {s : State} (h : react s = none) : urgentWaiting s = s.awu.urgent ∧ coldNow s = s.plc.cold ∧
    probeReady s = none ∧ firstServable s = none ∧ briefReturns s = false ∧ drainReady s = none := by
  unfold react at h
  split at h
  · cases h
  split at h
  · cases h
  split at h
  · cases h
  · cases h
  · split at h
    · cases h
    · simp_all

/-- After `settle` nothing stands. -/
theorem quiet_settle (s : State) : Quiet (settle s) := by
  obtain ⟨hu, hc, hp, he, hb, hd⟩ := react_none (react_settleLoop (dueWeight_bound s))
  unfold settle
  generalize settleLoop (256 + 3 * s.bdc.queue.length) s = t at hu hc hp he hb hd ⊢
  unfold followRotation
  split
  next hr => exact ⟨hu, hc, hp, he, hb, hd, hr⟩
  · refine ⟨hu, hc, hp, he, hb, hd, ?_⟩
    show rotates t = (if rotates t then some ((presentEntry t).rotation * 1000) else none).isSome
    split <;> simp_all

end Sys2Proof.Machine
end

