-- ==== Sys2Proof/Laws/Reactions.lean ====
section
/-! SUPPORT. What the shared operations leave alone: each lemma says once that an operation keeps the stores, up to
`settle` and `beginTaking`. -/

namespace Sys2Proof.Machine

theorem StoresKept.refl (s : State) : StoresKept s s := by
  constructor <;> first | rfl | exact .inl ⟨rfl, rfl⟩ | exact fun _ => rfl | exact fun _ h => h

theorem StoresKept.trans {s t u : State} (h : StoresKept s t) (k : StoresKept t u) : StoresKept s u := by
  constructor
  case clock => exact k.clock.trans h.clock
  case tts => exact k.tts.trans h.tts
  case tfe => exact k.tfe.trans h.tfe
  case sjn => exact k.sjn.trans h.sjn
  case kinds => exact k.kinds.trans h.kinds
  case types => exact k.types.trans h.types
  case hostClosed => exact k.hostClosed.trans h.hostClosed
  case profiles => exact k.profiles.trans h.profiles
  case host => exact k.host.trans h.host
  case auto => exact k.auto.trans h.auto
  case arrivals => exact k.arrivals.trans h.arrivals
  case slot =>
    rcases k.slot with ⟨hk, kr⟩ | ⟨hk, ht⟩
    · rcases h.slot with ⟨hs, hr⟩ | ⟨hs, hi⟩
      · exact .inl ⟨hk.trans hs, kr.trans hr⟩
      · exact .inr ⟨hs, hk.trans hi⟩
    · rcases h.slot with ⟨hs, _⟩ | ⟨hs, _⟩
      · exact .inr ⟨hs ▸ hk, ht⟩
      · exact .inr ⟨hs, ht⟩
  case glass => exact fun a => (k.glass a).trans (h.glass a)
  case table => exact k.table.trans h.table
  case capacity => exact k.capacity.trans h.capacity
  case ceiling => exact k.ceiling.trans h.ceiling
  case effective => exact k.effective.trans h.effective
  case quietStart => exact k.quietStart.trans h.quietStart
  case quietEnd => exact k.quietEnd.trans h.quietEnd
  case raiseSettle => exact k.raiseSettle.trans h.raiseSettle
  case dormantSettle => exact k.dormantSettle.trans h.dormantSettle
  case battery => exact k.battery.trans h.battery
  case charge => exact k.charge.trans h.charge
  case stale => exact k.stale.trans h.stale
  case staleTimer => exact k.staleTimer.trans h.staleTimer
  case quietLimit => exact k.quietLimit.trans h.quietLimit
  case hostLimit => exact k.hostLimit.trans h.hostLimit
  case filtered => exact k.filtered.trans h.filtered
  case config => exact k.config.trans h.config
  case lock => exact k.lock.trans h.lock
  case notices => exact k.notices.trans h.notices
  case raised => exact fun n hn => k.raised n (h.raised n hn)
  case doorSense => exact k.doorSense.trans h.doorSense
  case day => exact k.day.trans h.day
  case receiver => exact k.receiver.trans h.receiver
  case waiting => exact k.waiting.trans h.waiting
  case restartDue => exact k.restartDue.trans h.restartDue
  case fastLine => exact k.fastLine.trans h.fastLine
  case strap => exact k.strap.trans h.strap
  case power => exact k.power.trans h.power
  case free => exact k.free.trans h.free
  case pending => exact k.pending.trans h.pending

theorem Reacted.refl (s : State) : Reacted s s := ⟨.refl s, rfl, rfl, rfl, rfl, rfl⟩

theorem Reacted.trans {s t u : State} (h : Reacted s t) (k : Reacted t u) : Reacted s u :=
  ⟨h.toStoresKept.trans k.toStoresKept, k.demand.trans h.demand, k.woke.trans h.woke, k.wokeFlags.trans h.wokeFlags,
    k.hold.trans h.hold, k.reply.trans h.reply⟩

/-- Raising a source keeps every configuration. -/
theorem raiseNotice_config (src : Source) (s : State) :
    (raiseNotice src s).hlk.notices.map Notice.config = s.hlk.notices.map Notice.config := by
  simp only [raiseNotice]
  apply List.ext_getElem
  · simp
  · intro i h1 h2
    simp only [List.getElem_map, List.getElem_modify]
    split <;> rfl

/-- Raising a source clears no pending flag. -/
theorem raiseNotice_noticeAt (src : Source) (s : State) (n : Nat) (h : (noticeAt s n).pending = true) :
    (noticeAt (raiseNotice src s) n).pending = true := by
  simp only [noticeAt, raiseNotice, List.getD_eq_getElem?_getD, List.getElem?_modify] at h ⊢
  cases hg : s.hlk.notices[n]? with
  | none => simp_all
  | some x =>
    rw [hg] at h
    by_cases hs : src.number = n <;> simp_all

/-- A raised source is pending and unseen. -/
theorem raiseNotice_raises {src : Source} {s : State} (h : src.number < s.hlk.notices.length) :
    (noticeOf (raiseNotice src s) src).pending = true ∧ (noticeOf (raiseNotice src s) src).seen = false := by
  simp [noticeOf, raiseNotice, List.getD_eq_getElem?_getD, h]

theorem reacted_raiseNotice (src : Source) (s : State) : Reacted s (raiseNotice src s) := by
  have h := raiseNotice_config src s
  refine ⟨?_, rfl, rfl, rfl, rfl, rfl⟩
  constructor
  case notices => exact h
  case slot => exact .inl ⟨rfl, rfl⟩
  case glass => exact fun _ => rfl
  case raised => exact fun n hn => raiseNotice_noticeAt src s n hn
  all_goals rfl

theorem reacted_requestRefresh (urgent : Bool) (s : State) (a : Addr) : Reacted s (requestRefresh urgent s a) := by
  unfold requestRefresh
  split
  · refine ⟨?_, rfl, rfl, rfl, rfl, rfl⟩
    constructor <;> first | rfl | exact .inl ⟨rfl, rfl⟩ | exact fun _ => rfl | exact fun _ h => h
  · exact .refl s

/-- A fold of operations that keep a state keeps it. -/
theorem Reacted.foldl {α : Type} {f : State → α → State} (hf : ∀ s a, Reacted s (f s a)) (l : List α) (s : State) :
    Reacted s (l.foldl f s) := by
  induction l generalizing s with
  | nil => exact .refl s
  | cons a l ih => exact (hf s a).trans (ih _)

theorem reacted_requestEach (want : Profile → Option Bool) (s : State) : Reacted s (requestEach want s) := by
  unfold requestEach
  apply Reacted.foldl
  intro s a
  split
  · exact reacted_requestRefresh _ s a
  · exact .refl s

theorem reacted_requestKind (k : PanelKind) (u : Bool) (s : State) : Reacted s (requestKind k u s) :=
  reacted_requestEach _ s

theorem reacted_requestAll (u : Bool) (s : State) : Reacted s (requestAll u s) := reacted_requestEach _ s

theorem reacted_decideSales (s : State) : Reacted s (decideSales s) := by
  unfold decideSales
  simp only
  split
  · exact .refl s
  · refine Reacted.trans ?_ (reacted_requestKind _ _ _)
    refine ⟨?_, rfl, rfl, rfl, rfl, rfl⟩
    constructor <;> first | rfl | exact .inl ⟨rfl, rfl⟩ | exact fun _ => rfl | exact fun _ h => h

/-- A quote withdrawn is a reaction. -/
theorem reacted_withdraw (w : Withdrawal) (s : State) : Reacted s (withdraw w s) := by
  unfold withdraw
  split
  next q l hq =>
    have h : slotState s.slc.slot = .quoted := by rw [hq]; rfl
    have e : putSlot .idle { s with slc.lastReason := some w } =
        { s with slc.lastReason := some w, slc.slot := .idle, awu.timer := freshDemandTimer s } := by
      unfold putSlot
      simp only [hq]
      rfl
    rw [e]
    refine Reacted.trans ?_ (reacted_raiseNotice _ _)
    refine ⟨?_, rfl, rfl, rfl, rfl, rfl⟩
    constructor <;> first | exact .inr ⟨h, rfl⟩ | rfl | exact fun _ => rfl | exact fun _ h => h
  · exact .refl s

theorem reacted_followRailMode (s : State) : Reacted s (followRailMode s) := by
  unfold followRailMode
  simp only
  split
  · exact .refl s
  · split <;> (refine ⟨?_, rfl, rfl, rfl, rfl, rfl⟩; constructor <;> first | rfl | exact .inl ⟨rfl, rfl⟩ | exact fun _ => rfl | exact fun _ h => h)

theorem reacted_setLamp (s : State) : Reacted s (setLamp s) := by
  refine ⟨?_, rfl, rfl, rfl, rfl, rfl⟩
  constructor <;> first | rfl | exact .inl ⟨rfl, rfl⟩ | exact fun _ => rfl | exact fun _ h => h

theorem reacted_restartRotation (s : State) : Reacted s (restartRotation s) := by
  refine ⟨?_, rfl, rfl, rfl, rfl, rfl⟩
  constructor <;> first | rfl | exact .inl ⟨rfl, rfl⟩ | exact fun _ => rfl | exact fun _ h => h

theorem reacted_followRotation (s : State) : Reacted s (followRotation s) := by
  unfold followRotation
  split
  · exact .refl s
  · exact reacted_restartRotation s

theorem reacted_takeLoadSettings (s : State) : Reacted s (takeLoadSettings s) := by
  unfold takeLoadSettings
  refine Reacted.trans ?_ (reacted_setLamp _)
  refine Reacted.trans ?_ (reacted_restartRotation _)
  refine ⟨?_, rfl, rfl, rfl, rfl, rfl⟩
  constructor <;> first | rfl | exact .inl ⟨rfl, rfl⟩ | exact fun _ => rfl | exact fun _ h => h

theorem reacted_startRaise (d : Level) (s : State) : Reacted s (startRaise d s) := by
  unfold startRaise
  refine Reacted.trans ?_ (reacted_followRailMode _)
  refine ⟨?_, rfl, rfl, rfl, rfl, rfl⟩
  constructor <;> first | rfl | exact .inl ⟨rfl, rfl⟩ | exact fun _ => rfl | exact fun _ h => h

theorem reacted_startLowering (d : Level) (s : State) : Reacted s (startLowering d s) := by
  have h : Reacted s { s with enm.transition := .lowering d } := by
    refine ⟨?_, rfl, rfl, rfl, rfl, rfl⟩
    constructor <;> first | rfl | exact .inl ⟨rfl, rfl⟩ | exact fun _ => rfl | exact fun _ h => h
  unfold startLowering
  simp only
  split
  · exact h.trans ((reacted_decideSales _).trans (reacted_withdraw _ _))
  · exact h

theorem reacted_retarget (s : State) : Reacted s (retarget s) := by
  have h : Reacted s { s with enm.target := computeTarget s } := by
    refine ⟨?_, rfl, rfl, rfl, rfl, rfl⟩
    constructor <;> first | rfl | exact .inl ⟨rfl, rfl⟩ | exact fun _ => rfl | exact fun _ h => h
  unfold retarget
  simp only
  split
  · split
    · exact h
    · split
      · exact h.trans (reacted_startRaise _ _)
      · exact h.trans (reacted_startLowering _ _)
  · exact h

theorem reacted_endBrief (s : State) : Reacted s (endBrief s) := by
  unfold endBrief
  refine Reacted.trans ?_ (reacted_retarget _)
  refine Reacted.trans ?_ (reacted_followRailMode _)
  refine ⟨?_, rfl, rfl, rfl, rfl, rfl⟩
  constructor <;> first | rfl | exact .inl ⟨rfl, rfl⟩ | exact fun _ => rfl | exact fun _ h => h

theorem reacted_startBrief (s : State) : Reacted s (startBrief s) := by
  unfold startBrief
  refine Reacted.trans ?_ (reacted_retarget _)
  refine Reacted.trans ?_ (reacted_followRailMode _)
  refine ⟨?_, rfl, rfl, rfl, rfl, rfl⟩
  constructor <;> first | rfl | exact .inl ⟨rfl, rfl⟩ | exact fun _ => rfl | exact fun _ h => h

theorem reacted_judgeBriefStart (s : State) : Reacted s (judgeBriefStart s) := by
  unfold judgeBriefStart
  split
  · exact reacted_startBrief s
  · exact .refl s

/-- A record replaced by one that holds the same of its glass. -/
theorem reacted_setPanel {a : Addr} {p : PanelRecord} {s : State} (h : p.glass = (panelAt s a).glass) :
    Reacted s (setPanel a p s) := by
  refine ⟨?_, rfl, rfl, rfl, rfl, rfl⟩
  constructor
  case glass =>
    intro b
    simp only [panelAt_setPanel]
    split
    next hb => exact hb ▸ h
    · rfl
  case slot => exact .inl ⟨rfl, rfl⟩
  case raised => exact fun _ h => h
  all_goals rfl

theorem reacted_setLine (t : Option Transaction) (s : State) : Reacted s (setLine t s) := by
  refine ⟨?_, rfl, rfl, rfl, rfl, rfl⟩
  constructor <;> first | rfl | exact .inl ⟨rfl, rfl⟩ | exact fun _ => rfl | exact fun _ h => h

theorem reacted_goCold (a : Addr) (s : State) : Reacted s (goCold a s) := by
  unfold goCold
  refine Reacted.trans ?_ (reacted_raiseNotice _ _)
  exact reacted_setPanel rfl

theorem reacted_beginTransaction (a : Addr) (w : Work) (p : LinePhase) (s : State) :
    Reacted s (beginTransaction a w p s) := by
  unfold beginTransaction
  simp only
  repeat' split
  all_goals
    refine ⟨?_, rfl, rfl, rfl, rfl, rfl⟩
    constructor <;> first | rfl | exact .inl ⟨rfl, rfl⟩ | exact fun _ => rfl | exact fun _ h => h

theorem reacted_endTransaction (s : State) : Reacted s (endTransaction s) := by
  unfold endTransaction
  simp only
  repeat' split
  all_goals
    refine ⟨?_, rfl, rfl, rfl, rfl, rfl⟩
    constructor <;> first | rfl | exact .inl ⟨rfl, rfl⟩ | exact fun _ => rfl | exact fun _ h => h

theorem reacted_startRefresh (a : Addr) (p : Page) (s : State) : Reacted s (startRefresh a p s) := by
  unfold startRefresh
  simp only
  split
  · exact reacted_goCold a s
  · refine Reacted.trans ?_ (reacted_beginTransaction _ _ _ _)
    exact reacted_setPanel rfl

theorem reacted_startProbe (a : Addr) (s : State) : Reacted s (startProbe a s) := by
  unfold startProbe
  refine Reacted.trans ?_ (reacted_beginTransaction _ _ _ _)
  exact reacted_setPanel rfl

theorem reacted_serve (a : Addr) (s : State) : Reacted s (serve a s) := by
  have h : Reacted s (if (s.bdc.profiles.get a).kind = .messages then settlePosition s else s) := by
    split
    · refine ⟨?_, rfl, rfl, rfl, rfl, rfl⟩
      constructor <;> first | rfl | exact .inl ⟨rfl, rfl⟩ | exact fun _ => rfl | exact fun _ h => h
    · exact .refl s
  unfold serve
  simp only
  refine h.trans ?_
  generalize (if (s.bdc.profiles.get a).kind = .messages then settlePosition s else s) = u
  have g : Reacted u
      { u with
        bdc.queue := u.bdc.queue.filter fun e => !(e.panel == a)
        bdc.composed := u.bdc.composed.set a (some (composePage (s.bdc.profiles.get a) s)) } := by
    refine ⟨?_, rfl, rfl, rfl, rfl, rfl⟩
    constructor <;> first | rfl | exact .inl ⟨rfl, rfl⟩ | exact fun _ => rfl | exact fun _ h => h
  split
  · exact g
  · exact g.trans (reacted_startRefresh _ _ _)

theorem reacted_setCold (l : Option Level) (s : State) : Reacted s (setCold l s) := by
  unfold setCold
  split
  · exact .refl s
  · refine Reacted.trans ?_ (reacted_retarget _)
    refine Reacted.trans ?_ (reacted_raiseNotice _ _)
    refine ⟨?_, rfl, rfl, rfl, rfl, rfl⟩
    constructor <;> first | rfl | exact .inl ⟨rfl, rfl⟩ | exact fun _ => rfl | exact fun _ h => h

theorem reacted_judgeCold (s : State) : Reacted s (judgeCold s) := by
  refine Reacted.trans ?_ (reacted_setCold _ _)
  refine ⟨?_, rfl, rfl, rfl, rfl, rfl⟩
  constructor <;> first | rfl | exact .inl ⟨rfl, rfl⟩ | exact fun _ => rfl | exact fun _ h => h

theorem reacted_dormantCredit (l : Level) (s : State) : Reacted s (dormantCredit l s) := by
  unfold dormantCredit
  split
  · refine ⟨?_, rfl, rfl, rfl, rfl, rfl⟩
    constructor <;> first | rfl | exact .inl ⟨rfl, rfl⟩ | exact fun _ => rfl | exact fun _ h => h
  · exact .refl s

theorem reacted_completeAt (d : Level) (s : State) : Reacted s (completeAt d s) := by
  have h : Reacted s
      (raiseNotice .levelChanged (decideSales (dormantCredit s.enm.present (takeLoadSettings
        { s with enm.present := d, enm.previous := some s.enm.present, enm.transition := .none })))) := by
    refine Reacted.trans ?_ (reacted_raiseNotice _ _)
    refine Reacted.trans ?_ (reacted_decideSales _)
    refine Reacted.trans ?_ (reacted_dormantCredit _ _)
    refine Reacted.trans ?_ (reacted_takeLoadSettings _)
    refine ⟨?_, rfl, rfl, rfl, rfl, rfl⟩
    constructor <;> first | rfl | exact .inl ⟨rfl, rfl⟩ | exact fun _ => rfl | exact fun _ h => h
  unfold completeAt
  simp only
  split
  · exact h.trans ((reacted_judgeBriefStart _).trans (reacted_retarget _))
  · exact h.trans (reacted_retarget _)

theorem reacted_completeLowering (d : Level) (s : State) : Reacted s (completeLowering d s) := by
  unfold completeLowering
  refine Reacted.trans ?_ (reacted_completeAt _ _)
  refine Reacted.trans ?_ (reacted_followRailMode _)
  refine ⟨?_, rfl, rfl, rfl, rfl, rfl⟩
  constructor <;> first | rfl | exact .inl ⟨rfl, rfl⟩ | exact fun _ => rfl | exact fun _ h => h

theorem reacted_reportUrgent (s : State) : Reacted s (reportUrgent s) := by
  have h : Reacted s { s with awu.urgent := urgentWaiting s } := by
    refine ⟨?_, rfl, rfl, rfl, rfl, rfl⟩
    constructor <;> first | rfl | exact .inl ⟨rfl, rfl⟩ | exact fun _ => rfl | exact fun _ h => h
  unfold reportUrgent
  simp only
  split
  · exact h.trans (reacted_judgeBriefStart _)
  · exact h

/-- One reaction keeps the stores. -/
theorem reacted_react {s t : State} (h : react s = some t) : Reacted s t := by
  unfold react at h
  split at h
  · cases h; exact reacted_reportUrgent s
  split at h
  · cases h; exact reacted_judgeCold s
  split at h
  · cases h; exact reacted_startProbe _ s
  · cases h; exact reacted_serve _ s
  · split at h
    · cases h; exact reacted_endBrief s
    · cases hd : drainReady s with
      | none => simp [hd] at h
      | some d =>
        simp only [hd, Option.map_some, Option.some.injEq] at h
        exact h ▸ reacted_completeLowering d s

theorem reacted_settleLoop (n : Nat) (s : State) : Reacted s (settleLoop n s) := by
  induction n generalizing s with
  | zero => exact .refl s
  | succ n ih =>
    unfold settleLoop
    cases h : react s with
    | none => exact .refl s
    | some t => exact (reacted_react h).trans (ih t)

/-- Everything that `settle` can do leaves the stores, the demand level, the woke record, the hold and the reply alone. -/
theorem reacted_settle (s : State) : Reacted s (settle s) :=
  (reacted_settleLoop _ s).trans (reacted_followRotation _)

/-! ### Activity, wakes and the taking of a request -/

theorem stores_restartDemandTimer (s : State) : StoresKept s (restartDemandTimer s) := by
  unfold restartDemandTimer
  split
  · exact .refl s
  · constructor <;> first | rfl | exact .inl ⟨rfl, rfl⟩ | exact fun _ => rfl | exact fun _ h => h

theorem stores_activity (s : State) : StoresKept s (activity s) := by
  have h : StoresKept s (restartDemandTimer { s with awu.demand := s.enm.effective }) :=
    StoresKept.trans (by constructor <;> first | rfl | exact .inl ⟨rfl, rfl⟩ | exact fun _ => rfl | exact fun _ h => h) (stores_restartDemandTimer _)
  unfold activity
  simp only
  split
  · exact h.trans (reacted_endBrief _).toStoresKept
  · exact h.trans (reacted_retarget _).toStoresKept

theorem freshDemandTimer_eq (s : State) : freshDemandTimer s = demandTimerOf (s.enm.table.get s.awu.demand) := rfl

/-- Activity is what statements spell out. -/
theorem activity_eq (s : State) : activity s = activated s := by
  by_cases h : s.awu.timer = .held <;> by_cases hb : s.awu.brief <;>
    simp [activity, activated, restartDemandTimer, h, hb, endBrief, freshDemandTimer_eq]

/-- A wake is what statements spell out. -/
theorem wake_eq (src : WokeSource) (e : Option Edge) (s : State) : wake src e s = woken src e s := by
  have hc : (activated s).clock = s.clock := by rw [← activity_eq]; exact (stores_activity s).clock
  cases src <;> simp [wake, woken, activity_eq, raiseNotice, raisedAt, nowMinute, minuteOf, hc, Source.number]

theorem stores_wake (src : WokeSource) (e : Option Edge) (s : State) : StoresKept s (wake src e s) := by
  unfold wake
  simp only
  refine (stores_activity s).trans ?_
  refine StoresKept.trans ?_ (reacted_raiseNotice _ _).toStoresKept
  split <;> (constructor <;> first | rfl | exact .inl ⟨rfl, rfl⟩ | exact fun _ => rfl | exact fun _ h => h)

theorem stores_internalEvent (flag : Bool) (src : WokeSource) (s : State) : StoresKept s (internalEvent flag src s) := by
  unfold internalEvent
  split
  · exact stores_wake _ _ s
  · exact .refl s

/-- The beginning of every taking keeps the stores. -/
theorem stores_beginTaking (s : State) : StoresKept s (beginTaking s) := by
  unfold beginTaking
  refine StoresKept.trans ?_ (reacted_settle _).toStoresKept
  refine StoresKept.trans ?_ (stores_internalEvent _ _ _)
  constructor <;> first | rfl | exact .inl ⟨rfl, rfl⟩ | exact fun _ => rfl | exact fun _ h => h

/-- The activity of a SALE-* request keeps the stores. -/
theorem stores_atSales (s : State) : StoresKept s (atSales s) :=
  (stores_beginTaking s).trans ((stores_activity _).trans (reacted_settle _).toStoresKept)

/-! ### Calm states -/

/-- With no reaction standing, nothing comes about. -/
theorem settle_of_quiet {s : State} (h : Quiet s) : settle s = s := by
  rw [settle_of_none (by simp [react, h.urgent, h.cold, h.probe, h.entry, h.brief, h.drain])]
  simp [followRotation, h.rotation]

/-- In a calm state the beginning of a taking ends the attention hold and does nothing else. -/
theorem beginTaking_of_calm {s : State} (h : Calm s) : beginTaking s = { s with hlk.hold := false } := by
  have hq : Quiet { s with hlk.hold := false } := ⟨h.urgent, h.cold, h.probe, h.entry, h.brief, h.drain, h.rotation⟩
  have hw : internalEvent s.awu.config.link .link { s with hlk.hold := false } = { s with hlk.hold := false } := by
    have := h.link
    simp only [internalEvent]
    simp_all
  simp only [beginTaking, hw, settle_of_quiet hq]

/-! ### Requests -/

/-- A request row taken by a powered part that sends no reply: the owner's rule, what then stands, and the reply. -/
theorem request_eq {c : Instr} {kind : Byte} {rule : State → State × Answer} {s : State} (h : Listens s)
    (hk : kindOf c = some kind) (hr : ownerRule c = some rule) :
    request c s = .next (sendReply kind 0#8 (rule (atOwner s)).2 (settle (rule (atOwner s)).1)) := by
  simp [request, whenOn, h.power, arrived, h.reply, takeRow, hk, hr, takeRequest, atOwner]

/-- An event taken by a powered part. -/
theorem event_eq {f : State → State} {s : State} (h : s.power = .on) : event f s = .next (settle (f s)) := by
  simp [event, whenOn, h]

/-- The reply keeps the stores. -/
theorem stores_answered (kind : Byte) (a : Answer) (u : State) : StoresKept u (answered kind a u) := by
  refine (reacted_settle u).toStoresKept.trans ?_
  constructor <;> first | rfl | exact .inl ⟨rfl, rfl⟩ | exact fun _ => rfl | exact fun _ h => h

/-- A taken request leaves no reaction standing: none looks at the reply. -/
theorem quiet_answered (kind : Byte) (a : Answer) (u : State) : Quiet (answered kind a u) :=
  let h := quiet_settle u
  ⟨h.urgent, h.cold, h.probe, h.entry, h.brief, h.drain, h.rotation⟩

/-- A request row does what its owner's rule says of the state in which the request reaches it. -/
theorem does_of_rule {c : Instr} {s u : State} {kind reply : Byte} {a : Answer} {rule : State → State × Answer}
    (hl : Listens s) (hc : exec c s = request c s) (hk : kindOf c = some kind) (ho : ownerRule c = some rule)
    (hr : rule (atOwner s) = (u, a)) (hb : reply = kind ||| 0x80#8 := by rfl) : Does c s reply a u := by
  subst hb
  refine ⟨?_, stores_answered _ _ u, quiet_answered _ _ u, fun hq => by rw [answered, settle_of_quiet hq]⟩
  rw [hc, request_eq hl hk ho, hr]
  rfl

/-- An event row does what its rule says. -/
theorem happens_of_event {c : Instr} {s : State} {f : State → State} (hp : s.power = .on) (hc : exec c s = event f s) :
    Happens c s (f s) :=
  ⟨hc.trans (event_eq hp), reacted_settle _, quiet_settle _, settle_of_quiet⟩

/-- A reaction that leads to a state with the same outcome comes about. -/
theorem bringsAbout_of_settle {u w : State} (h : settle u = settle w) : BringsAbout u w :=
  fun _ _ => ⟨fun hu => h ▸ hu.1, fun kind a hu => by rw [hu.1, answered, answered, h]⟩

/-- The reaction that stands comes about. -/
theorem bringsAbout_of_react {u w : State} (h : react u = some w) : BringsAbout u w :=
  bringsAbout_of_settle (settle_of_react h)

/-- The terms of `Waits` and `LineOffered` are those of the reactions. -/
theorem servable_iff (s : State) (e : QueueEntry) :
    servable s e = true ↔ Waits s e ∧ 1 ≤ s.bdc.credit ∧ s.plc.line = none := by
  have hp : permits s e.urgent = true ↔
      (servingLevel s = .el4 → e.urgent = true) ∧ (servingLevel s = .el5 → e.urgent = true ∧ s.awu.brief = true) := by
    unfold permits
    cases servingLevel s <;> simp
  have hl : Waits s e ↔ (panelAt s e.panel).link = .ready ∧ permits s e.urgent = true := by
    rw [hp]
    cases h : s.enm.transition <;> simp [Waits, servingLevel, loweringTo, h]
  rw [hl]
  simp only [servable, Bool.and_eq_true, decide_eq_true_eq, Option.isNone_iff_eq_none, and_assoc]

theorem Told.urgent_eq {s : State} (h : Told s) : urgentWaiting s = s.awu.urgent := by
  rw [Bool.eq_iff_iff, h.urgent]
  simp [urgentWaiting]

theorem LineOffered.probeReady {s : State} (h : LineOffered s) : probeReady s = none := by
  rcases h.probe with hp | hp | hp
  · simp [Machine.probeReady, Option.isNone_iff_eq_none, Option.isSome_iff_ne_none.mp hp]
  · simp [Machine.probeReady, hp]
  · simp [Machine.probeReady, hp]

theorem LineOffered.firstServable {s : State} (h : LineOffered s) : firstServable s = none := by
  refine List.find?_eq_none.mpr fun e he hs => ?_
  obtain ⟨hw, hc, hl⟩ := (servable_iff s e).mp hs
  rcases h.entry with hp | hp | hp
  · simp [hl] at hp
  · omega
  · exact hp e he hw

/-- A command but for a restart, taken by a part held or without supply, does nothing (R176). -/
theorem whenOn_off {f : State → State} {s : State} (h : s.power ≠ .on) : whenOn f s = s := by simp [whenOn, h]

end Sys2Proof.Machine
end

