-- ==== Sys2Proof/Laws/Owner.lean ====
section
/-! SUPPORT. What the states in which a request reaches its owner still hold: one lemma per field that the beginning of a
taking keeps, at the owner and at the Sale Controller. -/

namespace Sys2Proof.Machine

@[simp] theorem atOwner_clock (s : State) : (atOwner s).clock = s.clock := (stores_beginTaking s).clock
@[simp] theorem atOwner_tts (s : State) : (atOwner s).tts = s.tts := (stores_beginTaking s).tts
@[simp] theorem atOwner_tfe (s : State) : (atOwner s).tfe = s.tfe := (stores_beginTaking s).tfe
@[simp] theorem atOwner_sjn (s : State) : (atOwner s).sjn = s.sjn := (stores_beginTaking s).sjn
@[simp] theorem atOwner_slc_kinds (s : State) : (atOwner s).slc.kinds = s.slc.kinds := (stores_beginTaking s).kinds
@[simp] theorem atOwner_slc_types (s : State) : (atOwner s).slc.types = s.slc.types := (stores_beginTaking s).types
@[simp] theorem atOwner_slc_hostClosed (s : State) : (atOwner s).slc.hostClosed = s.slc.hostClosed := (stores_beginTaking s).hostClosed
@[simp] theorem atOwner_bdc_profiles (s : State) : (atOwner s).bdc.profiles = s.bdc.profiles := (stores_beginTaking s).profiles
@[simp] theorem atOwner_bdc_host (s : State) : (atOwner s).bdc.host = s.bdc.host := (stores_beginTaking s).host
@[simp] theorem atOwner_bdc_auto (s : State) : (atOwner s).bdc.auto = s.bdc.auto := (stores_beginTaking s).auto
@[simp] theorem atOwner_bdc_arrivals (s : State) : (atOwner s).bdc.arrivals = s.bdc.arrivals := (stores_beginTaking s).arrivals
@[simp] theorem atOwner_enm_table (s : State) : (atOwner s).enm.table = s.enm.table := (stores_beginTaking s).table
@[simp] theorem atOwner_enm_capacity (s : State) : (atOwner s).enm.capacity = s.enm.capacity := (stores_beginTaking s).capacity
@[simp] theorem atOwner_enm_ceiling (s : State) : (atOwner s).enm.ceiling = s.enm.ceiling := (stores_beginTaking s).ceiling
@[simp] theorem atOwner_enm_effective (s : State) : (atOwner s).enm.effective = s.enm.effective := (stores_beginTaking s).effective
@[simp] theorem atOwner_enm_quietStart (s : State) : (atOwner s).enm.quietStart = s.enm.quietStart := (stores_beginTaking s).quietStart
@[simp] theorem atOwner_enm_quietEnd (s : State) : (atOwner s).enm.quietEnd = s.enm.quietEnd := (stores_beginTaking s).quietEnd
@[simp] theorem atOwner_enm_raiseSettle (s : State) : (atOwner s).enm.raiseSettle = s.enm.raiseSettle := (stores_beginTaking s).raiseSettle
@[simp] theorem atOwner_enm_dormantSettle (s : State) : (atOwner s).enm.dormantSettle = s.enm.dormantSettle := (stores_beginTaking s).dormantSettle
@[simp] theorem atOwner_enm_battery (s : State) : (atOwner s).enm.battery = s.enm.battery := (stores_beginTaking s).battery
@[simp] theorem atOwner_enm_charge (s : State) : (atOwner s).enm.charge = s.enm.charge := (stores_beginTaking s).charge
@[simp] theorem atOwner_enm_stale (s : State) : (atOwner s).enm.stale = s.enm.stale := (stores_beginTaking s).stale
@[simp] theorem atOwner_enm_staleTimer (s : State) : (atOwner s).enm.staleTimer = s.enm.staleTimer := (stores_beginTaking s).staleTimer
@[simp] theorem atOwner_enm_quietLimit (s : State) : (atOwner s).enm.quietLimit = s.enm.quietLimit := (stores_beginTaking s).quietLimit
@[simp] theorem atOwner_enm_hostLimit (s : State) : (atOwner s).enm.hostLimit = s.enm.hostLimit := (stores_beginTaking s).hostLimit
@[simp] theorem atOwner_awu_filtered (s : State) : (atOwner s).awu.filtered = s.awu.filtered := (stores_beginTaking s).filtered
@[simp] theorem atOwner_awu_config (s : State) : (atOwner s).awu.config = s.awu.config := (stores_beginTaking s).config
@[simp] theorem atOwner_awu_lock (s : State) : (atOwner s).awu.lock = s.awu.lock := (stores_beginTaking s).lock
@[simp] theorem atOwner_hlk_doorSense (s : State) : (atOwner s).hlk.doorSense = s.hlk.doorSense := (stores_beginTaking s).doorSense
@[simp] theorem atOwner_hlk_day (s : State) : (atOwner s).hlk.day = s.hlk.day := (stores_beginTaking s).day
@[simp] theorem atOwner_hlk_receiver (s : State) : (atOwner s).hlk.receiver = s.hlk.receiver := (stores_beginTaking s).receiver
@[simp] theorem atOwner_hlk_waiting (s : State) : (atOwner s).hlk.waiting = s.hlk.waiting := (stores_beginTaking s).waiting
@[simp] theorem atOwner_hlk_restartDue (s : State) : (atOwner s).hlk.restartDue = s.hlk.restartDue := (stores_beginTaking s).restartDue
@[simp] theorem atOwner_hlk_fastLine (s : State) : (atOwner s).hlk.fastLine = s.hlk.fastLine := (stores_beginTaking s).fastLine
@[simp] theorem atOwner_strap (s : State) : (atOwner s).strap = s.strap := (stores_beginTaking s).strap
@[simp] theorem atOwner_power (s : State) : (atOwner s).power = s.power := (stores_beginTaking s).power
@[simp] theorem atOwner_free (s : State) : (atOwner s).free = s.free := (stores_beginTaking s).free
@[simp] theorem atOwner_pending (s : State) : (atOwner s).pending = s.pending := (stores_beginTaking s).pending

@[simp] theorem atSales_clock (s : State) : (atSales s).clock = s.clock := (stores_atSales s).clock
@[simp] theorem atSales_tts (s : State) : (atSales s).tts = s.tts := (stores_atSales s).tts
@[simp] theorem atSales_tfe (s : State) : (atSales s).tfe = s.tfe := (stores_atSales s).tfe
@[simp] theorem atSales_sjn (s : State) : (atSales s).sjn = s.sjn := (stores_atSales s).sjn
@[simp] theorem atSales_slc_kinds (s : State) : (atSales s).slc.kinds = s.slc.kinds := (stores_atSales s).kinds
@[simp] theorem atSales_slc_types (s : State) : (atSales s).slc.types = s.slc.types := (stores_atSales s).types
@[simp] theorem atSales_slc_hostClosed (s : State) : (atSales s).slc.hostClosed = s.slc.hostClosed := (stores_atSales s).hostClosed
@[simp] theorem atSales_bdc_profiles (s : State) : (atSales s).bdc.profiles = s.bdc.profiles := (stores_atSales s).profiles
@[simp] theorem atSales_bdc_host (s : State) : (atSales s).bdc.host = s.bdc.host := (stores_atSales s).host
@[simp] theorem atSales_bdc_auto (s : State) : (atSales s).bdc.auto = s.bdc.auto := (stores_atSales s).auto
@[simp] theorem atSales_bdc_arrivals (s : State) : (atSales s).bdc.arrivals = s.bdc.arrivals := (stores_atSales s).arrivals
@[simp] theorem atSales_enm_table (s : State) : (atSales s).enm.table = s.enm.table := (stores_atSales s).table
@[simp] theorem atSales_enm_capacity (s : State) : (atSales s).enm.capacity = s.enm.capacity := (stores_atSales s).capacity
@[simp] theorem atSales_enm_ceiling (s : State) : (atSales s).enm.ceiling = s.enm.ceiling := (stores_atSales s).ceiling
@[simp] theorem atSales_enm_effective (s : State) : (atSales s).enm.effective = s.enm.effective := (stores_atSales s).effective
@[simp] theorem atSales_enm_quietStart (s : State) : (atSales s).enm.quietStart = s.enm.quietStart := (stores_atSales s).quietStart
@[simp] theorem atSales_enm_quietEnd (s : State) : (atSales s).enm.quietEnd = s.enm.quietEnd := (stores_atSales s).quietEnd
@[simp] theorem atSales_enm_raiseSettle (s : State) : (atSales s).enm.raiseSettle = s.enm.raiseSettle := (stores_atSales s).raiseSettle
@[simp] theorem atSales_enm_dormantSettle (s : State) : (atSales s).enm.dormantSettle = s.enm.dormantSettle := (stores_atSales s).dormantSettle
@[simp] theorem atSales_enm_battery (s : State) : (atSales s).enm.battery = s.enm.battery := (stores_atSales s).battery
@[simp] theorem atSales_enm_charge (s : State) : (atSales s).enm.charge = s.enm.charge := (stores_atSales s).charge
@[simp] theorem atSales_enm_stale (s : State) : (atSales s).enm.stale = s.enm.stale := (stores_atSales s).stale
@[simp] theorem atSales_enm_staleTimer (s : State) : (atSales s).enm.staleTimer = s.enm.staleTimer := (stores_atSales s).staleTimer
@[simp] theorem atSales_enm_quietLimit (s : State) : (atSales s).enm.quietLimit = s.enm.quietLimit := (stores_atSales s).quietLimit
@[simp] theorem atSales_enm_hostLimit (s : State) : (atSales s).enm.hostLimit = s.enm.hostLimit := (stores_atSales s).hostLimit
@[simp] theorem atSales_awu_filtered (s : State) : (atSales s).awu.filtered = s.awu.filtered := (stores_atSales s).filtered
@[simp] theorem atSales_awu_config (s : State) : (atSales s).awu.config = s.awu.config := (stores_atSales s).config
@[simp] theorem atSales_awu_lock (s : State) : (atSales s).awu.lock = s.awu.lock := (stores_atSales s).lock
@[simp] theorem atSales_hlk_doorSense (s : State) : (atSales s).hlk.doorSense = s.hlk.doorSense := (stores_atSales s).doorSense
@[simp] theorem atSales_hlk_day (s : State) : (atSales s).hlk.day = s.hlk.day := (stores_atSales s).day
@[simp] theorem atSales_hlk_receiver (s : State) : (atSales s).hlk.receiver = s.hlk.receiver := (stores_atSales s).receiver
@[simp] theorem atSales_hlk_waiting (s : State) : (atSales s).hlk.waiting = s.hlk.waiting := (stores_atSales s).waiting
@[simp] theorem atSales_hlk_restartDue (s : State) : (atSales s).hlk.restartDue = s.hlk.restartDue := (stores_atSales s).restartDue
@[simp] theorem atSales_hlk_fastLine (s : State) : (atSales s).hlk.fastLine = s.hlk.fastLine := (stores_atSales s).fastLine
@[simp] theorem atSales_strap (s : State) : (atSales s).strap = s.strap := (stores_atSales s).strap
@[simp] theorem atSales_power (s : State) : (atSales s).power = s.power := (stores_atSales s).power
@[simp] theorem atSales_free (s : State) : (atSales s).free = s.free := (stores_atSales s).free
@[simp] theorem atSales_pending (s : State) : (atSales s).pending = s.pending := (stores_atSales s).pending

/-- The sixteen sources keep their configuration. -/
theorem StoresKept.notices_length {s t : State} (h : StoresKept s t) :
    t.hlk.notices.length = s.hlk.notices.length := by
  simpa using congrArg List.length h.notices

@[simp] theorem atOwner_notices_length (s : State) : (atOwner s).hlk.notices.length = s.hlk.notices.length :=
  (stores_beginTaking s).notices_length

@[simp] theorem atSales_notices_length (s : State) : (atSales s).hlk.notices.length = s.hlk.notices.length :=
  (stores_atSales s).notices_length

@[simp] theorem freeCount_atOwner (s : State) : freeCount (atOwner s) = freeCount s := by simp [freeCount]

@[simp] theorem freeCount_atSales (s : State) : freeCount (atSales s) = freeCount s := by simp [freeCount]

@[simp] theorem clockFields_atOwner (s : State) : clockFields (atOwner s) = clockFields s := by simp [clockFields]

@[simp] theorem nowMinute_atOwner (s : State) : nowMinute (atOwner s) = nowMinute s := by simp [nowMinute]

@[simp] theorem nowMinute_atSales (s : State) : nowMinute (atSales s) = nowMinute s := by simp [nowMinute]

@[simp] theorem levelEntry_atOwner (s : State) (l : Level) : levelEntry (atOwner s) l = levelEntry s l := by
  simp [levelEntry]

@[simp] theorem currentService_atOwner (s : State) (n : Nat) : currentService (atOwner s) n = currentService s n := by
  simp [currentService]

@[simp] theorem currentService_atSales (s : State) (n : Nat) : currentService (atSales s) n = currentService s n := by
  simp [currentService]

@[simp] theorem nextLoadState_atOwner (s : State) : nextLoadState (atOwner s) = nextLoadState s := by
  simp [nextLoadState]

@[simp] theorem newestSerial_atOwner (s : State) : newestSerial (atOwner s) = newestSerial s := by simp [newestSerial]

@[simp] theorem standingOf_atSales (n : Nat) (s : State) : standingOf n (atSales s) = standingOf n s := by
  simp [standingOf]

end Sys2Proof.Machine
end

