-- ==== Sys2Proof/Laws/Kept.lean ====
section
/-! SUPPORT. The chapters' stores that a change elsewhere leaves alone: clock, timetable, tariffs and journal through what
an evaluation hands on, a sold count, a table change, a minute and the energy requests. -/

namespace Sys2Proof.Machine

/-- Clock, timetable, tariffs and journal are as they were. -/
structure Kept (s t : State) : Prop where
  clock : t.clock = s.clock
  tts : t.tts = s.tts
  tfe : t.tfe = s.tfe
  sjn : t.sjn = s.sjn

theorem Kept.refl (s : State) : Kept s s := ⟨rfl, rfl, rfl, rfl⟩

theorem Kept.trans {s t u : State} (h : Kept s t) (k : Kept t u) : Kept s u :=
  ⟨k.clock.trans h.clock, k.tts.trans h.tts, k.tfe.trans h.tfe, k.sjn.trans h.sjn⟩

theorem StoresKept.kept {s t : State} (h : StoresKept s t) : Kept s t := ⟨h.clock, h.tts, h.tfe, h.sjn⟩

theorem Reacted.kept {s t : State} (h : Reacted s t) : Kept s t := h.toStoresKept.kept

theorem Kept.foldl {α : Type} {f : State → α → State} (hf : ∀ s a, Kept s (f s a)) (l : List α) (s : State) :
    Kept s (l.foldl f s) := by
  induction l generalizing s with
  | nil => exact .refl s
  | cons a l ih => exact (hf s a).trans (ih _)

theorem kept_putAuto (n m t : Nat) (s : State) : Kept s (putAuto n m t s) := ⟨rfl, rfl, rfl, rfl⟩

theorem kept_keepMessages (f : HostEntry → Bool) (g : AutoEntry → Bool) (s : State) : Kept s (keepMessages f g s) := by
  unfold keepMessages clearPosition
  split <;> exact ⟨rfl, rfl, rfl, rfl⟩

theorem kept_requestEach (want : Profile → Option Bool) (s : State) : Kept s (requestEach want s) :=
  (reacted_requestEach want s).kept

theorem kept_changeEvent (old new : Service) (s : State) (c : ChangeCause) : Kept s (changeEvent old new s c) := by
  cases c
  case cancel =>
    simp only [changeEvent]
    split
    · exact (kept_putAuto _ _ _ s).trans (kept_requestEach _ _)
    · exact kept_requestEach _ s
  case reinstate => exact (kept_keepMessages _ _ s).trans (kept_requestEach _ _)
  all_goals exact kept_requestEach _ s

theorem kept_changeEvents (s : State) (p : Service × Service) : Kept s (changeEvents s p) :=
  Kept.foldl (kept_changeEvent p.1 p.2) _ s

theorem kept_statusEvent (s : State) (p : Service × Service) : Kept s (statusEvent s p) := by
  unfold statusEvent
  split
  · split
    · split
      · exact (reacted_withdraw _ s).kept
      · exact .refl s
    · exact .refl s
  · exact .refl s

theorem kept_approachStart (s : State) (p : Service × Service) : Kept s (approachStart s p) := by
  unfold approachStart
  split
  · exact (stores_activity s).kept.trans (stores_internalEvent _ _ _).kept
  · exact .refl s

/-- What an evaluation hands on leaves clock, timetable, tariffs and journal alone. -/
theorem kept_handOn (pairs : List (Service × Service)) (s : State) : Kept s (handOn pairs s) := by
  unfold handOn
  exact (reacted_retarget s).kept.trans ((Kept.foldl kept_approachStart _ _).trans
    ((Kept.foldl kept_statusEvent _ _).trans (Kept.foldl kept_changeEvents _ _)))

/-- The minute evaluation sets the current table to its evaluated services and leaves clock, tariffs and journal alone. -/
theorem minuteEvaluation_kept (now : Nat) (s : State) :
    Kept { s with tts.current := s.tts.current.map fun t =>
        ⟨t.header, t.services.map (evaluateService s.tts.grace s.tts.window now)⟩ } (minuteEvaluation now s) := by
  unfold minuteEvaluation
  split
  · rename_i h
    refine ⟨rfl, ?_, rfl, rfl⟩
    simp only [h, Option.map_none]
    rw [← h]
  · rename_i t h
    refine (Kept.trans ?_ (kept_handOn _ _))
    simp only [h, Option.map_some]
    exact .refl _

theorem kept_tableEvent (s : State) : Kept s (tableEvent s) := by
  unfold tableEvent
  exact (kept_requestEach _ s).trans ((kept_keepMessages _ _ _).trans (reacted_setLamp _).kept)

theorem kept_placeCurrent (t : Option CurrentTable) (s : State) :
    Kept { s with tts.current := t } (placeCurrent t s) :=
  (reacted_retarget _).kept.trans (kept_tableEvent _)

theorem kept_removeHost (f : HostEntry → Bool) (s : State) : Kept s (removeHost f s) := by
  unfold removeHost
  simp only
  split
  · exact (kept_keepMessages _ _ s).trans (reacted_requestKind _ _ _).kept
  · exact kept_keepMessages _ _ s

theorem kept_boardsRollover (s : State) : Kept s (boardsRollover s) :=
  (kept_keepMessages _ _ s).trans (reacted_requestAll _ _).kept

/-- A limit that changes leaves clock, timetable, tariffs and journal alone. -/
theorem kept_setQuiet (l : Option Level) (s : State) : Kept s (setQuiet l s) := by
  unfold setQuiet
  split
  · exact .refl s
  · have k := (reacted_retarget (raiseNotice .limitChanged { s with enm.quietLimit := l })).kept
    exact ⟨k.clock, k.tts, k.tfe, k.sjn⟩

theorem kept_quietOnMinute (s : State) : Kept s (quietOnMinute s) := by
  unfold quietOnMinute
  simp only
  split
  · exact (kept_setQuiet _ s).trans (stores_internalEvent _ _ _).kept
  · exact kept_setQuiet _ s

/-- A minute event evaluates the services and leaves clock, tariffs and journal alone. -/
theorem minuteEvent_kept (e : MinuteEvent) (s : State) :
    Kept { s with tts.current := s.tts.current.map fun t =>
        ⟨t.header, t.services.map (evaluateService s.tts.grace s.tts.window e.minute)⟩ } (minuteEvent e s) := by
  unfold minuteEvent expireHost
  refine (minuteEvaluation_kept e.minute s).trans ?_
  exact (kept_removeHost _ _).trans ((reacted_setLamp _).kept.trans (kept_quietOnMinute _))

end Sys2Proof.Machine
end

