-- ==== Sys2Proof/Tests/Slice0.lean ====
section
/-! SUPPORT. Tests of the model against the manual's worked examples, refused ill-formed commands, and for each obligation
with hypotheses a concrete state and operands that meet them. -/

namespace Sys2Proof.Tests

open Sys2Proof Sys2Proof.Machine

set_option maxRecDepth 8000

/-! ### States to test on -/

/-- The state a command answers next. -/
def after (c : Instr) (s : State) : State :=
  match exec c s with
  | .next t => t
  | .fault _ => s
  | .refused _ => s

/-- The state after a request whose reply has been sent. -/
def asked (c : Instr) (s : State) : State := after .replySent (after c s)

/-- The answer of the reply that a command leaves. -/
def answer (c : Instr) (s : State) : Option Answer := (after c s).hlk.reply.map (·.answer)

/-- The rules of tariff version 31 (Table 4-9). -/
def rules31 : Rules where
  bands := [(50, 2400), (200, 1500), (4000, 900)]
  boarding := 120
  fMin := 150
  fMax := 4500
  cMax := 9990
  step := 10
  returnFactor := 180
  openSingleFactor := 110
  openReturnFactor := 250
  classes := [some ⟨30, false⟩, some ⟨50, true⟩, some ⟨99, false⟩, some ⟨100, false⟩, none, none, none]
  windows := [(210, 360), (900, 1020)]
  surcharge := 20

/-- Tariff version 31 with two of its stations (Section 5.9). -/
def tariff31 : Tariff := ⟨31, ⟨2026, 3, 6⟩, [⟨12, "Twelve".toList, 51, .down⟩, ⟨23, "Stanmoor".toList, 237, .down⟩], rules31⟩

/-- Service 1404 of the 6 March table (Section 3.9). -/
def plan1404 : Planned := ⟨1404, .down, 282, 2, [12, 17, 23, 31]⟩

/-- Service 1403, of the same minute, which does not call at 23 (Section 5.9). -/
def plan1403 : Planned := ⟨1403, .up, 282, 1, [12]⟩

def header6 : Header := ⟨⟨2026, 3, 6⟩, .weekday, 240, 960, 1⟩

/-- A panel READY on temperature `t`. -/
def readyPanel (t : Int) : PanelRecord := ⟨.ready, some false, some true, none, some t, 0, 0, false, none⟩

/-- 6 March, 07:30:05, at EL1 with sales open, one DEPARTURES panel READY (Section 5.9). -/
def morning : State :=
  { State.reset with
    clock := some ⟨⟨2026, 3, 6⟩, 16205, 0, none⟩
    tts.current := some ⟨header6, [startService plan1403, startService plan1404]⟩
    tfe.active := some tariff31
    sjn.next := 40117
    sjn.released := 40116
    bdc.profiles.p1 := ⟨true, .departures, 4, .all, 2⟩
    bdc.credit := 6
    bdc.sales := none
    plc.panels.p1 := readyPanel 10
    plc.mode := .always
    plc.rail := .on
    plc.railLevel := .el1
    enm.battery := none
    enm.charge := some 80
    enm.stale := false
    enm.present := .el1
    enm.target := .el1
    enm.previous := some .el4
    enm.transition := .none
    enm.draw := 450
    hlk.notices := defaultNotices
    hlk.hold := false }

/-- The quote of Table 5-6's second line. -/
def quote23 : Quote :=
  ⟨23, "Stanmoor".toList, .down, .ret, 1, 2, some ⟨1404, 282⟩, 750, 1500, true, 31⟩

/-- The morning with that quote held. -/
def quoted : State := { morning with slc.slot := .quoted quote23 120000, awu.timer := .held }

/-- Its sale by card. -/
def sale23 : Sale := ⟨quote23, 40117, ⟨2026, 3, 6⟩, .card, none⟩

/-- The morning with that sale PRINTING. -/
def printing : State :=
  { morning with
    slc.slot := .printing sale23 30000, awu.timer := .held, sjn.reserved := true, sjn.next := 40118 }

/-- A state at a level, at rest there. -/
def atLevel (l : Level) (s : State) : State :=
  { s with
    enm.present := l, enm.target := l, awu.demand := l, plc.railLevel := l, plc.mode := railModeFor l false
    enm.draw := (levelEntry s l).draw, bdc.sales := if resting l then some .level else s.bdc.sales }

/-! ### Commands that the line cannot carry (R177, R179) -/

theorem test_wellFormed_morning_requests : (Instr.tableAdd 1404 (.named .down) 282 2 [12, 17, 23, 31]).wellFormed = true ∧
    (Instr.supplyReport (-128)).wellFormed = true ∧ (Instr.tariffRules rules31).wellFormed = true := by decide
theorem test_wellFormed_refuses_long_body : (Instr.frameComplete 1 0 (List.replicate 251 0)).wellFormed = false := by decide
theorem test_wellFormed_refuses_wide_source : (Instr.noticeClear [256]).wellFormed = false := by decide
theorem test_wellFormed_refuses_wide_config : (Instr.noticeConfig [⟨256, none, none⟩] none).wellFormed = false := by decide
theorem test_wellFormed_refuses_early_date : (Instr.tableOpen ⟨1999, 1, 1⟩ (.named .sunday) 0 0 1).wellFormed = false := by
  decide
theorem test_wellFormed_refuses_wide_month : (Instr.tariffOpen 1 ⟨2026, 256, 1⟩).wellFormed = false := by decide
theorem test_wellFormed_refuses_wide_service : (Instr.tableAdd 65536 (.named .up) 0 1 [1]).wellFormed = false := by decide
theorem test_wellFormed_refuses_wide_direction : (Instr.tableAdd 1 (.other 256) 0 1 [1]).wellFormed = false := by decide
theorem test_wellFormed_refuses_wide_call : (Instr.tableAdd 1 (.named .up) 0 1 [256]).wellFormed = false := by decide
theorem test_wellFormed_refuses_long_calls : (Instr.tableAdd 1 (.named .up) 0 1 (List.replicate 244 1)).wellFormed = false := by
  decide
theorem test_wellFormed_refuses_long_name :
    (Instr.tariffStation 1 (List.replicate 256 'a') 1 (.named .up)).wellFormed = false := by decide
theorem test_wellFormed_refuses_six_classes :
    (Instr.tariffRules { rules31 with classes := [none, none, none, none, none, none] }).wellFormed = false := by decide
theorem test_wellFormed_refuses_stray_service :
    (Instr.saleQuote 1 (.named .single) 0 1 (.named .next) (some 1)).wellFormed = false := by decide
theorem test_wellFormed_refuses_wide_reference : (Instr.saleCommit (.named .cash) (some ['→'])).wellFormed = false := by decide
theorem test_wellFormed_refuses_wide_line :
    (Instr.boardText 1 (.named .normal) [['→']] none).wellFormed = false := by decide
theorem test_wellFormed_refuses_wide_charge : (Instr.supplyReport 128).wellFormed = false := by decide

/-! ### The host line (R177, R179) -/

/-- The check value of the CRC that R177 names, over the ASCII digits 1 to 9. PRESUMED: general knowledge of that CRC. -/
theorem test_crc_of_digits : crc [0x31#8, 0x32#8, 0x33#8, 0x34#8, 0x35#8, 0x36#8, 0x37#8, 0x38#8, 0x39#8] = 0x29B1#16 := by
  decide

/-- A frame of the wrong kind is answered UNKNOWN-KIND (R179, Section 11.5). -/
theorem test_frame_of_an_unknown_kind : answer (.frameComplete 0x00 7 []) morning = some (refuse .unknownKind .none) := by
  decide
theorem test_power_loss_and_restart : (after (.powerOn true) (after .powerLoss printing)).sjn.records.map (·.kind) = [.unconfirmed] ∧
    (after (.powerOn true) (after .powerLoss printing)).hlk.fastLine = true := by decide
theorem test_reset_is_a_restart : restartPart State.reset = State.reset := by decide
/-- Table 11-5: of two read notices, the one raised again in between stays pending after NOTICE-CLEAR. -/
theorem test_clear_leaves_the_raised_again :
    ((after (.noticeClear [9, 10]) (raiseNotice .levelChanged (asked .noticeRead
      (raiseNotice .levelChanged (raiseNotice .panelCold morning))))).hlk.notices.map (·.pending)) =
      (List.replicate 10 false ++ [true] ++ List.replicate 5 false) := by decide
theorem test_notice_config_refuses_source_zero :
    answer (.noticeConfig [⟨0, some false, none⟩] none) morning = some (refuse .range .field) := by decide

/-! ### The clock (Table 1-5) -/

/-- The clock after the seasonal step and twenty seconds more. -/
def stepped : State := { morning with clock := some ⟨⟨2026, 3, 6⟩, 20, 0, some 3600⟩ }

theorem test_first_setting : (after (.clockSet 2026 3 6 1 58 30) { morning with clock := none }).clock =
    some ⟨⟨2026, 3, 5⟩, 82710, 0, none⟩ := by decide
theorem test_seasonal_step :
    (after (.clockSet 2026 3 6 3 0 0) { morning with clock := some ⟨⟨2026, 3, 5⟩, 82800, 0, none⟩ }).clock =
      some ⟨⟨2026, 3, 6⟩, 0, 0, some 3600⟩ := by decide +kernel
theorem test_backward_refused : (answer (.clockSet 2026 3 6 2 59 50) stepped).map (·.detail) = some .backward ∧
    (after (.clockSet 2026 3 6 2 59 50) stepped).clock = stepped.clock := by decide
theorem test_drift_correction : (after (.clockSet 2026 3 6 3 0 17) stepped).clock =
    some ⟨⟨2026, 3, 6⟩, 17, 0, some (-3)⟩ := by decide +kernel
theorem test_leap_day : nextDate ⟨2028, 2, 28⟩ = ⟨2028, 2, 29⟩ ∧ nextDate ⟨2026, 12, 31⟩ = ⟨2027, 1, 1⟩ := by decide
theorem test_day_ends : (after .clockSecond { morning with clock := some ⟨⟨2026, 3, 6⟩, 86399, 0, none⟩ }).clock.map (·.date) =
    some ⟨2026, 3, 7⟩ := by decide

/-! ### The timetable (Tables 3-5 and 3-6) -/

/-- The morning at a service minute, with service 1404 as given. -/
def running1404 (minute : Nat) (v : Service) : State :=
  { morning with clock := some ⟨⟨2026, 3, 6⟩, 60 * minute, 0, none⟩, tts.current := some ⟨header6, [v]⟩ }

/-- Service 1404 late and on platform 1. -/
def late1404 (status : Status) (delay : Nat) (stamp : Nat) (approach : Bool) : Service :=
  ⟨plan1404, status, delay, 1, true, some stamp, approach, 2⟩

/-- The same a second before the next minute. -/
def lastSecond (minute : Nat) (v : Service) : State :=
  { running1404 minute v with clock := some ⟨⟨2026, 3, 6⟩, 60 * minute + 59, 0, none⟩ }

/-- What becomes of service 1404. -/
def the1404 (c : Instr) (s : State) : Option Service := currentService (after c s) 1404

/-- Minutes 260, 265 and 271: a delay applied, an older stamp stale, a changed platform. -/
theorem test_running_applied_stale_altered :
    (the1404 (.running 1404 15610 (.named .delay) 12) (running1404 260 (startService plan1404)) =
    some ⟨plan1404, .delayed, 12, 2, false, some 15610, false, 0⟩) ∧
    (the1404 (.running 1404 15400 (.named .delay) 8) (running1404 265 ⟨plan1404, .delayed, 12, 2, false, some 15610, false, 0⟩)
      = some ⟨plan1404, .delayed, 12, 2, false, some 15610, false, 0⟩) ∧
    (the1404 (.running 1404 16260 (.named .platform) 1)
      (running1404 271 ⟨plan1404, .delayed, 12, 2, false, some 15610, false, 0⟩) =
      some ⟨plan1404, .delayed, 12, 1, true, some 16260, false, 0⟩) := by decide
theorem test_approach_starts :
    the1404 .clockSecond (lastSecond 289 (late1404 .delayed 12 16260 false)) =
      some (late1404 .delayed 12 16260 true) := by decide
theorem test_service_lapses :
    the1404 .clockSecond (lastSecond 301 (late1404 .delayed 15 17520 true)) =
      some (late1404 .lapsed 15 17520 false) := by decide
/-- Minutes 304 and 310: a delay revives a lapsed service, and a departed one is final. -/
theorem test_running_revives_and_final :
    (the1404 (.running 1404 18240 (.named .delay) 25) (running1404 304 (late1404 .lapsed 15 17520 false)) =
      some (late1404 .delayed 25 18240 true)) ∧
    ((answer (.running 1404 18600 (.named .cancel) 0) (running1404 310 (late1404 .departed 25 18540 false))) =
      some (done (.running .final (late1404 .departed 25 18540 false) 307 none))) := by decide
/-- R16: records of one minute stand in the order they were added. -/
theorem test_add_after_the_same_minute :
    (after (.tableAdd 1404 (.named .down) 282 2 [12]) { morning with tts.next := some ⟨false, header6, [plan1403,
      ⟨1500, .up, 300, 1, [12]⟩]⟩ }).tts.next.map (·.records.map (·.number)) = some [1403, 1404, 1500] := by decide

/-! ### The fare (Section 4.8) -/

/-- A fare of tariff version 31 with the class rule and the effective surcharge. -/
def fare31 (d : Nat) (k : TicketType) (c : Nat) (n pk : Nat) : FareStages := fareStages rules31 d k ⟨c, false⟩ n pk

theorem test_main_case : fare31 237 .ret 30 2 20 =
    ⟨378300, 378, 498, false, false, 1076, 753, 750, false, 750, false, 1500⟩ := by decide
theorem test_main_case_off_peak : (fare31 237 .ret 30 2 0).typed = 896 ∧ (fare31 237 .ret 30 2 0).fare = 630 := by decide
theorem test_band_boundaries : ([1, 50, 51, 200, 201].map fun d => (fare31 d .single 0 1 0).base) = [150, 240, 242, 465, 466] ∧
    ([1, 50, 51, 200, 201].map fun d => (fare31 d .single 0 1 0).charge) = [2, 120, 122, 345, 346] := by decide
theorem test_stage_three_tie : (fare31 237 .single 0 1 25).typed = 623 ∧ (fare31 237 .single 0 1 25).fare = 620 := by decide
theorem test_zero_raise_and_free_pass : (fare31 1 .single 99 1 0).fare = 10 ∧ (fare31 1 .single 100 9 0).total = 0 := by
  decide
theorem test_ceiling_and_stage_five_tie : fare31 4000 .openReturn 0 1 20 =
    ⟨3765000, 3765, 3885, false, false, 11655, 11655, 11650, false, 9990, true, 9990⟩ := by decide
theorem test_exempt_class : answer (.fareTrial (.named .active) 23 (.named .ret) 2 1 (.named .inPeak)) morning =
    some (done (.trial ⟨"Stanmoor".toList, .down, 450, 450, false, 31⟩
      ⟨378300, 378, 498, false, false, 896, 448, 450, false, 450, false, 450⟩)) := by decide

/-! ### Sales (Table 5-6) -/

/-- 07:30:40 and 07:33:00: a RETURN for the next service, and an OPEN-SINGLE judged by the present minute. -/
theorem test_quotes :
    (answer (.saleQuote 23 (.named .ret) 1 2 (.named .next) none) morning =
    some (done (.quoted quote23 120 (some (282, 2))))) ∧
    (((after (.saleQuote 12 (.named .openSingle) 0 1 (.named .openTicket) none)
      { morning with clock := some ⟨⟨2026, 3, 6⟩, 16380, 0, none⟩ }).slc.slot) =
      .quoted ⟨12, "Twelve".toList, .down, .openSingle, 0, 1, none, 320, 320, true, 31⟩ 120000) := by decide
theorem test_commit : (after (.saleCommit (.named .card) none) quoted).slc.slot = .printing sale23 30000 ∧
    (after (.saleCommit (.named .card) none) quoted).sjn.next = 40118 := by decide
/-- 07:31:25 and 07:34:12: the record with its completion time, the passengers counted, and a late result. -/
theorem test_printed_and_late :
    ((after (.salePrinted 40117 (.named .printed)) { printing with
      clock := some ⟨⟨2026, 3, 6⟩, 16285, 0, none⟩ }).sjn.records =
    [⟨40117, .issued, ⟨2026, 3, 6⟩, some 16285, 23, .ret, 1, 2, some 1404, 1500, .card, none, 31, false⟩]) ∧
    ((currentService (after (.salePrinted 40117 (.named .printed)) printing) 1404).map (·.sold) = some 2) ∧
    (answer (.salePrinted 40117 (.named .printed)) (after .printTimerExpiry printing) =
    some ⟨.late, .none, .standing (some (.kind .unconfirmed))⟩) := by decide
theorem test_commit_after_expiry : answer (.saleCommit (.named .cash) none) (after .quoteTimerExpiry quoted) =
    some (refuse .busy .none) ∧ (after .quoteTimerExpiry quoted).slc.lastReason = some .expiry := by decide
theorem test_level_closes_sales : answer (.saleQuote 23 (.named .ret) 1 2 (.named .next) none) (atLevel .el4
    { morning with enm.ceiling := .el4, enm.effective := .el4 }) = some ⟨.closed, .none, .reasons [.level]⟩ := by decide

/-! ### The journal (Section 6.10) -/

/-- A record of the evening's journal. -/
def recordAt (serial : Nat) (kind : RecordKind) (k : Payment) (total : Nat) : JRecord :=
  ⟨serial, kind, ⟨2026, 3, 6⟩, some 16285, 23, .ret, 1, 1, some 1404, total, k, none, 31, false⟩

/-- The four oldest records (Table 6-3), as the whole journal. -/
def evening : State :=
  { morning with
    sjn := { morning.sjn with
      records := [recordAt 38137 .issued .cash 480, recordAt 38138 .spoiled .card 1500,
        recordAt 38139 .issued .card 1500, recordAt 38140 .unconfirmed .voucher 750],
      released := 38136, next := 38141 } }

/-- The evening with the four records handed out. -/
def handedOut : State := asked (.journalRead 38137 4) evening

theorem test_release_of_unread : answer (.journalRelease 38140) evening =
    some ⟨.range, .handed, .releaseRefused (some 38137) 38136 4 2044⟩ := by decide
/-- Table 6-4: four removed, and none by the resent request. -/
theorem test_release_and_release_again :
    (answer (.journalRelease 38140) handedOut =
    some (done (.released 4 ⟨480, 1500, 750⟩ 38140 0 2048))) ∧
    (answer (.journalRelease 38140) (asked (.journalRelease 38140) handedOut) =
    some (done (.released 0 ⟨0, 0, 0⟩ 38140 0 2048))) := by decide

/-! ### Boards and panel line (Tables 7-6 and 8-7) -/

/-- The panel line at 07:21:31.400: a SHOW on the line to a panel at −7 °C. -/
def showing (r : Refresh) : State :=
  { morning with plc.panels.p1 := readyPanel (-7), plc.cold := true, plc.line := some ⟨.p1, .refresh r, .show, false⟩
                 enm.coldLimit := some .el2, enm.present := .el2, enm.target := .el2, bdc.credit := 1 }

def page1 : Page := .sales ["Tickets on sale here".toList]

theorem test_show_taken_draws_nine_seconds :
    (after (.panelReply .p1 true .taken) (showing ⟨page1, some true, false, 0, 0⟩)).plc.line =
      some ⟨.p1, .refresh ⟨page1, some true, true, 9, 0⟩, .drawing 9000, false⟩ ∧
    (after (.panelReply .p1 true .taken) (showing ⟨page1, some true, false, 0, 0⟩)).bdc.credit = 0 := by decide
theorem test_silence_fails_the_attempt :
    (after .replyWaitExpiry { showing ⟨page1, some true, false, 0, 0⟩ with
      plc.line := some ⟨.p1, .refresh ⟨page1, some true, false, 0, 0⟩, .load, false⟩ }).plc.line =
      some ⟨.p1, .refresh ⟨page1, some true, false, 0, 0⟩, .retry 1000, false⟩ := by decide
theorem test_upgraded_entry_moves :
    enqueue .p1 true [⟨.p3, true⟩, ⟨.p1, false⟩, ⟨.p4, false⟩] = [⟨.p3, true⟩, ⟨.p1, true⟩, ⟨.p4, false⟩] := by decide

/-! ### Energy (Tables 9-5, 9-7 and 10-3) -/

theorem test_battery_run : [58, 61, 64, 39, 11, 4, 7, 9, 30].scanl (fun l c => batteryAfter c l) none =
    [none, some .el1, some .el1, none, some .el2, some .el4, some .el5, some .el5, some .el4, some .el2] := by decide
theorem test_lowering_waits_for_the_sale :
    (after (.levelLimit (.level 4)) printing).enm.transition = .lowering .el4 ∧
    (after (.levelLimit (.level 3)) (asked (.levelLimit (.level 4)) printing)).enm.transition = .lowering .el4 := by decide
theorem test_sale_ends_the_lowering :
    ((after (.salePrinted 40117 (.named .printed)) (asked (.levelLimit (.level 3))
      (asked (.levelLimit (.level 4)) printing))).enm.transition) = .raising .el3 200 ∧
    ((after (.salePrinted 40117 (.named .printed)) (asked (.levelLimit (.level 3))
      (asked (.levelLimit (.level 4)) printing))).enm.present) = .el4 := by decide

/-- EL5 in the night: BATTERY at EL3 and CALL with sense EITHER (Section 10.6). -/
def night : State :=
  let s := atLevel .el5 { morning with enm.battery := some .el3, bdc.credit := 0, awu.timer := .stopped }
  { s with awu.config.inputs.call := ⟨.either, true, true⟩, awu.filtered.call := some true, plc.rail := .off }

theorem test_call_wakes : (after (.fieldInputEdge .call false) night).enm.transition = .raising .el3 800 ∧
    (after (.fieldInputEdge .call false) night).awu.lock = some ⟨false, false⟩ := by decide
theorem test_demand_falls_to_el5 :
    (after .demandTimerExpiry (atLevel .el4 { night with awu.timer := .running 1 })).enm.present = .el5 ∧
    (after .demandTimerExpiry (atLevel .el4 { night with awu.timer := .running 1 })).plc.mode = .off := by decide

/-! ### States and operands that meet the hypotheses of the obligations

Each theorem `witness_<Name>` belongs to `Obligations.<Name>`: concrete values that meet the hypotheses of its clauses, at
the boundary values where a range is meant. -/

/-- The morning with another clock. -/
def atClock (c : Option ClockSetting) : State := { morning with clock := c }

/-- The evening of 30 December 2099 and of the last date, at the last second. -/
def lastSecondOf (d : Date) : State := atClock (some ⟨d, 86399, 0, none⟩)

/-- The morning with a next table or a pending tariff. -/
def withNext (t : NextTable) : State := { morning with tts.next := some t }
def withPending (p : PendingTariff) : State := { morning with tfe.pending := some p }

/-- `n` planned services of minute 282, and `n` stations, numbered from 1. -/
def plans (n : Nat) : List Planned := (List.range n).map fun i => ⟨i + 1, .up, 282, 1, [12]⟩
def someStations (n : Nat) : List Station := (List.range n).map fun i => ⟨i + 1, "S".toList, 10, .up⟩

/-- While a reply is being sent, with waiting frames. -/
def replying (waiting : List Arrival) : State :=
  { morning with hlk.reply := some ⟨0x81#8, 0#8, done .nothing⟩, hlk.waiting := waiting }

def frame0 : Frame := ⟨0x00#8, 7#8, []⟩

theorem witness_StepTakesTheFront :
    ({ printing with pending := [.saleStatus, .activity] } : State).pending = .saleStatus :: [.activity] ∧
    morning.pending = [] ∧ morning.power = .on ∧ ({ morning with power := .held } : State).pending = [] ∧
    ({ morning with power := .held } : State).power ≠ .on := by decide

theorem witness_InactivePartDoesNothing : ({ morning with power := .held } : State).power ≠ .on ∧
    ({ morning with power := .off } : State).power ≠ .on ∧ (∀ b, Instr.activity ≠ .powerOn b) ∧
    (∀ b, Instr.activity ≠ .resetnReleased b) ∧ Instr.activity ≠ .resetnAsserted ∧ Instr.activity ≠ .powerLoss := by
  decide

/-- Two services of two numbers, and no next table. -/
theorem numbers_of_morning : NumbersDistinct morning := by
  refine ⟨?_, ?_⟩ <;> (intro t h; cases h)
  decide

/-- RESETN held low over a power loss holds the part at the power-on too, and its release restarts it (R176). -/
theorem test_resetn_low_over_a_power_loss :
    (let s := after .powerLoss (after .resetnAsserted morning)
     (after (.powerOn true) s).power = .held ∧ (after .resetnAsserted (after .powerLoss morning)).power = .offHeld ∧
       (after (.resetnReleased true) (after (.powerOn true) s)).power = .on) := by decide

theorem witness_RestartsKeepSettingsAndConcludeSales : resetLow printing.power = false ∧ NumbersDistinct printing ∧
    printing.slc.slot = .printing sale23 30000 ∧ printing.hlk.notices.length = sourceCount ∧
    slotState quoted.slc.slot ≠ .printing := ⟨by decide, numbers_of_morning, by decide⟩

theorem witness_ResetInputHoldsAndRestarts : printing.power = .on ∧ (after .resetnAsserted printing).power = .held ∧
    (after .powerLoss morning).power = .off ∧ (after .powerLoss (after .resetnAsserted printing)).power = .offHeld ∧
    resetLow (after .powerLoss morning).power = false ∧ (after .restart morning).power = .on ∧
    (after .restart morning).hlk.reply.isSome ∧ (after .restart morning).hlk.restartDue = true := by decide

theorem witness_PowerLossKeepsTheStore : printing.slc.slot = .printing sale23 30000 ∧
    slotState quoted.slc.slot ≠ .printing ∧ resetLow printing.power = false ∧
    printing.tts.current = some ⟨header6, [startService plan1403, startService plan1404]⟩ ∧
    startService plan1404 ∈ [startService plan1403, startService plan1404] := by decide

theorem witness_BytesMakeTheFrame : morning.power = .on ∧ morning.hlk.receiver = .hunting ∧
    (Frame.mk 0x81#8 0#8 (List.replicate 250 0xA5#8)).body.length ≤ 250 ∧ (0#16) ≠ frameCheck frame0 ∧
    frameCheck frame0 = frameCheck frame0 := by decide

theorem witness_ReceiverHuntsAndAbandons : morning.power = .on ∧ morning.hlk.receiver = .hunting ∧ 0xA4#8 ≠ 0xA5#8 ∧
    (after (.hostByteReceived 0xA5#8) morning).hlk.receiver = .inFrame [] ∧ 250 < (251#8).toNat := by decide

theorem witness_FramesWaitAndFieldlessFramesAnswer : Listens morning ∧ frame0.kind ∉ catalogue ∧
    (replying [.frame frame0]).hlk.reply.isSome ∧ (replying [.frame frame0]).hlk.waiting.length < 2 ∧
    2 ≤ (replying [.frame frame0, .request .identify]).hlk.waiting.length ∧ (replying []).hlk.restartDue = false ∧
    (replying []).hlk.waiting = [] ∧
    (replying [.frame frame0, .request .identify]).hlk.waiting = .frame frame0 :: [.request .identify] ∧
    kindOf .wakeStatus = some 0x7A#8 ∧ (replying [.request .wakeStatus]).hlk.waiting = .request .wakeStatus :: [] ∧
    ({ night with awu.config.link := true } : State).awu.config.link = true ∧ night.enm.present = .el5 ∧
    night.awu.config.link = false ∧ morning.enm.present ≠ .el4 ∧ morning.enm.present ≠ .el5 ∧
    fieldless 0x01#8 = some .identify ∧ fieldless 0x7A#8 = some .wakeStatus ∧ [0#8] ≠ [] :=
  ⟨⟨rfl, rfl⟩, by decide⟩

theorem witness_ServiceRecordRoundTrip : 65535 < 65536 ∧ 255 < 256 ∧ (List.replicate 255 255).length < 256 ∧
    (∀ c ∈ List.replicate 255 255, c < 256) ∧ (∀ n, Coded.other (α := Direction) 255 = .other n → 2 ≤ n ∧ n < 256) ∧
    (∀ n, Coded.other (α := Direction) 2 = .other n → 2 ≤ n ∧ n < 256) ∧ [0#8, 1#8].length ≠ (1#8).toNat ∧
    Listens morning ∧ (List.replicate 6 0#8).length < 7 ∧ readService (List.replicate 6 0#8) = none ∧
    readService (List.replicate 6 0#8 ++ [1#8]) = none := by
  refine ⟨by decide, by decide, by decide, by decide, ?_, ?_, by decide, ⟨rfl, rfl⟩, by decide, by decide, by decide⟩ <;> (intro n h; cases h; decide)

/-- A pending tariff with one station and without rules. -/
def onePending : State := withPending ⟨false, 32, ⟨2026, 3, 7⟩, someStations 1, none⟩

theorem witness_ReadsAndDeviceRequestsAnswered : Listens morning ∧ Listens (atClock none) ∧ (atClock none).clock = none ∧
    morning.clock = some ⟨⟨2026, 3, 6⟩, 16205, 0, none⟩ ∧ 95 < 96 ∧ 95 ≤ 95 ∧
    ({ morning with tts.current := none } : State).tts.current = none ∧ morning.tts.next = none ∧
    morning.tts.current = some ⟨header6, [startService plan1403, startService plan1404]⟩ ∧
    [startService plan1403, startService plan1404][1]? = some (startService plan1404) ∧
    [startService plan1403, startService plan1404].length ≤ 2 ∧
    (withNext ⟨true, header6, plans 96⟩).tts.next = some ⟨true, header6, plans 96⟩ ∧
    (plans 96)[95]? = some ⟨96, .up, 282, 1, [12]⟩ ∧ (plans 95).length ≤ 95 ∧ 47 < 48 ∧ 47 ≤ 47 ∧
    (someStations 48)[47]? = some ⟨48, "S".toList, 10, .up⟩ ∧ (someStations 47).length ≤ 47 ∧
    Selected morning .active .present (some (31, ⟨2026, 3, 6⟩)) tariff31.stations (some rules31) ∧
    Selected morning .pending .none none [] none ∧
    Selected onePending .pending .loading (some (32, ⟨2026, 3, 7⟩)) (someStations 1) none ∧
    ¬(1 ≤ 64 ∧ 64 ≤ 63 ∧ 7 ≤ 7 ∧ 1 ≤ 9 ∧ 9 ≤ 9) ∧ (1 ≤ 63 ∧ 63 ≤ 63 ∧ 7 ≤ 7 ∧ 1 ≤ 9 ∧ 9 ≤ 9) ∧
    tariff31.stations ≠ [] ∧ (∀ x ∈ tariff31.stations, x.code ≠ 63) ∧
    tariff31.stations.find? (fun y => y.code == 23) = some ⟨23, "Stanmoor".toList, 237, .down⟩ ∧
    (∀ c, rules31.classes[7 - 1]? ≠ some (some c)) ∧ rules31.classes[2 - 1]? = some (some ⟨50, true⟩) := by
  refine ⟨⟨rfl, rfl⟩, ⟨rfl, rfl⟩, rfl, rfl, by decide, by decide, rfl, rfl, rfl, by decide, by decide, rfl, by decide, by decide,
    by decide, by decide, by decide, by decide, .inr ⟨tariff31, rfl, rfl, rfl, rfl, rfl⟩, .inl ⟨rfl, rfl, rfl, rfl, rfl⟩,
    .inr ⟨_, rfl, rfl, rfl, rfl, rfl⟩, by decide, by decide, by decide, by decide, by decide, ?_, by decide⟩
  intro c h; cases h

theorem witness_ClearRetainedClears : Listens evening ∧ Listens printing ∧ Listens quoted ∧ Listens morning ∧ morning.hlk.notices.length = sourceCount ∧
    (atOwner evening).sjn.records ≠ [] ∧
    (atOwner printing).sjn.reserved = true ∧ slotState (atOwner quoted).slc.slot ≠ .idle ∧
    (atOwner morning).sjn.records = [] ∧ (atOwner morning).sjn.reserved = false ∧
    slotState (atOwner morning).slc.slot = .idle :=
  ⟨⟨rfl, rfl⟩, ⟨rfl, rfl⟩, ⟨rfl, rfl⟩, ⟨rfl, rfl⟩, by decide⟩

/-- What NOTICE-CONFIG may carry: sources 1 and 15; not 0 and 16, nor a priority or a sense outside its list. -/
theorem witness_NoticesReadAndConfigured_ranges :
    (let good := fun (fields : List NoticeField) (sense : Option (Coded DoorSense)) =>
      (∀ f ∈ fields, 1 ≤ f.source ∧ f.source ≤ 15 ∧ ∀ n, f.priority ≠ some (.other n)) ∧ ∀ n, sense ≠ some (.other n)
     good [⟨1, some false, none⟩, ⟨15, none, some (.named .high)⟩] (some (.named .level)) ∧ ¬good [⟨0, none, none⟩] none ∧
       ¬good [⟨16, none, none⟩] none ∧ ¬good [⟨1, none, some (.other 2)⟩] none ∧ ¬good [] (some (.other 2))) := by
  simp

theorem witness_NoticesReadAndConfigured : Listens morning ∧ morning.hlk.notices.length = sourceCount ∧
    attnAsserted (raiseNotice .woke morning) = true ∧ attnAsserted morning = false ∧
    attnAsserted (raiseNotice .woke { morning with hlk.hold := true }) = false ∧
    ([NoticeField.mk 1 (some false) none, ⟨15, none, some (.named .high)⟩].map (·.source)).Nodup ∧
    (∀ f ∈ [NoticeField.mk 1 (some false) none, ⟨15, none, some (.named .high)⟩], f.source ≠ 2) :=
  ⟨⟨rfl, rfl⟩, by decide⟩

theorem witness_NoticeClearClearsTheSeen : Listens morning ∧ morning.hlk.notices.length = sourceCount ∧ (∃ n ∈ [9, 16], 15 < n) ∧ (∀ n ∈ [0, 15], n ≤ 15) :=
  ⟨⟨rfl, rfl⟩, by decide⟩

theorem witness_PositionsInvert : realDate ⟨2028, 2, 29⟩ = true ∧ realDate ⟨1, 1, 1⟩ = true ∧ 1 ≤ 2028 ∧ 86399 < 86400 ∧
    0 < 86400 ∧ 10799 < 10800 ∧ 10800 ≤ 10800 ∧ 75599 < 75600 ∧ 75600 ≤ 75600 := by decide

/-- R2 and R3 at their edges: 03:00 and a second before it on 1 March of a leap year, and on 1 January 2100. -/
theorem test_positions_at_three : clockPosition ⟨2028, 3, 1⟩ 10800 = (⟨2028, 3, 1⟩, 0) ∧
    clockPosition ⟨2028, 3, 1⟩ 10799 = (⟨2028, 2, 29⟩, 86399) ∧
    clockPosition ⟨2100, 1, 1⟩ 0 = (⟨2099, 12, 31⟩, 75600) := by decide

theorem witness_ClockCountsSeconds : morning.power = .on ∧ (atClock none).clock = none ∧
    (atClock (some ⟨⟨2026, 3, 6⟩, 86398, 0, none⟩)).clock = some ⟨⟨2026, 3, 6⟩, 86398, 0, none⟩ ∧ 86398 < 86399 ∧
    (86398 + 1) % 60 ≠ 0 ∧ (atClock (some ⟨⟨2026, 3, 6⟩, 59, 0, none⟩)).clock = some ⟨⟨2026, 3, 6⟩, 59, 0, none⟩ ∧
    59 < 86399 ∧ (59 + 1) % 60 = 0 := by decide

/-- Service minute 1 of a night at EL5 with a quiet window of minute 0, CLOCK's wake flag set and two host messages, one that
expires: QUIET ends; with a window of minutes 0 and 1 it stays. -/
theorem witness_ClockCountsSeconds_minute :
    (let s : State := { night with
      clock := some ⟨⟨2026, 3, 6⟩, 59, 0, none⟩, enm.quietStart := 0, enm.quietEnd := 1, enm.quietLimit := some .el3
      awu.config.clock := true
      bdc.profiles.p2 := ⟨true, .messages, 4, .all, 0⟩
      bdc.host := [⟨1, .normal, [], some 1, 1⟩, ⟨2, .normal, [], some 2, 2⟩] }
     s.power = .on ∧ s.hlk.notices.length = sourceCount ∧ s.enm.quietLimit.isSome ∧
       ¬((s.enm.quietStart < s.enm.quietEnd ∧ s.enm.quietStart ≤ 1 ∧ 1 < s.enm.quietEnd) ∨
         (s.enm.quietEnd < s.enm.quietStart ∧ (s.enm.quietStart ≤ 1 ∨ 1 < s.enm.quietEnd))) ∧
       s.awu.config.clock = true ∧ s.enm.present = .el5 ∧ (∃ x ∈ s.bdc.host, ∃ e ∈ x.expiry, e ≤ 1) ∧
       (s.bdc.profiles.get .p2).isPresent = true ∧ (s.bdc.profiles.get .p2).kind = .messages ∧
       (after .clockSecond s).bdc.host.map (·.id) = [2] ∧ (after .clockSecond s).awu.woke = some ⟨.clock, none, some 1⟩) ∧
    ((0 < 2 ∧ 0 ≤ 1 ∧ 1 < 2) ∨ (2 < 0 ∧ (0 ≤ 1 ∨ 1 < 2))) := by decide

theorem witness_ServiceDayEnds : (lastSecondOf ⟨2099, 12, 30⟩).power = .on ∧
    (lastSecondOf ⟨2099, 12, 30⟩).clock = some ⟨⟨2099, 12, 30⟩, 86399, 0, none⟩ ∧
    (lastSecondOf ⟨2099, 12, 30⟩).hlk.notices.length = sourceCount ∧ dateBefore ⟨2099, 12, 30⟩ lastDate = true ∧
    (lastSecondOf lastDate).clock = some ⟨lastDate, 86399, 0, none⟩ ∧ dateBefore lastDate lastDate = false ∧
    (let s : State := { night with clock := some ⟨⟨2026, 3, 6⟩, 86399, 0, none⟩, awu.config.clock := true }
     s.power = .on ∧ s.hlk.notices.length = sourceCount ∧ s.awu.config.approach = false ∧ s.awu.config.clock = true ∧
       s.enm.present = .el5 ∧ (after .clockSecond s).awu.woke = some ⟨.clock, none, some 0⟩) ∧
    morning.awu.config.approach = false ∧ morning.awu.config.clock = false := by decide

theorem witness_ClockSetRefusesOrSetsFirst : clockFieldsInRange 2026 2 29 0 0 0 = false ∧
    inSpan (clockPosition ⟨2000, 1, 1⟩ (3600 * 2 + 60 * 59 + 59)).1 = false ∧ Listens (atClock none) ∧
    (atClock none).clock = none ∧ (atClock none).hlk.notices.length = sourceCount ∧
    clockFieldsInRange 2000 1 1 3 0 0 = true ∧ inSpan (clockPosition ⟨2000, 1, 1⟩ (3600 * 3 + 60 * 0 + 0)).1 = true ∧
    clockFieldsInRange 2100 1 1 2 59 59 = true ∧
    inSpan (clockPosition ⟨2100, 1, 1⟩ (3600 * 2 + 60 * 59 + 59)).1 = true := by
  refine ⟨?_, ?_, ⟨rfl, rfl⟩, ?_⟩ <;> decide +kernel

theorem witness_ClockSteps : Listens morning ∧ morning.clock = some ⟨⟨2026, 3, 6⟩, 16205, 0, none⟩ ∧
    (clockFieldsInRange 2026 3 6 2 59 59 = true ∧
      dateBefore (clockPosition ⟨2026, 3, 6⟩ (3600 * 2 + 60 * 59 + 59)).1 ⟨2026, 3, 6⟩ = true ∧
      inSpan (clockPosition ⟨2026, 3, 6⟩ (3600 * 2 + 60 * 59 + 59)).1 = true) ∧
    (clockFieldsInRange 2027 3 7 3 0 0 = true ∧ inSpan (clockPosition ⟨2027, 3, 7⟩ 10800).1 = true ∧
      dateBefore (clockPosition ⟨2027, 3, 7⟩ 10800).1 ⟨2026, 3, 6⟩ = false ∧
      (dayNumber (clockPosition ⟨2027, 3, 7⟩ 10800).1 : Int) - dayNumber ⟨2026, 3, 6⟩ = 366) ∧
    (clockFieldsInRange 2027 3 8 3 0 0 = true ∧ inSpan (clockPosition ⟨2027, 3, 8⟩ 10800).1 = true ∧
      (366 : Int) < (dayNumber (clockPosition ⟨2027, 3, 8⟩ 10800).1 : Int) - dayNumber ⟨2026, 3, 6⟩) ∧
    (clockPosition ⟨2026, 3, 6⟩ 10800).1 = ⟨2026, 3, 6⟩ ∧ (clockPosition ⟨2027, 3, 7⟩ 10800).1 ≠ ⟨2026, 3, 6⟩ :=
  ⟨⟨rfl, rfl⟩, by decide +kernel⟩

theorem witness_RolloverMovesTablesAndTariff : (lastSecondOf ⟨2026, 3, 5⟩).power = .on ∧
    (lastSecondOf ⟨2026, 3, 5⟩).hlk.notices.length = sourceCount ∧
    (lastSecondOf ⟨2026, 3, 5⟩).clock = some ⟨⟨2026, 3, 5⟩, 86399, 0, none⟩ ∧ dateBefore ⟨2026, 3, 5⟩ lastDate = true ∧
    nextDate ⟨2026, 3, 5⟩ = header6.date ∧ Listens (atClock none) ∧ (atClock none).hlk.notices.length = sourceCount ∧
    clockFieldsInRange 2026 3 6 3 0 0 = true ∧ (clockPosition ⟨2026, 3, 6⟩ (3600 * 3 + 60 * 0 + 0)).1 = header6.date ∧
    inSpan header6.date = true ∧ dateBefore ⟨2025, 3, 5⟩ header6.date = true ∧
    dayNumber header6.date = dayNumber ⟨2025, 3, 5⟩ + 366 ∧ (atClock none).clock = none ∧
    (∀ c, ({ atClock none with tts.current := none } : State).tts.current = some c → c.header.date ≠ header6.date) ∧
    (atClock none).tts.current = some ⟨header6, [startService plan1403, startService plan1404]⟩ := by
  refine ⟨rfl, by decide, rfl, by decide, by decide, ⟨rfl, rfl⟩, by decide, by decide, by decide +kernel, by decide, by decide,
    by decide +kernel, rfl, ?_, rfl⟩
  intro c h; cases h

/-- What a rollover into 6 March finds: no next table, one LOADING, one READY for a later date, an earlier one and that
date; no pending tariff, one LOADING, one READY for a later date and one whose date has come. -/
theorem witness_RolloverMovesTablesAndTariff_cases : morning.tts.next = none ∧
    (withNext ⟨false, header6, []⟩).tts.next = some ⟨false, header6, []⟩ ∧
    dateBefore header6.date ({ header6 with date := ⟨2026, 3, 7⟩ } : Header).date = true ∧
    dateBefore ({ header6 with date := ⟨2026, 3, 5⟩ } : Header).date header6.date = true ∧
    (withNext ⟨true, header6, [plan1403]⟩).tts.next = some ⟨true, header6, [plan1403]⟩ ∧ morning.tfe.pending = none ∧
    (withPending ⟨false, 32, ⟨2026, 3, 6⟩, [], none⟩).tfe.pending = some ⟨false, 32, ⟨2026, 3, 6⟩, [], none⟩ ∧
    dateBefore header6.date ⟨2026, 3, 7⟩ = true ∧ dateBefore header6.date ⟨2026, 3, 6⟩ = false := by decide

theorem witness_OutsideValuesRefused : Listens morning ∧
    (withNext ⟨false, header6, []⟩).tts.next = some ⟨false, header6, []⟩ ∧
    (withPending ⟨false, 32, ⟨2026, 3, 7⟩, [], none⟩).tfe.pending = some ⟨false, 32, ⟨2026, 3, 7⟩, [], none⟩ ∧
    (∃ l, some [Coded.other (α := Payment) 3] = some l ∧ .other 3 ∈ l) ∧
    (∃ x ∈ [NoticeField.mk 1 none (some (.other 2))], x.priority = some (.other 2)) := by
  refine ⟨⟨rfl, rfl⟩, rfl, rfl, ⟨_, rfl, ?_⟩, ?_⟩ <;> simp

theorem witness_TablesOpenCloseAndDrop : Listens morning ∧
    headerInRange ⟨2026, 3, 6⟩ (.named .weekday) 1440 960 1 = false ∧
    headerInRange ⟨2026, 3, 6⟩ (.named .sunday) 1439 1439 65535 = true ∧
    headerInRange ⟨2099, 12, 31⟩ (.named .saturday) 0 0 1 = true ∧ morning.tts.next = none ∧
    (withNext ⟨true, header6, [plan1403]⟩).tts.next = some ⟨true, header6, [plan1403]⟩ :=
  ⟨⟨rfl, rfl⟩, by decide⟩

theorem witness_TableAddPlacesTheRecord : Listens morning ∧ morning.tts.next = none ∧
    (withNext ⟨true, header6, []⟩).tts.next = some ⟨true, header6, []⟩ ∧
    serviceInRange 10000 (.named .up) 282 1 [12] = false ∧ serviceInRange 1404 (.named .up) 1440 1 [12] = false ∧
    serviceInRange 9999 (.named .down) 1439 3 [1, 63] = true ∧ serviceInRange 1 (.named .up) 0 1 [12, 12] = true ∧
    ¬[12, 12].Nodup ∧ [1, 63].Nodup ∧ (∃ p ∈ [plan1403], p.number = 1403) ∧ (∀ p ∈ [plan1403], p.number ≠ 9999) ∧
    96 ≤ (plans 96).length ∧ (∀ p ∈ plans 96, p.number ≠ 9999) ∧ (plans 95).length < 96 ∧
    (∀ p ∈ plans 95, p.number ≠ 9999) ∧ (plans 95).Pairwise (fun p q => p.minute ≤ q.minute) :=
  ⟨⟨rfl, rfl⟩, by decide⟩

theorem witness_PromotionMakesTheNextTableCurrent : Listens morning ∧ (atClock none).clock = none ∧
    morning.clock = some ⟨⟨2026, 3, 6⟩, 16205, 0, none⟩ ∧ morning.tts.next = none ∧
    (withNext ⟨false, header6, []⟩).tts.next = some ⟨false, header6, []⟩ ∧
    (withNext ⟨true, header6, [plan1403]⟩).tts.next = some ⟨true, header6, [plan1403]⟩ ∧
    ({ header6 with date := ⟨2026, 3, 7⟩ } : Header).date ≠ ⟨2026, 3, 6⟩ ∧ header6.date = ⟨2026, 3, 6⟩ ∧
    header6.version ≠ 2 ∧ header6.version = 1 :=
  ⟨⟨rfl, rfl⟩, by decide⟩

theorem witness_ServiceSettingsStored : Listens morning ∧ (∃ n, some 31 = some n ∧ 30 < n) ∧
    (∃ n, some 11 = some n ∧ 10 < n) ∧ (∀ n, some 30 = some n → n ≤ 30) ∧ (∀ n, some 10 = some n → n ≤ 10) ∧
    (∀ n, none = some n → n ≤ 30) := by
  refine ⟨⟨rfl, rfl⟩, ⟨31, rfl, by decide⟩, ⟨11, rfl, by decide⟩, ?_, ?_, ?_⟩ <;> (intro n h; cases h) <;> decide

/-- The first minute of the morning with service 1404 as given. -/
def with1404 (v : Service) : State := running1404 270 v

theorem witness_RunningMessagesJudged : Listens morning ∧ runningInRange 1404 97200 (.named .delay) 0 = false ∧
    runningInRange 1404 0 (.named .delay) 1000 = false ∧ runningInRange 1404 0 (.named .platform) 4 = false ∧
    runningInRange 1404 97199 (.named .delay) (-60) = true ∧ runningInRange 1404 0 (.named .delay) 999 = true ∧
    (atClock none).clock = none ∧ (running1404 260 (startService plan1404)).clock.isSome ∧
    currentService morning 9999 = none ∧
    (currentService (with1404 (late1404 .departed 25 18540 false)) 1404 = some (late1404 .departed 25 18540 false)) ∧
    (late1404 .departed 25 18540 false).status = .departed ∧ (late1404 .delayed 12 16260 false).status ≠ .departed ∧
    (∃ old, (late1404 .delayed 12 16260 false).stamp = some old ∧ 16259 < old) ∧
    (∀ old, (late1404 .delayed 12 16260 false).stamp = some old → old ≤ 16260) ∧
    (∀ old, (startService plan1404).stamp = some old → old ≤ 0) := by
  refine ⟨⟨rfl, rfl⟩, by decide, by decide, by decide, by decide, by decide, rfl, rfl, by decide, by decide, rfl, by decide,
    ⟨16260, rfl, by decide⟩, ?_, ?_⟩
  · intro n h; cases h; decide
  · intro n h; cases h

theorem witness_MessageKindsApply : (startService plan1404).status.isRunning = true ∧
    (late1404 .cancelled 12 16260 false).status = .cancelled ∧ (late1404 .lapsed 12 16260 false).status ≠ .cancelled ∧
    (late1404 .lapsed 12 16260 false).status.isRunning = false ∧
    (late1404 .delayed 15 17520 true).plan.minute + (late1404 .delayed 15 17520 true).delay + 5 ≤ 302 ∧
    301 < (late1404 .delayed 15 17520 true).plan.minute + (late1404 .delayed 15 17520 true).delay + 5 ∧
    (late1404 .lapsed 12 16260 false).status = .lapsed := by decide

/-- The morning with a quote bound to service 1404, and with a sale of it PRINTING. -/
theorem witness_ChangesHandedOn : Listens morning ∧ morning.clock = some ⟨⟨2026, 3, 6⟩, 16205, 0, none⟩ ∧
    runningInRange 1404 97199 (.named .cancel) 0 = true ∧ currentService morning 1404 = some (startService plan1404) ∧
    (startService plan1404).status ≠ .departed ∧ (∀ old, (startService plan1404).stamp = some old → old ≤ 97199) ∧
    (morning.bdc.profiles.get .p1).isPresent = true ∧ (morning.bdc.profiles.get .p1).kind = .departures ∧
    passes (morning.bdc.profiles.get .p1).filter plan1404.direction = true ∧
    passes .up plan1404.direction = false ∧ QueueOrdered morning ∧
    causeUrgent (startService plan1404) (late1404 .delayed 12 16260 false) .delay (morning.bdc.profiles.get .p1) = true ∧
    quoted.slc.slot = .quoted quote23 120000 ∧ quote23.bound.map (·.number) = some plan1404.number ∧
    quoted.hlk.notices.length = sourceCount ∧ slotState morning.slc.slot ≠ .quoted ∧ Listens printing ∧
    NumbersDistinct printing ∧ (atSales printing).slc.slot = .printing sale23 30000 ∧ 1 ≤ sale23.serial ∧
    sale23.serial ≤ 16777215 ∧ sale23.quote.bound = some ⟨1404, 282⟩ ∧
    printing.tts.current = some ⟨header6, [startService plan1403, startService plan1404]⟩ ∧ header6.date = sale23.date := by
  refine ⟨⟨rfl, rfl⟩, rfl, by decide, by decide, by decide, ?_, rfl, rfl, by decide, by decide, ?_, by decide, rfl, by decide, by decide,
    by decide, ⟨rfl, rfl⟩, numbers_of_morning, by decide, by decide, by decide, rfl, rfl, rfl⟩
  · intro n h; cases h
  · unfold QueueOrdered; decide

/-- A panel without a threshold of its own, ABSENT or of another kind, is classed ORDINARY (R47). -/
theorem test_delay_class_without_threshold :
    (let old := startService plan1404
     let new := late1404 .delayed 12 16260 false
     causeUrgent old new .delay ⟨false, .departures, 4, .all, 2⟩ = false ∧
       causeUrgent old new .delay ⟨true, .messages, 4, .all, 2⟩ = false) := by decide

/-- The automatic list at its boundary: three entries and four, the oldest of them first, with tickets sold or none. -/
theorem witness_ChangesHandedOn_auto : (late1404 .cancelled 0 1 false).sold = 2 ∧ (startService plan1404).sold = 0 ∧
    (let l : List AutoEntry := [⟨1, 300, 12, 1⟩, ⟨2, 301, 12, 2⟩, ⟨3, 302, 12, 3⟩, ⟨4, 303, 12, 4⟩]
     (∀ x ∈ l, x.service ≠ 1404) ∧ (l.take 3).length < 4 ∧ 4 ≤ l.length ∧ (∀ y ∈ l, 1 ≤ y.arrival)) ∧
    (∃ x ∈ [AutoEntry.mk 1404 282 31 1], x.service = plan1404.number) := by decide

/-- A sale PRINTING for a CANCELLED service, with a MESSAGES panel: the count rises, and the automatic entry is added; at
65,535 it stands (R49, R117). -/
theorem witness_ChangesHandedOn_sold :
    (let s := fun n : Nat => ({ printing with
      tts.current := some ⟨header6, [{ late1404 .cancelled 0 1 false with sold := n }]⟩
      bdc.profiles.p1.kind := .messages, bdc.credit := 0 } : State)
     Listens (s 0) ∧ (s 0).power = .on ∧ header6.date = sale23.date ∧ min 65535 (65533 + 2) ≠ 65533 ∧
       min 65535 (65535 + 2) = 65535 ∧ (after (.salePrinted 40117 (.named .printed)) (s 65533)).bdc.auto = [⟨1404, 282, 31, 1⟩] ∧
       (after .printTimerExpiry (s 0)).bdc.queue = [⟨.p1, true⟩] ∧ (after .printTimerExpiry (s 65535)).bdc.auto = []) :=
  ⟨⟨rfl, rfl⟩, by decide⟩

theorem witness_TariffOpensAndLoads : Listens morning ∧ ¬(1 ≤ 0 ∧ 0 ≤ 65535 ∧ inSpan ⟨2026, 3, 7⟩ = true) ∧
    ¬(1 ≤ 65536 ∧ 65536 ≤ 65535 ∧ inSpan ⟨2026, 3, 7⟩ = true) ∧ ¬(1 ≤ 1 ∧ 1 ≤ 65535 ∧ inSpan ⟨2100, 1, 1⟩ = true) ∧
    (1 ≤ 65535 ∧ 65535 ≤ 65535 ∧ inSpan ⟨2099, 12, 31⟩ = true) ∧ morning.tfe.pending = none ∧
    (withPending ⟨true, 32, ⟨2026, 3, 7⟩, [], none⟩).tfe.pending = some ⟨true, 32, ⟨2026, 3, 7⟩, [], none⟩ ∧
    (withPending ⟨false, 32, ⟨2026, 3, 7⟩, [], none⟩).tfe.pending = some ⟨false, 32, ⟨2026, 3, 7⟩, [], none⟩ ∧
    stationInRange 64 "S".toList 1 (.named .up) = false ∧ stationInRange 63 "S".toList 4000 (.named .up) = true ∧
    stationInRange 1 "S".toList 4001 (.named .up) = false ∧ (∃ x ∈ someStations 1, x.code = 1) ∧
    (∀ x ∈ someStations 48, x.code ≠ 63) ∧ 48 ≤ (someStations 48).length ∧ (∀ x ∈ someStations 47, x.code ≠ 63) ∧
    (someStations 47).length < 48 ∧ rulesRefusal { rules31 with cMax := 9995 } = some .step ∧
    rulesRefusal rules31 = none :=
  ⟨⟨rfl, rfl⟩, by decide⟩

/-- The rules of Table 4-9 with what each check of Table 4-6 refuses: the other hypotheses hold of `rules31`. -/
theorem witness_TariffOpensAndLoads_rules : [{ rules31 with bands := [] }, { rules31 with bands := [(50, 1), (50, 1), (4000, 1)] },
      { rules31 with bands := [(3999, 1)] }, { rules31 with fMin := 4501 }, { rules31 with cMax := 9995 },
      { rules31 with cMax := 140 }, { rules31 with windows := [(360, 360)] }, rules31].map rulesRefusal =
    [some .field, some .bands, some .bands, some .floor, some .step, some .ceiling, some .window, none] ∧
    rules31.fMin ≤ rules31.fMax ∧ rules31.cMax % rules31.step = 0 ∧ rules31.fMin ≤ rules31.cMax ∧
    (rules31.bands.map (·.1)).Pairwise (· < ·) ∧ rules31.bands.getLast?.map (·.1) = some 4000 ∧
    (∀ w ∈ rules31.windows, w.1 < w.2) ∧ rulesInRange rules31 = true := by decide

/-- A pending tariff complete but for what is taken away. -/
def pending32 (stations : List Station) (rules : Option Rules) : PendingTariff := ⟨false, 32, ⟨2026, 3, 6⟩, stations, rules⟩

theorem witness_TariffClosesAndActivates : Listens morning ∧ morning.tfe.pending = none ∧
    (withPending (pending32 [] none)).tfe.pending = some (pending32 [] none) ∧ (pending32 [] none).stations = [] ∧
    (pending32 (someStations 1) none).stations ≠ [] ∧ (pending32 (someStations 1) none).rules = none ∧
    (pending32 (someStations 1) (some rules31)).rules = some rules31 ∧
    (∀ c, (atClock (some ⟨⟨2026, 3, 5⟩, 86399, 0, none⟩)).clock = some c → dateBefore c.date ⟨2026, 3, 6⟩ = true) ∧
    (∀ c, (atClock none).clock = some c → dateBefore c.date ⟨2026, 3, 6⟩ = true) ∧
    dateBefore (⟨2026, 3, 6⟩ : Date) (pending32 (someStations 1) (some rules31)).effective = false := by
  refine ⟨⟨rfl, rfl⟩, rfl, rfl, rfl, by decide, rfl, rfl, ?_, ?_, by decide⟩
  · intro c h; cases h; decide
  · intro c h; cases h

theorem witness_FareOnTheStepUnderTheCeiling : rulesRefusal rules31 = none ∧ 9 ≤ 9 ∧
    (fareStages rules31 1 .single ⟨100, false⟩ 9 0).fare = 0 ∧ ticketInPeak morning rules31 210 = true ∧
    ticketInPeak morning rules31 360 = false := by decide

/-- The 07:33 morning with a service that has lapsed. -/
def withLapsed : State :=
  { morning with tts.current := some ⟨header6, [late1404 .lapsed 0 1 false]⟩ }

/-- The fare of the quote for station 23 (Section 4.8.1): in peak, class 1 not exempt. -/
theorem test_quote_in_peak : ticketInPeak (atSales morning) rules31 282 = true ∧ (fare31 237 .ret 30 2 20).fare = quote23.fare ∧
    (fare31 237 .ret 30 2 20).total = quote23.total := by decide

theorem witness_QuotesWhileOpenOnly : Listens morning ∧
    quoteInRange 64 (.named .ret) 7 9 (.named .next) none = false ∧
    quoteInRange 63 (.named .ret) 7 9 (.named .next) none = true ∧
    quoteInRange 1 (.named .single) 0 1 (.named .number) (some 9999) = true ∧
    salesOpen (atSales { morning with slc.hostClosed := true }) = false ∧ salesOpen (atSales morning) = true ∧
    salesOpen (atSales printing) = true ∧ slotState (atSales printing).slc.slot = .printing ∧
    slotState (atSales quoted).slc.slot ≠ .printing ∧ salesOpen (atSales quoted) = true ∧
    (({ morning with slc.types.ret := false } : State).slc.types.get .ret = false ∧
      salesOpen (atSales { morning with slc.types.ret := false }) = true) ∧
    morning.slc.types.get .ret = true ∧
    (ServiceSel.openTicket ≠ .openTicket ↔ (TicketType.ret = .openSingle ∨ TicketType.ret = .openReturn)) ∧
    (ServiceSel.next ≠ .openTicket ↔ (TicketType.openSingle = .openSingle ∨ TicketType.openSingle = .openReturn)) ∧
    morning.tfe.active = some tariff31 ∧ morning.clock = some ⟨⟨2026, 3, 6⟩, 16205, 0, none⟩ ∧
    (ServiceSel.openTicket = .openTicket ↔ (TicketType.openReturn = .openSingle ∨ TicketType.openReturn = .openReturn)) ∧
    (ServiceSel.next = .openTicket ↔ (TicketType.ret = .openSingle ∨ TicketType.ret = .openReturn)) ∧
    (∀ x ∈ tariff31.stations, x.code ≠ 63) ∧ (∃ x ∈ tariff31.stations, x.code = 23) ∧
    tariff31.stations.find? (fun y => y.code == 23) = some ⟨23, "Stanmoor".toList, 237, .down⟩ ∧
    rules31.classes[7 - 1]? = some none ∧ rules31.classes[1 - 1]? = some (some ⟨30, false⟩) ∧ nextService 23 (atSales withLapsed) = none ∧ salesOpen (atSales withLapsed) = true ∧
    namedService 9999 23 (atSales morning) = .unknown ∧ namedService 1404 23 (atSales withLapsed) = .noneLeft ∧
    nextService 23 (atSales morning) = some (startService plan1404) ∧
    namedService 1404 23 (atSales morning) = .found (startService plan1404) :=
  ⟨⟨rfl, rfl⟩, by decide⟩

theorem witness_CommitReservesAndPrints : Listens quoted ∧
    ¬((List.replicate 17 'a').length ≤ 16 ∧ ∀ c ∈ List.replicate 17 'a', 0x20 ≤ c.toNat ∧ c.toNat ≤ 0x7E) ∧
    (∀ t, some (List.replicate 16 '~') = some t → t.length ≤ 16 ∧ ∀ c ∈ t, 0x20 ≤ c.toNat ∧ c.toNat ≤ 0x7E) ∧
    slotState (atSales morning).slc.slot ≠ .quoted ∧ (atSales quoted).slc.slot = .quoted quote23 120000 ∧
    ({ quoted with slc.kinds.card := false } : State).slc.kinds.get .card = false ∧
    (atSales { quoted with slc.kinds.card := false }).slc.slot = .quoted quote23 120000 ∧
    quoted.slc.kinds.get .card = true ∧ freeCount quoted ≠ 0 ∧ quoted.clock = some ⟨⟨2026, 3, 6⟩, 16205, 0, none⟩ ∧
    (let shut : State := { quoted with slc.hostClosed := true }
     salesOpen (atSales shut) = false ∧ (atSales shut).slc.slot = .quoted quote23 120000) ∧
    salesOpen (atSales quoted) = true ∧ quoted.sjn.reserved = false ∧ quoted.hlk.notices.length = sourceCount ∧
    ∀ b, quote23.bound = some b →
      ∃ v, namedService b.number quote23.dest (atSales quoted) = .found v ∧ v.plan.minute = b.minute := by
  refine ⟨⟨rfl, rfl⟩, by decide, ?_, by decide, by decide, by decide, by decide, by decide, by decide, by decide, by decide,
    by decide, rfl, by decide, ?_⟩
  · intro t h; cases h
    refine ⟨by decide, fun c hc => ?_⟩
    rw [(List.mem_replicate.1 hc).2]; decide
  · intro b h; cases h; exact ⟨startService plan1404, by decide, rfl⟩

/-- A quote whose service has gone (R81, check 7). -/
theorem witness_CommitReservesAndPrints_gone :
    (atSales { withLapsed with slc := quoted.slc }).slc.slot = .quoted quote23 120000 ∧
    salesOpen (atSales { withLapsed with slc := quoted.slc }) = true ∧
    quote23.bound = some ⟨1404, 282⟩ ∧
    namedService 1404 quote23.dest (atSales { withLapsed with slc := quoted.slc }) = .noneLeft := by decide

/-- A commit that brings the free count to an armed JOURNAL-LOW's level (Section 6.10.3), and to 0 (R100). -/
theorem witness_CommitReservesAndPrints_thresholds (s t : State)
    (hs : s = { quoted with sjn.records := List.replicate 1966 (recordAt 1 .issued .card 10), sjn.low := 81 })
    (ht : t = { quoted with sjn.records := List.replicate 2047 (recordAt 1 .issued .card 10) }) :
    freeCount s - 1 = 81 ∧ s.sjn.lowArmed = true ∧ freeCount t - 1 = 0 ∧ t.sjn.fullArmed = true ∧ freeCount t ≠ 0 := by
  subst hs ht; simp [freeCount, quoted, journalCapacity, morning, State.reset]

/-- A full journal beside a quote: 2048 places taken (R81, check 6). -/
theorem witness_CommitReservesAndPrints_full (s : State)
    (h : s = { quoted with sjn.records := List.replicate 2048 (recordAt 1 .issued .card 10) }) :
    freeCount s = 0 ∧ s.slc.kinds.get .card = true ∧ s.sjn.fullArmed = true := by
  subst h; simp [freeCount, quoted, journalCapacity, PerPayment.get, morning, State.reset]

theorem witness_PrintResultsConcludeOrAreLate : Listens printing ∧
    (atSales printing).slc.slot = .printing sale23 30000 ∧ sale23.serial = 40117 ∧ 1 ≤ 40117 ∧ 40117 ≤ 16777215 ∧
    (∀ x left, (atSales morning).slc.slot = .printing x left → x.serial ≠ 40116) ∧ morning.sjn.next ≤ 40117 ∧
    morning.sjn.next ≤ 16777215 ∧ 40116 < morning.sjn.next ∧ 1 < morning.sjn.next ∧
    (∀ r ∈ morning.sjn.records, r.serial ≠ 40116) ∧ 40116 ≤ morning.sjn.released ∧
    evening.sjn.records.any (fun r => decide (r.serial < evening.sjn.next)) = true ∧ 16777215 < 16777216 := by
  refine ⟨⟨rfl, rfl⟩, by decide, rfl, by decide, by decide, ?_, by decide, by decide, by decide, by decide, by decide,
    by decide, by decide, by decide⟩
  intro x left h
  have hi : slotState (atSales morning).slc.slot = .idle := by decide
  rw [h] at hi; cases hi

/-- A clock on the sale's date, on the next one at the last completion time and beyond it, two dates on, and a date before
(R86). -/
theorem witness_PrintResultsConcludeOrAreLate_completion :
    (let at' := fun day tod => (atClock (some ⟨⟨2026, 3, day⟩, tod, 0, none⟩))
     let time := fun day tod => completionTime ⟨2026, 3, 6⟩ (at' day tod)
     time 6 86399 = some 86399 ∧ nextDate ⟨2026, 3, 6⟩ = ⟨2026, 3, 7⟩ ∧ time 7 10799 = some 97199 ∧ time 7 10800 = none ∧
       dateBefore (nextDate ⟨2026, 3, 6⟩) ⟨2026, 3, 8⟩ = true ∧ time 8 0 = none ∧
       dateBefore ⟨2026, 3, 5⟩ ⟨2026, 3, 6⟩ = true ∧ completionTime ⟨2026, 3, 6⟩ (atClock none) = none) := by decide

theorem witness_CancelStatusAndSettings : Listens morning ∧ slotState (atSales printing).slc.slot = .printing ∧
    slotState (atSales quoted).slc.slot = .quoted ∧ slotState (atSales morning).slc.slot = .idle :=
  ⟨⟨rfl, rfl⟩, by decide⟩

theorem witness_HostClosesAndOpensSales : Listens quoted ∧ slotState (atOwner quoted).slc.slot = .quoted ∧
    slotState (atOwner printing).slc.slot ≠ .quoted ∧ QueueOrdered (atOwner quoted) ∧
    firstReason { atOwner quoted with slc.hostClosed := true } ≠ (atOwner quoted).bdc.sales ∧
    firstReason { atOwner quoted with slc.hostClosed := false } = (atOwner quoted).bdc.sales :=
  ⟨⟨rfl, rfl⟩, by decide, by decide, ⟨by decide, .nil⟩, by decide, by decide⟩

/-- The first reason with HOST and SERIALS, and with TARIFF before both (Table 5-5). -/
theorem test_reasons_in_order : salesReasons { morning with sjn.next := 16777216, slc.hostClosed := true } = [.host, .serials] ∧
    salesReasons { morning with sjn.next := 16777215, slc.hostClosed := true, tfe.active := none } = [.tariff, .host] := by
  decide

theorem witness_SaleTimersExpire : quoted.power = .on ∧ quoted.hlk.notices.length = sourceCount ∧
    quoted.slc.slot = .quoted quote23 120000 ∧ slotState morning.slc.slot ≠ .quoted ∧
    printing.slc.slot = .printing sale23 30000 ∧ slotState quoted.slc.slot ≠ .printing := by decide

theorem witness_JournalReadHandsOut : Listens evening ∧ ¬(1 ≤ 0 ∧ 0 ≤ 16777215 ∧ 1 ≤ 1 ∧ 1 ≤ 8) ∧
    ¬(1 ≤ 1 ∧ 1 ≤ 16777215 ∧ 1 ≤ 9 ∧ 9 ≤ 8) ∧ (1 ≤ 16777215 ∧ 16777215 ≤ 16777215 ∧ 1 ≤ 8 ∧ 8 ≤ 8) ∧
    evening.sjn.records.filter (fun r => decide (38140 ≤ r.serial)) ≠ [] ∧
    evening.sjn.records.filter (fun r => decide (38141 ≤ r.serial)) = [] :=
  ⟨⟨rfl, rfl⟩, by decide⟩

theorem witness_JournalReleasesAndThresholds : Listens evening ∧ 16777215 < 16777216 ∧ 16777215 ≤ 16777215 ∧
    38136 ≤ evening.sjn.released ∧ evening.sjn.released < 38137 ∧
    evening.sjn.records.filter (fun r => decide (r.serial ≤ 38137)) = [] ++ recordAt 38137 .issued .cash 480 :: [] ∧
    (recordAt 38137 .issued .cash 480).handed = false ∧ Listens handedOut ∧ handedOut.sjn.released < 38140 ∧
    (∀ r ∈ handedOut.sjn.records.filter (fun r => decide (r.serial ≤ 38140)), r.handed = true) ∧
    newestSerial handedOut = some 38140 ∧ (∃ m, newestSerial handedOut = some m ∧ 38140 ≤ m) ∧
    (∀ m, newestSerial handedOut = some m → m < 38141) ∧ evening.hlk.notices.length = sourceCount ∧ 512 < 513 ∧
    512 ≤ 512 ∧ evening.sjn.lowArmed = true ∧ freeCount evening = 2044 := by
  refine ⟨⟨rfl, rfl⟩, by decide, by decide, by decide, by decide, by decide, rfl, ⟨by decide, by decide⟩, by decide, by decide, by decide,
    ⟨38140, by decide, by decide⟩, ?_, by decide, by decide, by decide, rfl, by decide⟩
  intro m h
  have hn : newestSerial handedOut = some 38140 := by decide
  rw [hn] at h; cases h; decide

/-- A journal with room for few records, at the threshold that raises JOURNAL-LOW (R101). -/
theorem witness_JournalReleasesAndThresholds_low (s : State)
    (h : s = { morning with sjn.records := List.replicate 1536 (recordAt 1 .issued .card 10) }) :
    freeCount s ≤ 512 ∧ s.sjn.lowArmed = true := by
  subst h; simp [freeCount, journalCapacity, morning, State.reset]

/-- A transaction in flight on panel 1. -/
def inFlight (w : Work) (ph : LinePhase) (discarded : Bool) (p : PanelRecord) : State :=
  { morning with plc.panels.p1 := p, plc.line := some ⟨.p1, w, ph, discarded⟩ }

theorem witness_PanelProfileStored : Listens morning ∧ panelOf 0 = none ∧ panelOf 5 = none ∧ panelOf 1 = some .p1 ∧
    panelOf 4 = some .p4 ∧ (∃ m, some 11 = some m ∧ 10 < m) ∧ (∀ m, some 10 = some m → m ≤ 10) ∧
    (morning.bdc.profiles.get .p1).isPresent = true ∧ (morning.bdc.profiles.get .p4).isPresent = false ∧
    Profile.mk true .messages 8 .up 10 ≠ morning.bdc.profiles.get .p1 ∧
    (∀ t, (atOwner morning).plc.line = some t → t.panel ≠ .p1) ∧
    (∃ t, (atOwner (inFlight .probe (.probing 500) false (readyPanel 10))).plc.line = some t ∧ t.panel = .p1 ∧
      t.phase.awaits = true) ∧
    (∃ t, (atOwner (inFlight .probe .settle false (readyPanel 10))).plc.line = some t ∧ t.panel = .p1 ∧
      t.phase.awaits = false) := by
  refine ⟨⟨rfl, rfl⟩, rfl, rfl, rfl, rfl, ⟨11, rfl, by decide⟩, ?_, rfl, rfl, by decide, ?_, ⟨⟨.p1, .probe, .probing 500, false⟩, by decide, rfl, rfl⟩,
    ⟨⟨.p1, .probe, .settle, false⟩, by decide, rfl, rfl⟩⟩
  · intro n h; cases h; decide
  · have hn : (atOwner morning).plc.line = none := by decide
    intro t h; rw [hn] at h; cases h

/-- A host list. -/
def hostEntry (id : Nat) (p : MsgPriority) : HostEntry := ⟨id, p, ["Line".toList], none, id⟩
def withHost (l : List HostEntry) : State := { morning with bdc.host := l, bdc.arrivals := 8 }
def urgentEight : List HostEntry := (List.range 8).map fun i => hostEntry (i + 1) .urgent
def mixedEight : List HostEntry := urgentEight.take 6 ++ [hostEntry 7 .normal, hostEntry 8 .normal]

theorem witness_HostMessagesPlaced : Listens morning ∧
    messageInRange 256 (.named .normal) ["a".toList] none = false ∧
    messageInRange 255 (.named .urgent) (List.replicate 4 (List.replicate 24 'a')) (some 1439) = true ∧
    ¬(∀ m now, some 270 = some m → nowMinute morning = some now → now < m) ∧
    (∀ m now, some 271 = some m → nowMinute morning = some now → now < m) ∧
    (∀ m now, none = some m → nowMinute morning = some now → now < m) ∧ (∃ x ∈ urgentEight, x.id = 8) ∧
    (∀ x ∈ urgentEight, x.id ≠ 9) ∧ (urgentEight.take 7).length < 8 ∧ (∀ x ∈ urgentEight.take 7, x.id ≠ 8) ∧
    8 ≤ urgentEight.length ∧ (∀ x ∈ urgentEight, x.priority = .urgent) ∧ hostEntry 7 .normal ∈ mixedEight ∧
    (∀ x ∈ mixedEight, x.id ≠ 9) ∧ 8 ≤ mixedEight.length ∧ (hostEntry 7 .normal).priority = .normal ∧
    (∀ x ∈ mixedEight, x ≠ hostEntry 7 .normal → x.arrival ≠ (hostEntry 7 .normal).arrival) ∧
    (∀ x ∈ mixedEight, x.priority = .normal → (hostEntry 7 .normal).arrival ≤ x.arrival) ∧
    (withHost mixedEight).bdc.host = mixedEight ∧ ¬(1 ≤ 0 ∧ 0 ≤ 255) ∧ ¬(1 ≤ 256 ∧ 256 ≤ 255) ∧ (1 ≤ 255 ∧ 255 ≤ 255) := by
  refine ⟨⟨rfl, rfl⟩, by decide, by decide, ?_, ?_, ?_, by decide, by decide, by decide, by decide, by decide, by decide, by decide,
    by decide, by decide, rfl, by decide, by decide, rfl, by decide, by decide, by decide⟩
  · intro h; exact absurd (h 270 270 rfl (by decide)) (by decide)
  · intro m now h1 h2
    have hn : nowMinute morning = some 270 := by decide
    cases h1; rw [hn] at h2; cases h2; decide
  · intro m now h; cases h

/-- The morning with a refresh queue. -/
def withQueue (q : List QueueEntry) : State := { morning with bdc.queue := q, bdc.credit := 0, awu.urgent := q.any (·.urgent) }

theorem witness_RefreshRequestsQueue : Listens morning ∧ panelOf 0 = none ∧ panelOf 5 = none ∧ panelOf 1 = some .p1 ∧
    panelOf 2 = some .p2 ∧ (morning.bdc.profiles.get .p1).isPresent = true ∧
    (morning.bdc.profiles.get .p2).isPresent = false ∧ QueueOrdered (atOwner (withQueue [⟨.p3, true⟩, ⟨.p1, false⟩])) ∧
    placedEntry .p1 true [⟨.p3, true⟩, ⟨.p2, false⟩, ⟨.p1, false⟩] = [⟨.p3, true⟩, ⟨.p1, true⟩, ⟨.p2, false⟩] := by
  refine ⟨⟨rfl, rfl⟩, rfl, rfl, rfl, rfl, rfl, rfl, ?_, by decide⟩
  unfold QueueOrdered; decide

/-- Two messages on a panel, the position on the first or the last. -/
def rotating (position : Option Nat) : State :=
  { morning with
    bdc.host := [hostEntry 1 .normal, hostEntry 2 .normal], bdc.arrivals := 2, bdc.position := position
    bdc.rotation := some 300000, bdc.profiles.p1.kind := .messages, bdc.accrual := some 120000, bdc.credit := 6 }

theorem witness_PagesOrdersAndTheLamp : (atClock none).clock = none ∧
    ({ morning with tts.current := none } : State).tts.current = none ∧
    morning.clock = some ⟨⟨2026, 3, 6⟩, 16205, 0, none⟩ ∧
    morning.tts.current = some ⟨header6, [startService plan1403, startService plan1404]⟩ ∧
    displayOrder morning = [startService plan1403] ++ startService plan1404 :: [] ∧
    ¬(23 ∈ (startService plan1403).plan.calls) ∧ 23 ∈ (startService plan1404).plan.calls ∧
    16205 / 60 + morning.tts.margin ≤ (startService plan1404).plan.minute + (startService plan1404).delay ∧
    currentService morning 9999 = none ∧ (morning.bdc.profiles.get .p1).kind = .departures ∧
    pageServices { morning.bdc.profiles.p1 with filter := .up, rows := 1 } withLapsed = [] ∧
    (Profile.mk true .messages 4 .all 2).kind = .messages ∧ displayable morning = [] ∧
    displayable (rotating (some 1)) = [.host (hostEntry 2 .normal)] ++ .host (hostEntry 1 .normal) :: [] ∧
    (rotating (some 1)).bdc.position = some (hostEntry 1 .normal).arrival ∧
    (∀ x ∈ [Message.host (hostEntry 2 .normal)], x.arrival ≠ (hostEntry 1 .normal).arrival) ∧
    (Profile.mk true .sales 4 .all 2).kind = .sales ∧ morning.bdc.sales = none ∧ State.reset.bdc.sales = some .clock ∧
    (atClock (some ⟨⟨2026, 3, 6⟩, 57599, 0, none⟩)).clock = some ⟨⟨2026, 3, 6⟩, 57599, 0, none⟩ ∧ 57599 < 86399 ∧
    (57599 + 1) % 60 = 0 ∧ header6.darkFrom ≤ (57599 + 1) / 60 ∧ morning.enm.present ≠ .ela ∧
    (atLevel .ela morning).enm.present = .ela := by decide

theorem witness_BoardTimersAndServing_timers : (rotating (some 1)).power = .on ∧ (rotating (some 1)).bdc.accrual = some 120000 ∧
    (atLevel .el5 { morning with bdc.accrual := none }).bdc.accrual = none ∧
    (rotating (some 1)).bdc.rotation = some 300000 ∧
    displayable (rotating (some 2)) = [] ++ .host (hostEntry 2 .normal) :: .host (hostEntry 1 .normal) :: [] ∧
    (rotating (some 2)).bdc.position = some (Message.host (hostEntry 2 .normal)).arrival ∧
    displayable (rotating (some 1)) = [.host (hostEntry 2 .normal)] ++ [.host (hostEntry 1 .normal)] ∧
    (rotating (some 1)).bdc.position = some (Message.host (hostEntry 1 .normal)).arrival ∧
    (∀ x ∈ [Message.host (hostEntry 2 .normal)], x.arrival ≠ (Message.host (hostEntry 1 .normal)).arrival) ∧
    (rotating none).bdc.position = none ∧ ((rotating none).bdc.profiles.get .p1).isPresent = true ∧
    ((rotating none).bdc.profiles.get .p1).kind = .messages ∧ morning.bdc.rotation = none := by decide

/-- One entry for panel 1, a credit, and a glass with a page at a temperature. -/
def serving (page : Option Page) (t : Int) : State :=
  { morning with bdc.queue := [⟨.p1, false⟩], bdc.credit := 1, plc.panels.p1 := { readyPanel t with page := page } }

/-- A glass below −15 °C and a rail at rest, settling or in mode OFF beside a servable entry. -/
def servingOn (r : Rail) (m : RailMode) : State := { serving none 10 with plc.rail := r, plc.mode := m }

theorem witness_BoardTimersAndServing : (serving none (-15)).power = .on ∧
    (serving none (-15)).bdc.queue = [] ++ ⟨.p1, false⟩ :: [] ∧
    (panelAt (serving none (-15)) .p1).link = .ready ∧ (serving none (-15)).enm.transition = .none ∧
    (serving none (-15)).enm.present = .el1 ∧ 1 ≤ (serving none (-15)).bdc.credit ∧ (serving none (-15)).plc.line = none ∧
    (∀ a ∈ [Addr.p1, .p2, .p3, .p4], (panelAt (serving none (-15)) a).probeDue = false) ∧
    (panelAt (serving none (-15)) .p1).page ≠ some (composePage (morning.bdc.profiles.get .p1) (serving none (-15))) ∧
    (panelAt (serving none (-15)) .p1).temperature = some (-15) ∧ (-15 : Int) ≤ -15 ∧
    (panelAt (serving none (-16)) .p1).temperature = some (-16) ∧ (-16 : Int) < -15 ∧
    (panelAt (serving none (-16)) .p1).page ≠ some (composePage (morning.bdc.profiles.get .p1) (serving none (-16))) ∧
    (let page := composePage (morning.bdc.profiles.get .p1) (serving none 10)
     (panelAt (serving (some page) 10) .p1).page =
       some (composePage ((serving (some page) 10).bdc.profiles.get .p1) (serving (some page) 10))) ∧
    (serving none 10).plc.rail = .on ∧ (serving none 10).plc.mode ≠ .off ∧ (servingOn .off .gated).plc.rail = .off ∧
    (servingOn .off .gated).plc.mode ≠ .off ∧ (servingOn (.settling 250) .gated).plc.rail = .settling 250 ∧
    (servingOn .on .off).plc.mode = .off ∧ morning.bdc.queue = [] ∧
    ({ morning with bdc.credit := 0 } : State).bdc.credit = 0 ∧
    (inFlight .probe .settle false (readyPanel 10)).plc.line.isSome ∧
    ({ morning with plc.panels.p1.probeDue := true } : State).plc.mode ≠ .off ∧
    (panelAt { morning with plc.panels.p1.probeDue := true } .p1).probeDue = true := by decide

/-- An ordinary entry before an urgent one during a lowering to EL4, and at EL5 in a brief episode: the urgent one is the
first that the serving level permits. -/
theorem witness_BoardTimersAndServing_levels :
    (let s := { withQueue [⟨.p1, true⟩] with bdc.credit := 1, enm.transition := .lowering .el4 }
     s.bdc.queue = [] ++ ⟨.p1, true⟩ :: [] ∧ (panelAt s .p1).link = .ready ∧ s.enm.transition = .lowering .el4) ∧
    (let s := { atLevel .el5 (withQueue [⟨.p1, true⟩]) with bdc.credit := 1, awu.brief := true }
     s.bdc.queue = [] ++ ⟨.p1, true⟩ :: [] ∧ s.enm.present = .el5 ∧ s.enm.transition = .none ∧
       (panelAt s .p1).link = .ready) := by decide

theorem witness_PanelResetMakesUnknown : Listens morning ∧ panelOf 0 = none ∧ panelOf 5 = none ∧
    panelOf 1 = some .p1 ∧ panelOf 2 = some .p2 ∧ (panelAt (atOwner morning) .p2).link = .absent ∧
    (panelAt (atOwner morning) .p1).link ≠ .absent ∧
    (∃ t, (atOwner (inFlight .probe .settle false (readyPanel 10))).plc.line = some t ∧ t.panel = .p1) ∧
    (panelAt (atOwner (inFlight .probe .settle false (readyPanel 10))) .p1).link ≠ .absent ∧
    (atOwner morning).plc.line = none := by
  refine ⟨⟨rfl, rfl⟩, rfl, rfl, rfl, rfl, by decide, by decide, ⟨⟨.p1, .probe, .settle, false⟩, by decide, rfl⟩, by decide, by decide⟩

/-- Panel 1 waits for a probe, with the rail in a state. -/
def probing (r : Rail) : State :=
  { morning with plc.panels.p1.probeDue := true, plc.panels.p1.link := .unknown, plc.rail := r, plc.mode := .gated }

theorem witness_ProbesAndTheirStates : (probing .on).power = .on ∧ (probing .on).plc.line = none ∧
    (probing .off).plc.mode ≠ .off ∧ (panelAt (probing .on) .p1).probeDue = true ∧
    (∀ b, b ∈ allPanels.takeWhile (fun x => decide (x ≠ Addr.p1)) → (panelAt (probing .on) b).probeDue = false) ∧
    (probing (.settling 250)).plc.rail = .settling 250 ∧ (probing .on).plc.rail = .on ∧ (probing .off).plc.rail = .off ∧
    (inFlight .probe .settle false (readyPanel 10)).plc.line.isSome ∧
    (atLevel .el5 morning).plc.mode = .off := by decide

theorem witness_ProbesAndTheirStates_none : ∀ a, (panelAt morning a).probeDue = false := by
  intro a; cases a <;> rfl

theorem witness_SilencesTakeAPanelOffline :
    (inFlight .probe (.probing 500) true absentPanel).plc.line = some ⟨.p1, .probe, .probing 500, true⟩ ∧
    (LinePhase.probing 500).awaits = true ∧ (inFlight .probe (.probing 500) true absentPanel).power = .on ∧
    (inFlight .probe (.probing 500) false { readyPanel 10 with silences := 2 }).plc.line =
      some ⟨.p1, .probe, .probing 500, false⟩ ∧
    Addr.p2 ≠ .p1 ∧ (LinePhase.probing 500).allows .taken = false ∧ LinePhase.load.allows (.state true false 0) = false ∧
    2 ≤ (panelAt (inFlight .probe (.probing 500) false { readyPanel 10 with silences := 2 }) .p1).silences ∧
    (panelAt (inFlight .probe (.probing 500) false { readyPanel 10 with silences := 2 }) .p1).link ≠ .offline ∧
    (panelAt (inFlight .probe (.probing 500) false { readyPanel 10 with silences := 1 }) .p1).silences < 2 ∧
    (panelAt (inFlight .probe (.probing 500) false { readyPanel 10 with silences := 3, link := .offline }) .p1).link =
      .offline ∧
    (inFlight (.refresh ⟨page1, some true, false, 0, 0⟩) .load false (readyPanel 10)).plc.line =
      some ⟨.p1, .refresh ⟨page1, some true, false, 0, 0⟩, .load, false⟩ ∧
    (inFlight (.refresh ⟨page1, some true, true, 2, 8⟩) (.probing 500) false (readyPanel 10)).plc.line =
      some ⟨.p1, .refresh ⟨page1, some true, true, 2, 8⟩, .probing 500, false⟩ ∧ 8 ≤ 4 * 2 ∧ 4 * 2 < 9 := by decide

/-- A refresh of panel 1 with toggle 1. -/
def refresh1 : Refresh := ⟨page1, some true, false, 0, 0⟩

theorem witness_TakenLeadsToDrawingToTheToggle : morning.power = .on ∧
    (panelAt (inFlight (.refresh refresh1) .load false (readyPanel 15)) .p1).temperature = some 15 ∧
    (inFlight (.refresh refresh1) .load false (readyPanel 14)).plc.line = some ⟨.p1, .refresh refresh1, .load, false⟩ ∧
    (inFlight (.refresh refresh1) .show false (readyPanel (-6))).plc.line = some ⟨.p1, .refresh refresh1, .show, false⟩ ∧
    (inFlight (.refresh refresh1) (.probing 500) false { readyPanel (-5) with link := .refreshing }).plc.line =
      some ⟨.p1, .refresh refresh1, .probing 500, false⟩ ∧
    (panelAt (inFlight (.refresh refresh1) .show false (readyPanel (-16))) .p1).temperature = some (-16) ∧
    (panelAt (inFlight (.refresh refresh1) .show false { readyPanel 0 with temperature := none }) .p1).temperature = none ∧
    ({ refresh1 with duration := 2, probes := 8 } : Refresh).probes ≤ 4 * 2 ∧
    4 * 2 < ({ refresh1 with duration := 2, probes := 9 } : Refresh).probes ∧
    refresh1.toggle = some true ∧ refresh1.toggle ≠ some false := by decide

theorem witness_ProbesAndTheirStates_answers : morning.power = .on ∧
    (inFlight .probe (.probing 500) false (unknownPanel none)).plc.line = some ⟨.p1, .probe, .probing 500, false⟩ ∧
    (panelAt (inFlight .probe (.probing 500) false (unknownPanel none)) .p1).link = .unknown ∧
    (panelAt (inFlight .probe (.probing 500) false { readyPanel 10 with link := .offline }) .p1).link = .offline ∧
    (panelAt (inFlight .probe (.probing 500) false { readyPanel (-20) with link := .cold }) .p1).link = .cold ∧
    (-40 : Int) ≤ -40 ∧ (85 : Int) ≤ 85 ∧ (-15 : Int) ≤ -15 ∧ (-16 : Int) < -15 ∧ (-13 : Int) ≤ -13 ∧ (-14 : Int) < -13 := by
  decide

/-- The coldest panel at the bounds of R142: −6 sets the flag, −2 clears it, −5 and −3 keep it. -/
theorem witness_ProbesAndTheirStates_cold :
    (let at' := fun t : Int => { morning with plc.panels.p1 := readyPanel t }
     ((panelAt (at' (-6)) .p1).link = .ready ∧ (panelAt (at' (-6)) .p1).temperature = some (-6) ∧ (-6 : Int) < -5) ∧
     ((panelAt (at' (-2)) .p1).temperature = some (-2) ∧ (-2 : Int) ≤ -2) ∧
     ((panelAt (at' (-5)) .p1).temperature = some (-5) ∧ (-5 : Int) ≤ -5 ∧ (-5 : Int) < -2) ∧
     urgentWaiting (at' (-6)) = (at' (-6)).awu.urgent ∧ coldNow (at' (-6)) ≠ (at' (-6)).plc.cold ∧
     coldNow (at' (-6)) = true ∧ (at' (-6)).enm.coldLimit = none ∧ coldNow (at' (-2)) = false) := by decide

theorem witness_LineRailAndProbeTimersExpire : morning.power = .on ∧
    (inFlight (.refresh refresh1) (.drawing 2000) true (readyPanel 10)).plc.line =
      some ⟨.p1, .refresh refresh1, .drawing 2000, true⟩ ∧
    (inFlight (.refresh refresh1) (.interval 480) false (readyPanel 10)).plc.line =
      some ⟨.p1, .refresh refresh1, .interval 480, false⟩ ∧
    (inFlight (.refresh refresh1) (.retry 1000) false (readyPanel 10)).plc.line =
      some ⟨.p1, .refresh refresh1, .retry 1000, false⟩ ∧ morning.plc.line = none ∧
    ({ morning with plc.rail := .settling 250 } : State).plc.rail = .settling 250 ∧
    ({ inFlight .probe .settle false (readyPanel 10) with plc.rail := .settling 250 } : State).plc.line =
      some ⟨.p1, .probe, .settle, false⟩ ∧
    ({ inFlight (.refresh refresh1) .settle false (readyPanel 10) with plc.rail := .settling 250 } : State).plc.line =
      some ⟨.p1, .refresh refresh1, .settle, false⟩ ∧ morning.plc.rail = .on ∧ (probing .off).plc.rail = .off ∧
    ({ morning with plc.idle := some 2000 } : State).plc.idle = some 2000 ∧ morning.plc.idle = none ∧
    (panelAt ({ morning with plc.panels.p1 := { readyPanel 10 with link := .offline, probeTimer := some 60000 } }) .p1).link =
      .offline ∧
    (panelAt ({ morning with plc.panels.p1 := { readyPanel (-20) with link := .cold, probeTimer := some 600000 } }) .p1).probeTimer =
      some 600000 ∧
    (panelAt ({ morning with plc.panels.p1 := { unknownPanel none with probeDue := false, probeTimer := some 1000 } }) .p1).link =
      .unknown ∧ (panelAt morning .p1).link ≠ .cold ∧
    (panelAt { morning with plc.panels.p1 := { readyPanel 10 with link := .offline, probeTimer := some 60000 } } .p1).probeTimer =
      some 60000 ∧ (probing .off).plc.rail ≠ .on := by decide

/-- The quiet window around the morning's minute 270 and beside it, and entries of a level that change its draw and its
timeout or leave them. -/
theorem witness_EnergyAndLevelSettingsStored_cases : morning.clock = some ⟨⟨2026, 3, 6⟩, 16205, 0, none⟩ ∧
    (270 < 300 ∧ 270 ≤ 16205 / 60 ∧ 16205 / 60 < 300) ∧ (1400 < 1439 ∧ ¬(1400 ≤ 16205 / 60)) ∧
    some Level.el3 ≠ morning.enm.quietLimit ∧ (none : Option Level) = morning.enm.quietLimit ∧
    entryInRange .el1 (some 500) none none none none (some 60) = true ∧ 500 ≠ (morning.enm.table.get .el1).draw ∧
    some 60 ≠ (morning.enm.table.get .el1).timeout ∧ (atOwner morning).awu.demand = .el1 ∧
    (atOwner morning).awu.timer ≠ .held ∧ Level.el2 ≠ (atOwner morning).enm.present ∧
    entryInRange .el2 none (some 60) none none none none = true ∧
    highestEnabled (atOwner morning) .el3 ≠ morning.enm.effective ∧
    highestEnabled (atOwner morning) .el1 = morning.enm.effective ∧ Level.el1 = (atOwner morning).enm.present ∧
    entryInRange .el1 none none none (some 3600) none none = true := by decide

theorem witness_EnergyAndLevelSettingsStored : Listens morning ∧
    (∀ x, some (1439, 0) = some x → x.1 ≤ 1439 ∧ x.2 ≤ 1439) ∧ (∀ n, some 50 = some n → 50 ≤ n ∧ n ≤ 2000) ∧
    (∀ n, some 2000 = some n → 50 ≤ n ∧ n ≤ 2000) ∧ ¬(∀ n, some 49 = some n → 50 ≤ n ∧ n ≤ 2000) ∧
    ¬(∀ n, some 2001 = some n → 50 ≤ n ∧ n ≤ 2000) ∧
    entryInRange .el1 (some 0) none none none none none = false ∧
    entryInRange .el5 none none none none none (some 0) = false ∧
    entryInRange .el1 (some 5000) (some 3600) (some 15) (some 3600) (some 100) none = true ∧
    Level.el1 = (atOwner morning).enm.present ∧ 5 < 6 ∧ levelOf 5 = some .el5 ∧ levelOf 0 = some .el0 ∧ 49 < 50 ∧
    5000 < 5001 ∧ 50 ≤ 50 ∧ 5000 ≤ 5000 := by
  refine ⟨⟨rfl, rfl⟩, ?_, ?_, ?_, ?_, ?_, by decide, by decide, by decide, by decide, by decide, rfl, rfl,
    by decide, by decide, by decide, by decide⟩
  · intro x h; cases h; decide
  · intro n h; cases h; decide
  · intro n h; cases h; decide
  · intro h; exact absurd (h 49 rfl) (by decide)
  · intro h; exact absurd (h 2001 rfl) (by decide)

/-- RAILEN over the rail's states (R143), for the clause of `Obligations.LineRailAndProbeTimersExpire`. -/
theorem test_railen : railEnabled morning = true ∧ railEnabled { morning with plc.rail := .settling 250 } = true ∧
    railEnabled night = false := by decide

/-- An activity that ends an episode at EL5 with an urgent entry waiting starts none; the row starts one (log 39). -/
theorem test_brief_start_after_an_activity :
    (let s : State := { night with
      enm.transition := .raising .el3 5, enm.target := .el3, awu.brief := true, awu.urgent := true
      awu.returnTimer := .running 9, bdc.queue := [⟨.p1, true⟩] }
     let t := asked .activity s
     t.awu.brief = false ∧ t.enm.present = .el5 ∧ t.awu.urgent = true ∧ (after .briefEpisodeStart t).awu.brief = true) := by
  decide

theorem witness_LimitsFollowReportsByTheBands : 100 ≤ 100 ∧ strictness none ≤ strictness (bandOf 58) ∧
    strictness (bandOf 7) < strictness (some .el5) ∧ 3 ≤ 7 ∧ Listens morning ∧
    morning.hlk.notices.length = sourceCount ∧ 5 < 6 ∧ LimitField.level 5 = .level 5 ∧ levelOf 5 = some .el5 ∧
    (some Level.el5).isSome ∧ some Level.el5 ≠ morning.enm.hostLimit ∧ (4 : Int) < 5 ∧
    batteryAfter 4 morning.enm.battery ≠ morning.enm.battery := by
  refine ⟨by decide, by decide, by decide, by decide, ⟨rfl, rfl⟩, ?_⟩; decide

/-- Targets: at rest on the morning, the demand EL0 with an approach, and EL5 asked for in a brief episode; EL3 enabled or
not. -/
theorem witness_TransitionsComplete_target : morning.awu.demand = .el1 ∧ morning.enm.battery = none ∧
    morning.enm.coldLimit = none ∧ morning.enm.quietLimit = none ∧ morning.enm.hostLimit = none ∧
    (morning.enm.table.get .el1).draw ≤ morning.enm.capacity ∧
    (let s := { with1404 (late1404 .delayed 12 16260 true) with awu.demand := .el0 }
     approachCondition s = true ∧ s.enm.battery = none ∧ s.enm.coldLimit = none ∧
       (s.enm.table.get .el0).draw ≤ s.enm.capacity ∧ (s.enm.table.get .ela).draw ≤ s.enm.capacity) ∧
    (let s := { night with awu.brief := true }
     s.awu.demand = .el5 ∧ s.enm.battery ≠ some .el5 ∧ (s.enm.table.get .el3).draw ≤ s.enm.capacity) ∧
    ¬((morning.enm.table.get .el3).draw ≤ 50) := by decide

/-- Starts: a target equal to the present level, one in flight, a raise out of EL5, a lowering to EL3 and to EL5 with a quote
held. -/
theorem witness_TransitionsComplete_starts : computeTarget morning = morning.enm.present ∧
    morning.enm.transition = .none ∧ State.reset.enm.transition ≠ .none ∧
    (let s := { night with awu.demand := .el1 }
     s.enm.transition = .none ∧ levelRank (computeTarget s) < levelRank s.enm.present ∧ s.enm.present = .el5) ∧
    (let s := { morning with enm.hostLimit := some .el3 }
     levelRank s.enm.present < levelRank (computeTarget s) ∧ computeTarget s ≠ .el4 ∧ computeTarget s ≠ .el5) ∧
    (let s := { quoted with enm.hostLimit := some .el5 }
     levelRank s.enm.present < levelRank (computeTarget s) ∧ computeTarget s = .el5 ∧ s.enm.transition = .none ∧
       s.slc.slot = .quoted quote23 120000 ∧ s.hlk.notices.length = sourceCount) ∧
    slotState morning.slc.slot ≠ .quoted := by decide

/-- The rail mode: the same, and each of the three to change to. -/
theorem witness_TransitionsComplete_rail : morning.plc.railLevel = .el1 ∧ RailMode.always = morning.plc.mode ∧
    (probing .off).plc.railLevel = .el1 ∧ RailMode.always ≠ (probing .off).plc.mode ∧
    ({ morning with plc.railLevel := .el3 } : State).plc.railLevel = .el3 ∧ RailMode.gated ≠ morning.plc.mode ∧
    ({ morning with plc.railLevel := .el5 } : State).awu.brief = false ∧ RailMode.off ≠ morning.plc.mode := by decide

theorem witness_TransitionsComplete : State.reset.power = .on ∧ State.reset.hlk.notices.length = sourceCount ∧
    State.reset.enm.transition = .raising .el2 200 ∧ (∀ d n, morning.enm.transition ≠ .raising d n) ∧
    ({ morning with enm.transition := .lowering .el3, enm.target := .el3 } : State).enm.transition = .lowering .el3 ∧
    morning.plc.line = none ∧ (resting .el3 = true → slotState printing.slc.slot ≠ .printing) ∧
    (resting .el4 = true → slotState morning.slc.slot ≠ .printing) ∧
    ({ inFlight .probe .settle false (readyPanel 10) with enm.transition := .lowering .el4 } : State).plc.line.isSome ∧
    State.reset.enm.staleTimer = some 900000 ∧ ({ morning with enm.staleTimer := none } : State).enm.staleTimer = none := by
  refine ⟨rfl, by decide, rfl, ?_, rfl, rfl, by decide, by decide, rfl, rfl, rfl⟩
  intro d n h; cases h

/-- A wake configuration request that changes CALL's sense, with the longest return time. -/
def wakeFields : WakeFields :=
  ⟨⟨⟨some (.named .either), none, none⟩, ⟨none, none, none⟩, ⟨none, none, none⟩, ⟨none, none, none⟩, ⟨none, none, none⟩⟩,
    none, none, some (.named true), some 600⟩

theorem witness_ActivityDemandAndBriefEpisodes : Listens morning ∧ slotState (atOwner morning).slc.slot ≠ .quoted ∧ wakeInRange wakeFields = true ∧
    wakeInRange { wakeFields with returnTime := some 30 } = true ∧
    wakeInRange { wakeFields with returnTime := some 601 } = false ∧
    wakeInRange { wakeFields with returnTime := some 29 } = false :=
  ⟨⟨rfl, rfl⟩, by decide⟩

theorem witness_FieldInputsWake : night.power = .on ∧ fiveGet night.awu.filtered .call = some !false ∧
    fiveGet night.awu.filtered .call = some true ∧ fiveGet morning.awu.filtered .door = none ∧
    (let c := fiveGet night.awu.config.inputs .call
     c.sense = .either ∧ c.wake = true ∧ c.activity = true) ∧ night.enm.present = .el5 ∧ night.awu.lock = none ∧
    morning.enm.present ≠ .el4 ∧ morning.enm.present ≠ .el5 ∧
    (fiveGet morning.awu.config.inputs .door).sense = .never ∧
    (let s := { morning with awu.config.inputs.door := ⟨.rising, false, true⟩, awu.filtered.door := some false }
     fiveGet s.awu.filtered .door = some !true ∧ (fiveGet s.awu.config.inputs .door).sense = .rising ∧
       (fiveGet s.awu.config.inputs .door).activity = false) ∧
    (let s := { morning with awu.filtered.call := some true }
     fiveGet s.awu.filtered .call = some !false ∧ (fiveGet s.awu.config.inputs .call).sense = .falling ∧
       (fiveGet s.awu.config.inputs .call).activity = true) := by decide

/-- CALL's lock at its return to the active level, low: held back before the other level was seen, cleared after. -/
theorem witness_FieldInputsWake_lock :
    (let held := { night with awu.lock := some ⟨false, false⟩ }
     let seen := { night with awu.lock := some ⟨false, true⟩ }
     fiveGet held.awu.filtered .call = some !false ∧ fiveGet seen.awu.filtered .call = some !false ∧
       passLock false held.awu.lock = some ⟨false, false⟩ ∧ passLock false seen.awu.lock = none ∧
       (after (.fieldInputEdge .call false) held).awu.woke = held.awu.woke ∧
       (after (.fieldInputEdge .call false) seen).awu.woke = some ⟨.field .call, some .falling, nowMinute seen⟩) := by decide

theorem witness_ActivityDemandAndBriefEpisodes_events : (atLevel .el4 { night with awu.timer := .running 1 }).power = .on ∧
    (atLevel .el4 { night with awu.timer := .running 1 }).awu.timer = .running 1 ∧ night.slc.slot = .idle ∧
    (∀ n, night.awu.timer ≠ .running n) ∧ night.enm.present = .el5 ∧
    ({ night with awu.urgent := true } : State).awu.urgent = true ∧ night.enm.battery ≠ some .el5 ∧
    night.awu.brief = false ∧ morning.enm.present ≠ .el5 ∧
    ({ night with awu.brief := true, awu.returnTimer := .running 1 } : State).awu.returnTimer = .running 1 ∧
    ({ night with awu.brief := true, awu.returnTimer := .expired } : State).awu.brief = true ∧
    urgentWaiting night = false ∧ night.plc.line = none ∧ night.awu.returnTimer ≠ .expired := by
  refine ⟨rfl, rfl, rfl, ?_, rfl, rfl, by decide, rfl, by decide, rfl, rfl, by decide, rfl, by decide⟩
  intro n h; cases h

/-! ### What follows a rule in its taking -/

/-- The end of the last date, with a SALES panel, the sales open and QUIET in force at its level. -/
theorem witness_ServiceDayEnds_unset :
    (let s : State := { lastSecondOf lastDate with
      bdc.profiles.p1.kind := .sales, enm.quietLimit := some .el3, enm.present := .el3, enm.target := .el3 }
     s.power = .on ∧ s.clock = some ⟨lastDate, 86399, 0, none⟩ ∧ s.hlk.notices.length = sourceCount ∧
       s.bdc.sales = none ∧ (s.bdc.profiles.get .p1).isPresent = true ∧ (s.bdc.profiles.get .p1).kind = .sales ∧
       s.enm.quietLimit.isSome ∧ s.enm.transition = .none ∧ s.enm.present = computeTarget s ∧
       (unsetClock s).bdc.queue = [⟨.p1, true⟩] ∧ (after .clockSecond s).enm.transition = .raising .el1 200) := by decide

/-- The four cases of an evaluation after SERVICE-SETTINGS: the clock SET or UNSET, a field carried or none. -/
theorem witness_ServiceSettingsStored_evaluation : morning.clock = some ⟨⟨2026, 3, 6⟩, 16205, 0, none⟩ ∧
    (atClock none).clock = none ∧ (some 10 : Option Nat).isSome ∧
    (the1404 (.serviceSettings none (some 15) none) { morning with clock := some ⟨⟨2026, 3, 6⟩, 16200, 0, none⟩ }).map
      (·.approach) = some true ∧
    (the1404 (.serviceSettings none none none) morning).map (·.approach) = some false := by decide

/-- A PRINTING sale of an open ticket. -/
def unbound : Sale := { sale23 with quote.bound := none, quote.ticket := .openSingle }

theorem witness_sold_count :
    ({ printing with slc.slot := .printing unbound 1 } : State).slc.slot = .printing unbound 1 ∧
    unbound.quote.bound = none ∧ ({ printing with tts.current := none } : State).tts.current = none ∧
    printing.slc.slot = .printing sale23 30000 ∧ sale23.quote.bound = some ⟨1404, 282⟩ ∧
    (atSales { printing with slc.slot := .printing unbound 1 }).slc.slot = .printing unbound 1 ∧
    ((the1404 .printTimerExpiry printing).map (·.sold) = some 2) ∧
    ((the1404 (.salePrinted 40117 (.named .spoiled)) printing).map (·.sold) = some 0) := by decide

/-- The sold count of a service outlives a restart, with the passengers of the sale that it concludes (R30, R49). -/
theorem test_restart_counts_the_sold :
    (the1404 (.powerOn true) printing).map (fun v => (v.sold, v.status, v.stamp)) = some (2, .scheduled, none) := by decide

/-- A MESSAGES panel on the morning: a message placed or removed queues it, and a drop of nothing does not. -/
theorem witness_HostMessagesPlaced_queue :
    (let s : State := { withHost (urgentEight.take 1) with bdc.profiles.p1.kind := .messages, bdc.credit := 0 }
     Listens s ∧ (s.bdc.profiles.get .p1).isPresent = true ∧ (s.bdc.profiles.get .p1).kind = .messages ∧
       (s.bdc.profiles.get .p2).isPresent = false ∧ QueueOrdered (atOwner s) ∧
       (after (.boardText 9 (.named .urgent) ["a".toList] none) s).bdc.queue = [⟨.p1, true⟩] ∧
       (after (.boardTextDrop (some 1)) s).bdc.queue = [⟨.p1, false⟩] ∧ (after (.boardTextDrop (some 2)) s).bdc.queue = []) := by
  refine ⟨⟨rfl, rfl⟩, rfl, rfl, rfl, ?_, by decide, by decide, by decide⟩
  unfold QueueOrdered; decide

/-- The urgent-entry condition and the cold flag as reported, with a servable entry and with a due probe. -/
theorem witness_told : Told (serving none 10) ∧ Told (servingOn .off .gated) ∧ Told (probing .on) ∧ Told (probing .off) := by
  refine ⟨⟨?_, ?_⟩, ⟨?_, ?_⟩, ⟨?_, ?_⟩, ⟨?_, ?_⟩⟩ <;> decide

/-- The rotation timer's condition comes to hold and ceases to. -/
theorem witness_BoardTimersAndServing_rotation :
    (let s : State := { rotating (some 1) with bdc.rotation := none, bdc.profiles.p1.rows := 4 }
     Quiet { s with bdc.rotation := some 300000 } ∧ 0 < (presentEntry s).rotation ∧
       2 ≤ s.bdc.host.length + s.bdc.auto.length ∧ (s.bdc.profiles.get .p1).isPresent = true ∧
       (s.bdc.profiles.get .p1).kind = .messages ∧ s.bdc.rotation = none) ∧
    (let s : State := { morning with bdc.rotation := some 1 }
     Quiet { s with bdc.rotation := none } ∧ ¬2 ≤ s.bdc.host.length + s.bdc.auto.length ∧ s.bdc.rotation.isSome) := by
  refine ⟨⟨⟨?_, ?_, ?_, ?_, ?_, ?_, ?_⟩, ?_⟩, ⟨⟨?_, ?_, ?_, ?_, ?_, ?_, ?_⟩, ?_⟩⟩ <;> decide

/-- A lowering and a return with nothing left for the line; an urgent entry not yet reported, at EL5 and elsewhere, and one
that has gone. -/
theorem witness_reactions_due :
    LineOffered { morning with enm.transition := .lowering .el3, enm.target := .el3 } ∧
    (let s : State := { night with awu.brief := true, awu.returnTimer := .expired }
     LineOffered s ∧ (∀ e ∈ s.bdc.queue, e.urgent = false) ∧ s.plc.line = none) ∧
    (let s : State := { night with bdc.queue := [⟨.p1, true⟩] }
     (∃ e ∈ s.bdc.queue, e.urgent = true) ∧ s.awu.urgent = false ∧ s.enm.present = .el5 ∧ s.enm.battery ≠ some .el5 ∧
       s.awu.brief = false) ∧
    (let s : State := { morning with bdc.queue := [⟨.p1, true⟩] }
     (∃ e ∈ s.bdc.queue, e.urgent = true) ∧ s.awu.urgent = false ∧ s.enm.present ≠ .el5) ∧
    (let s : State := { morning with awu.urgent := true }
     (∀ e ∈ s.bdc.queue, e.urgent = false) ∧ s.awu.urgent = true) ∧
    (let s : State := { morning with plc.panels.p1 := readyPanel (-6) }
     s.awu.urgent = false ∧ s.bdc.queue = [] ∧ coldNow s ≠ s.plc.cold) := by
  refine ⟨⟨⟨?_, ?_⟩, .inr (.inr ?_), .inr (.inr ?_)⟩, ⟨⟨⟨?_, ?_⟩, .inr (.inr ?_), .inr (.inr ?_)⟩, ?_⟩, ?_⟩
  case refine_3 => intro a; cases a <;> rfl
  case refine_7 => intro a; cases a <;> rfl
  case refine_4 => intro e h; cases h
  case refine_8 => intro e h; cases h
  all_goals decide

/-- What stands after a command's own rule comes about in the same taking: a probe, a refresh, a brief episode, a lowering. -/
theorem test_reactions_come_about :
    (after (.panelReset 1) morning).plc.line = some ⟨.p1, .probe, .probing 500, false⟩ ∧
    ((after (.boardRefresh (some 1) (.named false)) morning).plc.line.map fun t => (t.panel, t.phase)) = some (.p1, .load) ∧
    (after (.boardRefresh (some 1) (.named true)) night).awu.brief = true ∧
    (after (.levelLimit (.level 3)) morning).enm.present = .el3 := by decide
/-! ### States that meet the invariants, each with a step that answers next -/

/-- The printing morning with its print result waiting. -/
def concluding : State := { printing with pending := [.salePrinted 40117 (.named .printed)] }

theorem witness_step : ∃ t, step concluding = .next t := ⟨_, rfl⟩

theorem witness_StepKeepsLevelAtTarget : LevelAtTarget concluding := by intro _; rfl

theorem witness_StepKeepsRestingSlotIdle : RestingSlot { night with pending := [.activity] } ∧ RestingSlot concluding := by
  refine ⟨⟨?_, fun _ => ⟨fun _ => rfl, ?_⟩⟩, ?_, fun _ => ⟨?_, ?_⟩⟩
  · intro d n h; cases h
  · intro d h; cases h
  · intro d n h; cases h
  · intro h; exact absurd h (by decide)
  · intro d h; cases h

theorem witness_StepKeepsTheJournalSound : JournalPlaces concluding ∧
    TakingsBalance { evening with sjn.lifetime := ⟨480, 1500, 750⟩ } ∧ SerialsRunOn concluding ∧
    1 ≤ 40117 ∧ 40117 < concluding.sjn.next := by
  refine ⟨by unfold JournalPlaces; decide, ?_, ⟨?_, ?_, by decide, by decide⟩, by decide, by decide⟩
  · intro k; cases k <;> decide
  · intro i r h; cases h
  · intro x left h; cases h; decide

theorem witness_StepKeepsTogglesOpposed : TogglesOpposed concluding := by intro a; cases a <;> rfl

theorem witness_StepKeepsCreditAndQueue : CreditWithinDepth concluding ∧
    QueueOrdered (withQueue [⟨.p3, true⟩, ⟨.p1, false⟩]) := by
  unfold CreditWithinDepth QueueOrdered; decide

theorem witness_StepKeepsClockAndNotices : ClockInRange (lastSecondOf lastDate) ∧ NoticesWhole concluding ∧
    NumbersDistinct concluding := by
  refine ⟨?_, by unfold NoticesWhole; decide, numbers_of_morning⟩
  intro c h; cases h; decide

end Sys2Proof.Tests
end

section
/-! SUPPORT. The calendar and the clock's positions (R2, R3): what makes a date, the dates before and after it, and the way
from a local time to a clock position and back. -/

namespace Sys2Proof.Machine

/-! ### Dates -/

/-- The days of a month, month by month (R3). -/
theorem daysInMonth_eq (y m : Nat) : daysInMonth y m =
    if m = 2 then (if y % 4 = 0 ∧ y ≠ 2100 then 29 else 28)
    else if m = 4 ∨ m = 6 ∨ m = 9 ∨ m = 11 then 30 else 31 := by
  unfold daysInMonth leapYear
  split <;> simp_all

theorem daysInMonth_pos (y m : Nat) : 1 ≤ daysInMonth y m := by
  rw [daysInMonth_eq]
  split_ifs <;> omega

theorem daysInMonth_december (y : Nat) : daysInMonth y 12 = 31 := rfl

theorem realDate_iff (d : Date) :
    realDate d = true ↔ 1 ≤ d.month ∧ d.month ≤ 12 ∧ 1 ≤ d.day ∧ d.day ≤ daysInMonth d.year d.month := by
  simp [realDate, and_assoc]

theorem inSpan_iff (d : Date) : inSpan d = true ↔ realDate d = true ∧ 2000 ≤ d.year ∧ d.year ≤ 2099 := by
  simp [inSpan, and_assoc]

theorem dateBefore_iff (a b : Date) : dateBefore a b = true ↔
    a.year < b.year ∨ (a.year = b.year ∧ (a.month < b.month ∨ (a.month = b.month ∧ a.day < b.day))) := by
  simp [dateBefore]

/-- Dates are ordered in one way only. -/
theorem dateBefore_asymm {a b : Date} (h : dateBefore a b = true) : dateBefore b a = false := by
  rw [dateBefore_iff] at h
  rw [← Bool.not_eq_true, dateBefore_iff]
  omega

theorem dateBefore_irrefl (a : Date) : dateBefore a a = false := by
  rw [← Bool.not_eq_true, dateBefore_iff]
  omega

theorem ne_of_dateBefore {a b : Date} (h : dateBefore a b = true) : a ≠ b := by
  rintro rfl
  rw [dateBefore_irrefl] at h
  cases h

/-! ### The dates before and after -/

/-- The date after a date, month by month (R3). -/
theorem nextDate_of_lt {y m d : Nat} (h : d < daysInMonth y m) : nextDate ⟨y, m, d⟩ = ⟨y, m, d + 1⟩ := if_pos h

theorem nextDate_last {y m d : Nat} (h : d = daysInMonth y m) :
    nextDate ⟨y, m, d⟩ = if m < 12 then ⟨y, m + 1, 1⟩ else ⟨y + 1, 1, 1⟩ := if_neg (by dsimp only; omega)

/-- The date before a date is the one that the date follows. -/
theorem nextDate_prevDate {d : Date} (h : realDate d = true) (hy : 1 ≤ d.year) : nextDate (prevDate d) = d := by
  obtain ⟨y, m, n⟩ := d
  obtain ⟨hm, hm', hn, hn'⟩ := (realDate_iff _).mp h
  dsimp only at hm hm' hn hn' hy
  unfold prevDate
  dsimp only
  split_ifs with h1 h2
  · rw [nextDate_of_lt (by omega), Nat.sub_add_cancel hn]
  · rw [nextDate_last rfl, if_pos (by omega), Nat.sub_add_cancel hm, show n = 1 by omega]
  · rw [nextDate_last (daysInMonth_december _).symm, if_neg (by omega), Nat.sub_add_cancel hy, show m = 1 by omega,
      show n = 1 by omega]

theorem realDate_prevDate {d : Date} (h : realDate d = true) : realDate (prevDate d) = true := by
  rw [realDate_iff] at h ⊢
  have hp := daysInMonth_pos d.year (d.month - 1)
  unfold prevDate
  split_ifs <;> dsimp only
  · omega
  · omega
  · exact ⟨by omega, by omega, by omega, Nat.le_refl 31⟩

theorem realDate_nextDate {d : Date} (h : realDate d = true) : realDate (nextDate d) = true := by
  rw [realDate_iff] at h ⊢
  unfold nextDate
  split_ifs <;> dsimp only
  · omega
  · exact ⟨by omega, by omega, Nat.le_refl 1, daysInMonth_pos _ _⟩
  · exact ⟨by omega, by omega, Nat.le_refl 1, daysInMonth_pos _ _⟩

/-- Before the last service date, the next date is one of the span (R3). -/
theorem inSpan_nextDate {d : Date} (h : inSpan d = true) (hl : dateBefore d lastDate = true) :
    inSpan (nextDate d) = true := by
  obtain ⟨hr, hy, hy'⟩ := (inSpan_iff d).mp h
  rw [inSpan_iff]
  refine ⟨realDate_nextDate hr, ?_⟩
  rw [dateBefore_iff] at hl
  rw [realDate_iff] at hr
  simp only [lastDate] at hl
  unfold nextDate
  split_ifs with h1 h2 <;> dsimp only
  · omega
  · omega
  · have h12 : d.month = 12 := by omega
    rw [h12, daysInMonth_december] at h1
    omega

/-! ### Positions (R2) -/

theorem clockPosition_early {d : Date} {l : Nat} (h : l < 10800) : clockPosition d l = (prevDate d, l + 75600) :=
  if_neg (by omega)

theorem clockPosition_late {d : Date} {l : Nat} (h : 10800 ≤ l) : clockPosition d l = (d, l - 10800) := if_pos h

theorem localPosition_early {d : Date} {t : Nat} (h : t < 75600) : localPosition d t = (d, t + 10800) := if_pos h

theorem localPosition_late {d : Date} {t : Nat} (h : 75600 ≤ t) : localPosition d t = (nextDate d, t - 75600) :=
  if_neg (by omega)

theorem clockPosition_tod_lt (d : Date) {l : Nat} (h : l < 86400) : (clockPosition d l).2 < 86400 := by
  unfold clockPosition
  split_ifs <;> dsimp only <;> omega

/-- Settles O14: each side of 03:00 by itself; the date before a date is undone by the date after it. -/
theorem positionsInvert : Obligations.PositionsInvert := by
  refine ⟨fun d l hd hy hl => ?_, fun d tod => ⟨localPosition_early, localPosition_late⟩, fun y mo d => ?_⟩
  · refine ⟨?_, clockPosition_tod_lt d hl, ?_, clockPosition_late, fun h => ?_⟩
    · rcases Nat.lt_or_ge l 10800 with h | h
      · rw [clockPosition_early h, localPosition_late (by omega), nextDate_prevDate hd hy, Nat.add_sub_cancel]
      · rw [clockPosition_late h, localPosition_early (by omega), Nat.sub_add_cancel h]
    · rcases Nat.lt_or_ge l 10800 with h | h
      · rw [clockPosition_early h]
        exact realDate_prevDate hd
      · rw [clockPosition_late h]
        exact hd
    · rw [clockPosition_early h]
      exact ⟨nextDate_prevDate hd hy, rfl⟩
  · simp only [← daysInMonth_eq]
    exact ⟨nextDate_of_lt, nextDate_last⟩

end Sys2Proof.Machine
end

section
/-! SUPPORT. What a command does, said once: a request row is the completion of its frame, an event row its rule with what
then stands, and the rest are the rows of the line and of the supply; and the step that takes the front of the queue. -/

namespace Sys2Proof.Machine

/-- The rule of an event row; none for a request and for the rows of the host line and of the supply. -/
def eventRule : Instr → Option (State → State)
  | .clockSecond => some clockSecondEvent
  | .quoteTimerExpiry => some quoteExpiry
  | .printTimerExpiry => some printExpiry
  | .accrualTimerExpiry => some accrualExpiry
  | .rotationTimerExpiry => some rotationExpiry
  | .serveEntry => some serveFirst
  | .probeStart => some probeFirst
  | .railSettleExpiry => some railSettled
  | .panelReply source checkPasses answer => some (panelReplied source checkPasses answer)
  | .replyWaitExpiry => some replyWait
  | .drawingWaitExpiry => some drawingExpiry
  | .probeIntervalExpiry => some intervalExpiry
  | .retryWaitExpiry => some retryExpiry
  | .unknownReprobeDelay panel => some (probeTimerExpiry .unknown panel)
  | .offlineProbeTimerExpiry panel => some (probeTimerExpiry .offline panel)
  | .coldProbeTimerExpiry panel => some (probeTimerExpiry .cold panel)
  | .railIdleExpiry => some railIdleExpiry
  | .raiseSettleExpiry => some raiseSettled
  | .loweringComplete => some drainFirst
  | .staleTimerExpiry => some staleExpiry
  | .fieldInputEdge input high => some (filteredChange input high)
  | .filterInitialLevel input high => some (firstTaking input high)
  | .demandTimerExpiry => some demandExpiry
  | .briefEpisodeStart => some judgeBriefStart
  | .returnTimerExpiry => some returnExpiry
  | .briefEpisodeReturn => some returnFirst
  | _ => none

/-- The rule of a row of the host line, which a powered part alone takes; none for the others. -/
def lineRule : Instr → Option (State → State)
  | .frameComplete kind tag body => some (frameArrived ⟨kind, tag, body⟩)
  | .interByteGap => some byteGap
  | .replySent => some replyEnded
  | .hostByteReceived b => some (byteReceived b)
  | _ => none

/-- The rule of a row of the supply or of RESETN; none for the others. -/
def supplyRule : Instr → Option (State → State)
  | .powerOn strap => some (powerUp strap)
  | .resetnAsserted => some holdPart
  | .resetnReleased strap => some (releasePart strap)
  | .powerLoss => some powerDown
  | _ => none

/-- An event row is its rule with what then stands. -/
theorem exec_of_eventRule {c : Instr} {f : State → State} (h : eventRule c = some f) (s : State) :
    exec c s = event f s := by
  cases c <;> cases h <;> rfl

/-- A request row is the completion of the frame that carries it. -/
theorem exec_of_ownerRule {c : Instr} {rule : State → State × Answer} (h : ownerRule c = some rule) (s : State) :
    exec c s = request c s := by
  cases c <;> cases h <;> rfl

theorem exec_of_lineRule {c : Instr} {f : State → State} (h : lineRule c = some f) (s : State) :
    exec c s = .next (whenOn f s) := by
  cases c <;> cases h <;> rfl

theorem exec_of_supplyRule {c : Instr} {f : State → State} (h : supplyRule c = some f) (s : State) :
    exec c s = .next (f s) := by
  cases c <;> cases h <;> rfl

/-- Every command is a request, an event, a row of the host line or one of the supply. -/
theorem command_cases (c : Instr) : (∃ rule, ownerRule c = some rule) ∨ (∃ f, eventRule c = some f) ∨
    (∃ f, lineRule c = some f) ∨ ∃ f, supplyRule c = some f := by
  cases c <;>
    first
    | exact .inl ⟨_, rfl⟩
    | exact .inr (.inl ⟨_, rfl⟩)
    | exact .inr (.inr (.inl ⟨_, rfl⟩))
    | exact .inr (.inr (.inr ⟨_, rfl⟩))

/-- Every command answers next. -/
theorem exec_answers (c : Instr) (s : State) : ∃ t, exec c s = .next t := by
  cases c <;> exact ⟨_, rfl⟩

/-! ### The step -/

theorem step_of_pending {c : Instr} {rest : List Instr} {s : State} (h : s.pending = c :: rest) :
    step s = exec c { s with pending := rest } := by
  unfold step
  rw [h]

theorem step_of_empty {s : State} (h : s.pending = []) : step s = .next (millisecond s) := by
  unfold step
  rw [h]

/-- A panel's probe timer counts but for an OFFLINE panel while the rail is not ON (R138, R139, R141). -/
theorem panelTick_eq (rail : Rail) (p : PanelRecord) : panelTick rail p =
    if p.link = .offline ∧ rail ≠ .on then p else { p with probeTimer := p.probeTimer.map fun n => n - 1 } := by
  by_cases hl : p.link = .offline <;> by_cases hr : rail = .on <;>
    simp [panelTick, probeTimerCounts, timerTick, hl, hr]

/-- Settles O1: the two forms of the queue, and on an empty one whether the part is powered. -/
theorem stepTakesTheFront : Obligations.StepTakesTheFront := by
  refine ⟨fun c rest s h => step_of_pending h, fun s h hp => ?_, fun s h hp => ?_, exec_answers⟩
  · rw [step_of_empty h, millisecond, if_neg hp]
  · rw [step_of_empty h, millisecond, if_pos hp]
    simp only [advance, funext (panelTick_eq s.plc.rail)]
    rfl

end Sys2Proof.Machine
end

section
/-! SUPPORT. What every operation keeps of the clock's range, of the sixteen notice sources and of the distinct service
numbers (R1, R3, R15, R18, R182, R184): one lemma per operation, up to the step. -/

namespace Sys2Proof.Machine

/-! ### The relation -/

/-- The three invariants hold after if they held before. -/
structure SoundStep (s t : State) : Prop where
  clock : ClockInRange s → ClockInRange t
  notices : NoticesWhole s → NoticesWhole t
  numbers : NumbersDistinct s → NumbersDistinct t

theorem SoundStep.refl (s : State) : SoundStep s s := ⟨id, id, id⟩

theorem SoundStep.trans {s t u : State} (h : SoundStep s t) (k : SoundStep t u) : SoundStep s u :=
  ⟨k.clock ∘ h.clock, k.notices ∘ h.notices, k.numbers ∘ h.numbers⟩

/-- A step that follows one. -/
theorem SoundStep.after {s t u : State} (k : SoundStep t u) (h : SoundStep s t) : SoundStep s u := h.trans k

theorem SoundStep.foldl {α : Type} {f : State → α → State} (hf : ∀ s a, SoundStep s (f s a)) (l : List α) (s : State) :
    SoundStep s (l.foldl f s) := by
  induction l generalizing s with
  | nil => exact .refl s
  | cons a l ih => exact (hf s a).trans (ih _)

theorem clockInRange_of_eq {s t : State} (h : t.clock = s.clock) (k : ClockInRange s) : ClockInRange t := by
  unfold ClockInRange
  rwa [h]

theorem numbersDistinct_of_eq {s t : State} (h : t.tts = s.tts) (k : NumbersDistinct s) : NumbersDistinct t := by
  unfold NumbersDistinct
  rwa [h]

theorem noticeAt_config (s : State) (n : Nat) :
    (noticeAt s n).config = (s.hlk.notices.map Notice.config).getD n (true, .low) :=
  (List.getD_map s.hlk.notices (quietNotice .low) Notice.config).symm

theorem noticesWhole_of_config {s t : State} (h : t.hlk.notices.map Notice.config = s.hlk.notices.map Notice.config)
    (k : NoticesWhole s) : NoticesWhole t := by
  refine ⟨?_, ?_⟩
  · have hl := congrArg List.length h
    rw [List.length_map, List.length_map] at hl
    exact hl.trans k.1
  · rw [noticeAt_config, h, ← noticeAt_config]
    exact k.2

/-- An operation that leaves the clock, the tables and the notices' configuration alone. -/
theorem SoundStep.of_same {s t : State} (hc : t.clock = s.clock) (ht : t.tts = s.tts)
    (hn : t.hlk.notices.map Notice.config = s.hlk.notices.map Notice.config) : SoundStep s t :=
  ⟨clockInRange_of_eq hc, noticesWhole_of_config hn, numbersDistinct_of_eq ht⟩

/-- An operation on the tables that keeps the numbers distinct. -/
theorem SoundStep.of_tables {s t : State} (hc : t.clock = s.clock)
    (hn : t.hlk.notices.map Notice.config = s.hlk.notices.map Notice.config)
    (ht : NumbersDistinct s → NumbersDistinct t) : SoundStep s t :=
  ⟨clockInRange_of_eq hc, noticesWhole_of_config hn, ht⟩

theorem StoresKept.sound {s t : State} (h : StoresKept s t) : SoundStep s t := .of_same h.clock h.tts h.notices

theorem Reacted.sound {s t : State} (h : Reacted s t) : SoundStep s t := h.toStoresKept.sound

theorem sound_raiseNotice (src : Source) (s : State) : SoundStep s (raiseNotice src s) := (reacted_raiseNotice src s).sound

theorem sound_settle (s : State) : SoundStep s (settle s) := (reacted_settle s).sound

theorem sound_retarget (s : State) : SoundStep s (retarget s) := (reacted_retarget s).sound

/-! ### The boards' lists, profiles and timers -/

theorem sound_keepMessages (f : HostEntry → Bool) (g : AutoEntry → Bool) (s : State) :
    SoundStep s (keepMessages f g s) := by
  unfold keepMessages clearPosition
  split <;> exact .of_same rfl rfl rfl

theorem sound_putAuto (n m t : Nat) (s : State) : SoundStep s (putAuto n m t s) := .of_same rfl rfl rfl

theorem sound_requestEach (want : Profile → Option Bool) (s : State) : SoundStep s (requestEach want s) :=
  (reacted_requestEach want s).sound

theorem sound_requestRefresh (urgent : Bool) (s : State) (a : Addr) : SoundStep s (requestRefresh urgent s a) :=
  (reacted_requestRefresh urgent s a).sound

theorem sound_removeHost (f : HostEntry → Bool) (s : State) : SoundStep s (removeHost f s) := by
  unfold removeHost
  dsimp only
  split
  · exact (sound_keepMessages _ _ s).trans (sound_requestEach _ _)
  · exact sound_keepMessages _ _ s

theorem sound_tableEvent (s : State) : SoundStep s (tableEvent s) :=
  (sound_requestEach _ s).trans ((sound_keepMessages _ _ _).trans (reacted_setLamp _).sound)

theorem sound_boardsRollover (s : State) : SoundStep s (boardsRollover s) :=
  (reacted_requestAll _ _).sound.after (sound_keepMessages _ _ s)

theorem sound_decideSales (s : State) : SoundStep s (decideSales s) := (reacted_decideSales s).sound

theorem sound_withdraw (w : Withdrawal) (s : State) : SoundStep s (withdraw w s) := (reacted_withdraw w s).sound

/-! ### Activity and the field inputs -/

theorem sound_activity (s : State) : SoundStep s (activity s) := (stores_activity s).sound

theorem sound_wake (src : WokeSource) (e : Option Edge) (s : State) : SoundStep s (wake src e s) := (stores_wake src e s).sound

theorem sound_internalEvent (flag : Bool) (src : WokeSource) (s : State) : SoundStep s (internalEvent flag src s) :=
  (stores_internalEvent flag src s).sound

theorem sound_restartDemandTimer (s : State) : SoundStep s (restartDemandTimer s) := (stores_restartDemandTimer s).sound

theorem sound_inputEvent (i : FieldInput) (high : Bool) (s : State) : SoundStep s (inputEvent i high s) := by
  unfold inputEvent
  dsimp only
  split
  · have h := sound_wake (.field i) (some (if high then .rising else .falling)) s
    split
    · exact h.trans (.of_same rfl rfl rfl)
    · exact h
  · split
    · exact sound_activity s
    · exact .refl s

theorem sound_inputEdge (i : FieldInput) (high : Bool) (s : State) : SoundStep s (inputEdge i high s) := by
  have hd : ∀ u : State, SoundStep u (doorChange i high u) := by
    intro u
    unfold doorChange
    split_ifs
    · exact sound_raiseNotice _ u
    · exact .refl u
  have hs : SoundStep s (doorChange i high { s with awu.filtered := fiveSet s.awu.filtered i (some high) }) :=
    (hd _).after (.of_same rfl rfl rfl)
  have hl : ∀ u : State, SoundStep u (if i = .call then { u with awu.lock := passLock high u.awu.lock } else u) := by
    intro u
    split
    · exact .of_same rfl rfl rfl
    · exact .refl u
  unfold inputEdge
  dsimp only
  generalize doorChange i high { s with awu.filtered := fiveSet s.awu.filtered i (some high) } = u at hs ⊢
  have hl := hl u
  generalize (if i = .call then { u with awu.lock := passLock high u.awu.lock } else u) = v at hl ⊢
  refine SoundStep.after ?_ (hl.after hs)
  have hi := sound_inputEvent i high v
  split_ifs
  exacts [hi, .refl v, hi, .refl v]

theorem sound_filteredChange (i : FieldInput) (high : Bool) (s : State) : SoundStep s (filteredChange i high s) := by
  unfold filteredChange
  split_ifs
  · exact sound_inputEdge i high s
  · exact .refl s

theorem sound_firstTaking (i : FieldInput) (high : Bool) (s : State) : SoundStep s (firstTaking i high s) := by
  unfold firstTaking
  dsimp only
  split_ifs
  · exact .refl s
  · exact (sound_raiseNotice _ _).after (.of_same rfl rfl rfl)
  · exact .of_same rfl rfl rfl

/-! ### Services and their evaluation -/

@[simp] theorem evaluateService_plan (g w m : Nat) (v : Service) : (evaluateService g w m v).plan = v.plan := by
  unfold evaluateService
  split_ifs <;> rfl

@[simp] theorem applyKind_plan (k : RunKind) (arg : Int) (g now : Nat) (v : Service) :
    (applyKind k arg g now v).plan = v.plan := by
  unfold applyKind
  split
  · split <;> rfl
  all_goals rfl

/-- Services changed one by one, each keeping its number, keep the numbers distinct. -/
theorem numbersDistinct_mapServices {s : State} {f : Service → Service}
    (hf : ∀ t v, s.tts.current = some t → v ∈ t.services → (f v).plan.number = v.plan.number) (h : NumbersDistinct s) :
    NumbersDistinct { s with tts.current := s.tts.current.map fun t => ⟨t.header, t.services.map f⟩ } := by
  refine ⟨fun t ht => ?_, h.2⟩
  obtain ⟨u, hu, rfl⟩ := Option.map_eq_some_iff.mp ht
  have e : (u.services.map f).map (·.plan.number) = u.services.map (·.plan.number) := by
    rw [List.map_map]
    exact List.map_congr_left fun v hv => hf u v hu hv
  exact e ▸ h.1 u hu

theorem sound_mapServices (s : State) {f : Service → Service}
    (hf : ∀ t v, s.tts.current = some t → v ∈ t.services → (f v).plan.number = v.plan.number) :
    SoundStep s { s with tts.current := s.tts.current.map fun t => ⟨t.header, t.services.map f⟩ } :=
  .of_tables rfl rfl (numbersDistinct_mapServices hf)

theorem sound_changeEvent (old new : Service) (s : State) (c : ChangeCause) : SoundStep s (changeEvent old new s c) := by
  cases c
  case cancel =>
    unfold changeEvent
    dsimp only
    split
    · exact (sound_putAuto _ _ _ s).trans (sound_requestEach _ _)
    · exact sound_requestEach _ s
  case reinstate => exact (sound_keepMessages _ _ s).trans (sound_requestEach _ _)
  all_goals exact sound_requestEach _ s

theorem sound_changeEvents (s : State) (p : Service × Service) : SoundStep s (changeEvents s p) :=
  SoundStep.foldl (sound_changeEvent p.1 p.2) _ s

theorem sound_statusEvent (s : State) (p : Service × Service) : SoundStep s (statusEvent s p) := by
  unfold statusEvent
  split_ifs
  · split
    · split_ifs
      · exact sound_withdraw _ s
      · exact .refl s
    · exact .refl s
  · exact .refl s

theorem sound_approachStart (s : State) (p : Service × Service) : SoundStep s (approachStart s p) := by
  unfold approachStart
  split_ifs
  · exact (sound_activity s).trans (sound_internalEvent _ _ _)
  · exact .refl s

theorem sound_handOn (pairs : List (Service × Service)) (s : State) : SoundStep s (handOn pairs s) :=
  (sound_retarget s).trans ((SoundStep.foldl sound_approachStart _ _).trans
    ((SoundStep.foldl sound_statusEvent _ _).trans (SoundStep.foldl sound_changeEvents _ _)))

theorem sound_minuteEvaluation (now : Nat) (s : State) : SoundStep s (minuteEvaluation now s) := by
  unfold minuteEvaluation
  split
  next => exact .refl s
  next t ht =>
    have h := sound_mapServices s (f := evaluateService s.tts.grace s.tts.window now) fun _ v _ _ => by simp
    rw [ht] at h
    exact h.trans (sound_handOn _ _)

theorem sound_evaluateNow (s : State) : SoundStep s (evaluateNow s) := by
  unfold evaluateNow
  cases nowMinute s with
  | none => exact .refl s
  | some m => exact sound_minuteEvaluation m s

theorem sound_replaceService (v : Service) (s : State) : SoundStep s (replaceService v s) :=
  sound_mapServices s fun _ w _ _ => by
    split
    next h => exact h.symm
    next => rfl

theorem sound_offerSold (date : Date) (number quantity : Nat) (s : State) : SoundStep s (offerSold date number quantity s) := by
  have hs : ∀ (v : Service) (u : State), SoundStep u (soldEvent v u) := by
    intro v u
    unfold soldEvent
    split_ifs
    · exact (sound_putAuto _ _ _ u).trans (sound_requestEach _ _)
    · exact .refl u
  unfold offerSold
  split
  · exact .refl s
  · split_ifs
    · exact .refl s
    · split
      · exact .refl s
      · dsimp only
        split_ifs
        · exact (sound_replaceService _ s).trans (hs _ _)
        · exact sound_replaceService _ s

/-! ### The tables -/

theorem sound_placeCurrent {t : Option CurrentTable} {s : State}
    (h : NumbersDistinct s → NumbersDistinct { s with tts.current := t }) : SoundStep s (placeCurrent t s) :=
  (sound_tableEvent _).after ((sound_retarget _).after (.of_tables rfl rfl h))

theorem sound_placeCurrent_none (s : State) : SoundStep s (placeCurrent none s) :=
  sound_placeCurrent fun h => ⟨nofun, h.2⟩

/-- A promoted table has the numbers of the next table it was. -/
theorem sound_promote {t : NextTable} {s : State} (ht : s.tts.next = some t) : SoundStep s (promote t s) := by
  refine (sound_tableEvent _).after ((sound_retarget _).after (.of_tables rfl rfl fun h => ⟨fun u hu => ?_, nofun⟩))
  cases hu
  rw [List.map_map]
  exact h.2 t ht

theorem sound_emptyCurrent (s : State) : SoundStep s (emptyCurrent s) :=
  (sound_placeCurrent_none s).trans (sound_raiseNotice _ _)

theorem sound_dropNext (s : State) : SoundStep s { s with tts.next := none } :=
  .of_tables rfl rfl fun h => ⟨h.1, nofun⟩

theorem sound_rolloverTables (entered : Date) (s : State) : SoundStep s (rolloverTables entered s) := by
  unfold rolloverTables
  split
  next => exact sound_emptyCurrent s
  next t ht =>
    split_ifs
    · exact sound_emptyCurrent s
    · exact sound_promote ht
    · exact (sound_dropNext s).trans (sound_emptyCurrent _)
    · exact sound_emptyCurrent s

theorem sound_ttsRollover (entered : Date) (cause : RolloverCause) (s : State) :
    SoundStep s (ttsRollover entered cause s) := by
  unfold ttsRollover
  split_ifs
  · exact sound_tableEvent s
  · exact sound_rolloverTables entered s

theorem sound_ttsUnset (s : State) : SoundStep s (ttsUnset s) :=
  (sound_retarget _).after (sound_mapServices s (f := fun v => { v with approach := false }) fun _ _ _ _ => rfl)

/-- A record of a new number, inserted, keeps the numbers distinct. -/
theorem perm_insertRecord (p : Planned) (l : List Planned) : (insertRecord p l).Perm (p :: l) := by
  induction l with
  | nil => exact .refl _
  | cons q l ih =>
    unfold insertRecord
    split_ifs
    · exact (ih.cons q).trans (.swap p q l)
    · exact .refl _

theorem sound_tableAddRule (number : Nat) (d : Coded Direction) (minute platform : Nat) (calls : List Nat) (s : State) :
    SoundStep s (tableAddRule number d minute platform calls s).1 := by
  unfold tableAddRule
  split
  next => exact .refl s
  next t ht =>
    cases d with
    | other n => split_ifs <;> exact .refl s
    | named d =>
        split_ifs with _ _ _ hnew
        · exact .refl s
        · exact .refl s
        · exact .refl s
        · exact .refl s
        · exact .refl s
        · refine .of_tables rfl rfl fun h => ⟨h.1, fun u hu => ?_⟩
          cases hu
          rw [((perm_insertRecord _ _).map _).nodup_iff, List.map_cons, List.nodup_cons]
          refine ⟨?_, h.2 t ht⟩
          simpa using hnew

theorem sound_tableOpenRule (date : Date) (k : Coded DayType) (a b v : Nat) (s : State) :
    SoundStep s (tableOpenRule date k a b v s).1 := by
  unfold tableOpenRule
  split
  · exact .refl s
  · split_ifs
    · exact .refl s
    · refine .of_tables rfl rfl fun h => ⟨h.1, fun u hu => ?_⟩
      cases hu
      exact List.nodup_nil

theorem sound_tableCloseRule (s : State) : SoundStep s (tableCloseRule s).1 := by
  unfold tableCloseRule
  split
  next => exact .refl s
  next t ht =>
    refine .of_tables rfl rfl fun h => ⟨h.1, fun u hu => ?_⟩
    cases hu
    exact h.2 t ht

theorem sound_tablePromoteRule (version : Nat) (s : State) : SoundStep s (tablePromoteRule version s).1 := by
  unfold tablePromoteRule
  split
  next c t hc ht =>
    split_ifs
    · exact .refl s
    · exact .refl s
    · exact .refl s
    · exact (sound_promote ht).trans (sound_evaluateNow _)
  next => exact .refl s

theorem sound_serviceSettingsRule (g w m : Option Nat) (s : State) : SoundStep s (serviceSettingsRule g w m s).1 := by
  unfold serviceSettingsRule
  dsimp only
  have hs : ∀ g w m : Nat, SoundStep s { s with tts.grace := g, tts.window := w, tts.margin := m } :=
    fun _ _ _ => .of_tables rfl rfl id
  split_ifs
  · exact .refl s
  · exact hs _ _ _
  · exact (hs _ _ _).trans (sound_evaluateNow _)

theorem sound_runningRule (number stamp : Nat) (kind : Coded RunKind) (arg : Int) (s : State) :
    SoundStep s (runningRule number stamp kind arg s).1 := by
  unfold runningRule
  split
  · exact .refl s
  · split_ifs
    · exact .refl s
    · split
      · exact .refl s
      · split
        · exact .refl s
        · split_ifs
          · exact .refl s
          · exact .refl s
          · exact (sound_replaceService _ s).trans (sound_handOn _ _)

end Sys2Proof.Machine
end

section
/-! SUPPORT. The same for the panel line, the boards, the tariffs, the levels, the notices, the sales and the clock. -/

namespace Sys2Proof.Machine

/-! ### The panel line -/

theorem sound_setPanel (a : Addr) (p : PanelRecord) (s : State) : SoundStep s (setPanel a p s) := .of_same rfl rfl rfl

theorem sound_setLine (t : Option Transaction) (s : State) : SoundStep s (setLine t s) := .of_same rfl rfl rfl

theorem sound_endTransaction (s : State) : SoundStep s (endTransaction s) := (reacted_endTransaction s).sound

theorem sound_goOffline (a : Addr) (s : State) : SoundStep s (goOffline a s) :=
  (sound_raiseNotice _ _).after (sound_setPanel _ _ s)

theorem sound_goCold (a : Addr) (s : State) : SoundStep s (goCold a s) := (reacted_goCold a s).sound

theorem sound_failAttempt (silent : Bool) (t : Transaction) (s : State) : SoundStep s (failAttempt silent t s) := by
  unfold failAttempt
  dsimp only
  split
  · exact (sound_setLine _ _).after (sound_setPanel _ _ s)
  · split
    · exact (sound_endTransaction _).after ((sound_goOffline _ _).after (sound_setPanel _ _ s))
    · exact (sound_requestRefresh _ _ _).after ((sound_endTransaction _).after (sound_setPanel _ _ s))

theorem sound_probeAgain (silent : Bool) (t : Transaction) (r : Refresh) (left : Nat) (s : State) :
    SoundStep s (probeAgain silent t r left s) := by
  unfold probeAgain stuck
  split
  · exact sound_setLine _ s
  · exact (sound_failAttempt _ _ _).after (sound_setPanel _ _ s)

theorem sound_takeShow (t : Transaction) (r : Refresh) (s : State) : SoundStep s (takeShow t r s) := by
  unfold takeShow
  dsimp only
  refine (sound_setLine _ _).after ?_
  split
  · exact sound_setPanel _ _ s
  · exact .of_same rfl rfl rfl

theorem sound_takeDrawingState (t : Transaction) (r : Refresh) (left : Nat) (toggle busy : Bool) (s : State) :
    SoundStep s (takeDrawingState t r left toggle busy s) := by
  unfold takeDrawingState
  dsimp only
  split
  · exact sound_probeAgain _ _ _ _ s
  · split
    · exact (sound_endTransaction _).after (sound_setPanel _ _ s)
    · exact (sound_failAttempt _ _ _).after (sound_setPanel _ _ s)

theorem sound_resynchronise (a : Addr) (toggle : Bool) (t : Int) (s : State) : SoundStep s (resynchronise a toggle t s) := by
  have hready : ∀ (p : PanelRecord) (u : State), SoundStep u
      (if -15 ≤ t then requestRefresh false (endTransaction (setPanel a p u)) a else goCold a (endTransaction (setPanel a p u))) := by
    intro p u
    have h := (sound_endTransaction _).after (sound_setPanel a p u)
    split
    · exact (sound_requestRefresh _ _ _).after h
    · exact (sound_goCold _ _).after h
  unfold resynchronise
  dsimp only
  split
  · exact (sound_raiseNotice _ _).after (hready _ s)
  · exact hready _ s

theorem sound_takeProbeState (a : Addr) (toggle : Bool) (t : Int) (s : State) :
    SoundStep s (takeProbeState a toggle t s) := by
  unfold takeProbeState
  split
  · exact sound_resynchronise a toggle t s
  · exact sound_resynchronise a toggle t s
  · unfold takeColdState
    dsimp only
    split
    · exact (sound_requestRefresh _ _ _).after ((sound_endTransaction _).after (sound_setPanel _ _ s))
    · exact (sound_endTransaction _).after (sound_setPanel _ _ s)
  · exact sound_endTransaction s

theorem sound_applyAnswer (t : Transaction) (answer : PanelAnswer) (s : State) : SoundStep s (applyAnswer t answer s) := by
  unfold applyAnswer
  split
  · exact sound_setLine _ s
  · exact sound_takeShow _ _ s
  · exact (sound_raiseNotice _ _).after ((sound_endTransaction _).after (sound_setPanel _ _ s))
  · exact sound_failAttempt _ _ s
  · exact sound_takeDrawingState _ _ _ _ _ s
  · exact sound_takeProbeState _ _ _ s
  · exact .refl s

theorem sound_takeAnswer (t : Transaction) (answer : PanelAnswer) (s : State) : SoundStep s (takeAnswer t answer s) := by
  unfold takeAnswer
  split
  · exact sound_endTransaction s
  · exact (sound_applyAnswer _ _ _).after (sound_setPanel _ _ s)

theorem sound_probeSilent (a : Addr) (s : State) : SoundStep s (probeSilent a s) :=
  (sound_endTransaction _).after (sound_setPanel _ _ s)

theorem sound_refreshSilent (t : Transaction) (r : Refresh) (s : State) : SoundStep s (refreshSilent t r s) := by
  unfold refreshSilent
  split
  · exact sound_probeAgain _ _ _ _ s
  · exact sound_failAttempt _ _ s

theorem sound_takeSilence (t : Transaction) (s : State) : SoundStep s (takeSilence t s) := by
  unfold takeSilence
  dsimp only
  split
  · exact sound_endTransaction s
  · split
    · exact (sound_endTransaction _).after ((sound_goOffline _ _).after (sound_setPanel _ _ s))
    · split
      · exact (sound_probeSilent _ _).after (sound_setPanel _ _ s)
      · exact (sound_refreshSilent _ _ _).after (sound_setPanel _ _ s)

theorem sound_replyWait (s : State) : SoundStep s (replyWait s) := by
  unfold replyWait
  split
  · split
    · exact sound_takeSilence _ s
    · exact .refl s
  · exact .refl s

theorem sound_panelReplied (source : Addr) (ok : Bool) (answer : PanelAnswer) (s : State) :
    SoundStep s (panelReplied source ok answer s) := by
  unfold panelReplied
  split
  · split
    · exact .refl s
    · split
      · exact sound_takeAnswer _ _ s
      · exact sound_takeSilence _ s
  · exact .refl s

theorem sound_drawingExpiry (s : State) : SoundStep s (drawingExpiry s) := by
  unfold drawingExpiry
  split
  · exact sound_setLine _ s
  · exact .refl s

theorem sound_intervalExpiry (s : State) : SoundStep s (intervalExpiry s) := by
  unfold intervalExpiry
  split
  · exact sound_setLine _ s
  · exact .refl s

theorem sound_retryExpiry (s : State) : SoundStep s (retryExpiry s) := by
  unfold retryExpiry
  split
  · exact sound_setLine _ s
  · exact .refl s

theorem sound_firstFrame (t : Transaction) (s : State) : SoundStep s (firstFrame t s) := by
  unfold firstFrame
  split
  · exact sound_setLine _ s
  · exact sound_setLine _ s

theorem sound_railSettled (s : State) : SoundStep s (railSettled s) := by
  have h : SoundStep s { s with plc.rail := .on } := .of_same rfl rfl rfl
  unfold railSettled
  split
  · split
    · dsimp only
      split
      · exact (sound_firstFrame _ _).after h
      · exact h
    · exact h
  · exact .refl s

theorem sound_railIdleExpiry (s : State) : SoundStep s (railIdleExpiry s) := by
  unfold railIdleExpiry
  split
  · exact .of_same rfl rfl rfl
  · exact .refl s

theorem sound_probeTimerExpiry (link : LinkState) (a : Addr) (s : State) : SoundStep s (probeTimerExpiry link a s) := by
  unfold probeTimerExpiry
  dsimp only
  split
  · exact sound_setPanel _ _ s
  · exact .refl s

theorem sound_discardTransaction (a : Addr) (s : State) : SoundStep s (discardTransaction a s) := by
  unfold discardTransaction
  split
  · split
    · exact .refl s
    · split
      · exact sound_setLine _ s
      · exact sound_endTransaction s
  · exact .refl s

theorem sound_panelAbsent (a : Addr) (s : State) : SoundStep s (panelAbsent a s) :=
  (sound_discardTransaction _ _).after (sound_setPanel _ _ s)

theorem sound_panelResetRule (n : Nat) (s : State) : SoundStep s (panelResetRule n s).1 := by
  unfold panelResetRule
  split
  · exact .refl s
  · dsimp only
    split
    · exact .refl s
    · split
      · exact .refl s
      · exact sound_setPanel _ _ s

/-! ### The boards -/

theorem sound_changeProfile (a : Addr) (p : Profile) (s : State) : SoundStep s (changeProfile a p s) := by
  unfold changeProfile
  dsimp only
  split
  · exact (sound_panelAbsent _ _).after (.of_same rfl rfl rfl)
  · exact (sound_requestRefresh _ _ _).after ((sound_setPanel _ _ _).after (.of_same rfl rfl rfl))
  · split
    · exact .of_same rfl rfl rfl
    · exact (sound_requestRefresh _ _ _).after (.of_same rfl rfl rfl)
  · exact .of_same rfl rfl rfl

theorem sound_panelProfileRule (n : Nat) (presence : Option (Coded Bool)) (k : Option (Coded PanelKind)) (r : Option Nat)
    (f : Option (Coded DirFilter)) (th : Option Nat) (s : State) :
    SoundStep s (panelProfileRule n presence k r f th s).1 := by
  unfold panelProfileRule
  split
  · exact .refl s
  · split
    · exact .refl s
    · exact sound_changeProfile _ _ s

theorem sound_addHost (id : Nat) (p : MsgPriority) (lines : List Text) (expiry : Option Nat) (kept : List HostEntry)
    (s : State) : SoundStep s (addHost id p lines expiry kept s) :=
  (reacted_requestKind _ _ _).sound.after (.of_same rfl rfl rfl)

theorem sound_boardTextRule (id : Nat) (p : Coded MsgPriority) (lines : List Text) (expiry : Option Nat) (s : State) :
    SoundStep s (boardTextRule id p lines expiry s).1 := by
  unfold boardTextRule
  split
  · exact .refl s
  · split
    · exact .refl s
    · split
      · exact .refl s
      · unfold placeHost
        dsimp only
        split
        · exact sound_addHost _ _ _ _ _ s
        · split
          · exact sound_addHost _ _ _ _ _ s
          · split
            · exact .refl s
            · exact sound_addHost _ _ _ _ _ s

theorem sound_boardTextDropRule (id : Option Nat) (s : State) : SoundStep s (boardTextDropRule id s).1 := by
  unfold boardTextDropRule
  dsimp only
  split
  · exact .refl s
  · exact sound_removeHost _ s

theorem sound_boardRefreshRule (n : Option Nat) (u : Coded Bool) (s : State) : SoundStep s (boardRefreshRule n u s).1 := by
  unfold boardRefreshRule
  split
  · exact .refl s
  · exact (reacted_requestAll _ s).sound
  · split
    · exact .refl s
    · split
      · exact sound_requestRefresh _ s _
      · exact .refl s

theorem sound_accrualExpiry (s : State) : SoundStep s (accrualExpiry s) := by
  unfold accrualExpiry
  split
  · exact .of_same rfl rfl rfl
  · exact .refl s

theorem sound_rotationExpiry (s : State) : SoundStep s (rotationExpiry s) := by
  unfold rotationExpiry
  split
  · exact (reacted_requestKind _ _ _).sound.after ((reacted_restartRotation _).sound.after (.of_same rfl rfl rfl))
  · exact .refl s

/-! ### The tariffs -/

theorem sound_namesEvent (s : State) : SoundStep s (namesEvent s) := sound_requestEach _ s

theorem sound_activate (t : Tariff) (s : State) : SoundStep s (activate t s) :=
  (sound_namesEvent _).after ((sound_decideSales _).after ((sound_withdraw _ _).after (.of_same rfl rfl rfl)))

theorem sound_tfeRollover (entered : Date) (s : State) : SoundStep s (tfeRollover entered s) := by
  unfold tfeRollover
  cases tariffDue entered s with
  | none => exact .refl s
  | some t => exact sound_activate t s

theorem sound_tariffOpenRule (v : Nat) (date : Date) (s : State) : SoundStep s (tariffOpenRule v date s).1 := by
  unfold tariffOpenRule
  split
  · exact .refl s
  · exact .of_same rfl rfl rfl

theorem sound_tariffStationRule (code : Nat) (name : Text) (distance : Nat) (side : Coded Direction) (s : State) :
    SoundStep s (tariffStationRule code name distance side s).1 := by
  unfold tariffStationRule
  split
  · exact .refl s
  · split
    · exact .refl s
    · cases side with
      | other n => split_ifs <;> exact .refl s
      | named d =>
        dsimp only
        split
        · exact .refl s
        · split
          · exact .refl s
          · split
            · exact .refl s
            · exact .of_same rfl rfl rfl

theorem sound_tariffRulesRule (r : Rules) (s : State) : SoundStep s (tariffRulesRule r s).1 := by
  unfold tariffRulesRule
  split
  · exact .refl s
  · split
    · exact .refl s
    · split
      · exact .refl s
      · exact .of_same rfl rfl rfl

theorem sound_tariffCloseRule (s : State) : SoundStep s (tariffCloseRule s).1 := by
  unfold tariffCloseRule
  split
  · exact .refl s
  · split
    · exact .refl s
    · split
      · exact .refl s
      · split
        · exact sound_activate _ s
        · exact .of_same rfl rfl rfl

/-! ### The levels -/

theorem sound_endBrief (s : State) : SoundStep s (endBrief s) := (reacted_endBrief s).sound

theorem sound_judgeBriefStart (s : State) : SoundStep s (judgeBriefStart s) := (reacted_judgeBriefStart s).sound

theorem sound_setBattery (l : Option Level) (s : State) : SoundStep s (setBattery l s) := by
  unfold setBattery
  dsimp only
  split
  · exact .refl s
  · have h := (sound_raiseNotice .limitChanged { s with enm.battery := l }).after (s := s) (.of_same rfl rfl rfl)
    split
    · split
      · exact h.trans (sound_endBrief _)
      · exact h.trans (sound_retarget _)
    · split
      · exact h.trans ((sound_retarget _).trans (sound_judgeBriefStart _))
      · exact h.trans (sound_retarget _)

theorem sound_setQuiet (l : Option Level) (s : State) : SoundStep s (setQuiet l s) := by
  unfold setQuiet
  split
  · exact .refl s
  · exact (sound_retarget _).after ((sound_raiseNotice _ _).after (.of_same rfl rfl rfl))

theorem sound_setHost (l : Option Level) (s : State) : SoundStep s (setHost l s) := by
  unfold setHost
  split
  · exact .refl s
  · exact (sound_retarget _).after ((sound_raiseNotice _ _).after (.of_same rfl rfl rfl))

theorem sound_quietOnMinute (s : State) : SoundStep s (quietOnMinute s) := by
  unfold quietOnMinute
  dsimp only
  split
  · exact (sound_internalEvent _ _ _).after (sound_setQuiet _ s)
  · exact sound_setQuiet _ s

theorem sound_followCeiling (s : State) : SoundStep s (followCeiling s) := by
  unfold followCeiling
  dsimp only
  split
  · exact .refl s
  · exact (sound_restartDemandTimer _).after (.of_same rfl rfl rfl)

theorem sound_recomputeCeiling (s : State) : SoundStep s (recomputeCeiling s) :=
  (sound_retarget _).after (sound_followCeiling s)

theorem sound_staleExpiry (s : State) : SoundStep s (staleExpiry s) := by
  unfold staleExpiry
  split
  · exact .refl s
  · exact (sound_setBattery _ _).after ((sound_raiseNotice _ _).after (.of_same rfl rfl rfl))

theorem sound_raiseSettled (s : State) : SoundStep s (raiseSettled s) := by
  unfold raiseSettled
  split
  · exact (reacted_completeAt _ s).sound
  · exact .refl s

theorem sound_demandExpiry (s : State) : SoundStep s (demandExpiry s) := by
  unfold demandExpiry
  split
  · exact (sound_retarget _).after (.of_same rfl rfl rfl)
  · exact .refl s

theorem sound_returnExpiry (s : State) : SoundStep s (returnExpiry s) := by
  unfold returnExpiry
  split
  · exact .of_same rfl rfl rfl
  · exact .refl s

theorem sound_takeLoadSettings (s : State) : SoundStep s (takeLoadSettings s) := (reacted_takeLoadSettings s).sound

theorem sound_applyEntry (l : Level) (e : LevelEntry) (s : State) : SoundStep s (applyEntry l e s) := by
  have hdraw : ∀ u : State, SoundStep u (if e.draw ≠ (levelEntry s l).draw ∧ drawLevel u = l then
      { u with enm.draw := e.draw } else u) := fun u => by
    split
    · exact .of_same rfl rfl rfl
    · exact .refl u
  have htimer : ∀ u : State, SoundStep u (if e.timeout ≠ (levelEntry s l).timeout ∧ u.awu.demand = l then
      restartDemandTimer u else u) := fun u => by
    split
    · exact sound_restartDemandTimer u
    · exact .refl u
  have hload : ∀ u : State, SoundStep u (if l = u.enm.present then takeLoadSettings u else u) := fun u => by
    split
    · exact sound_takeLoadSettings u
    · exact .refl u
  have h := (hload _).after ((htimer _).after ((hdraw { s with enm.table := s.enm.table.set l e }).after (s := s) (.of_same rfl rfl rfl)))
  unfold applyEntry
  dsimp only at h ⊢
  split
  · exact (sound_recomputeCeiling _).after h
  · exact h

theorem sound_levelTableRule (sel : Coded Level) (a b c d e f : Option Nat) (s : State) :
    SoundStep s (levelTableRule sel a b c d e f s).1 := by
  unfold levelTableRule
  split
  · exact .refl s
  · split
    · exact .refl s
    · split
      · exact .refl s
      · exact sound_applyEntry _ _ s

theorem sound_levelCeilingRule (v : Option Nat) (s : State) : SoundStep s (levelCeilingRule v s).1 := by
  unfold levelCeilingRule
  split
  · exact .refl s
  · split
    · exact .refl s
    · exact (sound_recomputeCeiling _).after (.of_same rfl rfl rfl)

theorem sound_storeHost (l : Option Level) (s : State) : SoundStep s (storeHost l s).1 :=
  (sound_settle _).after (sound_setHost l s)

theorem sound_levelLimitRule (v : LimitField) (s : State) : SoundStep s (levelLimitRule v s).1 := by
  unfold levelLimitRule
  split
  · exact .refl s
  · exact sound_storeHost _ s
  · split
    · exact .refl s
    · exact sound_storeHost _ s
  · exact .refl s

theorem sound_supplyCapacityRule (v : Option Nat) (s : State) : SoundStep s (supplyCapacityRule v s).1 := by
  unfold supplyCapacityRule
  split
  · exact .refl s
  · split
    · exact .refl s
    · exact (sound_recomputeCeiling _).after (.of_same rfl rfl rfl)

theorem sound_takeCharge (c : Nat) (s : State) : SoundStep s (takeCharge c s) := by
  unfold takeCharge
  dsimp only
  refine (sound_setBattery _ _).after ?_
  split
  · exact (sound_raiseNotice _ _).after (.of_same rfl rfl rfl)
  · exact .of_same rfl rfl rfl

theorem sound_supplyReportRule (c : Int) (s : State) : SoundStep s (supplyReportRule c s).1 :=
  (sound_settle _).after (sound_takeCharge _ s)

theorem sound_energySettingsRule (a b c d : Option Nat) (s : State) : SoundStep s (energySettingsRule a b c d s).1 := by
  unfold energySettingsRule
  dsimp only
  split
  · exact .refl s
  · split
    · exact (sound_setQuiet _ _).after (.of_same rfl rfl rfl)
    · exact .of_same rfl rfl rfl

/-! ### The notices -/

theorem clearedNotices_config (l : List Notice) : (clearedNotices l).map Notice.config = l.map Notice.config := by
  rw [clearedNotices, List.map_map]
  exact List.map_congr_left fun n _ => rfl

theorem sound_noticeReadRule (s : State) : SoundStep s (noticeReadRule s).1 := by
  refine .of_same rfl rfl ?_
  show (s.hlk.notices.map _).map Notice.config = _
  rw [List.map_map]
  refine List.map_congr_left fun n _ => ?_
  dsimp only [Function.comp]
  split <;> rfl

theorem sound_clearNotice (s : State) (n : Nat) : SoundStep s (clearNotice s n) := by
  refine .of_same rfl rfl (List.ext_getElem (by simp [clearNotice]) fun i h1 h2 => ?_)
  simp only [clearNotice, List.getElem_map, List.getElem_modify]
  split <;> rfl

theorem sound_noticeClearRule (l : List Nat) (s : State) : SoundStep s (noticeClearRule l s).1 := by
  unfold noticeClearRule
  dsimp only
  split
  · exact .refl s
  · have h := SoundStep.foldl sound_clearNotice
      (((List.range sourceCount).filter fun n => l.contains n).filter (clears s)) s
    split
    · exact (sound_raiseNotice _ _).after h
    · exact h

/-- A configuration stored for a source but SUPPLY-CRITICAL leaves that one as it is (R184). -/
theorem sound_storeNotice {f : NoticeField} (hf : 1 ≤ f.source) (s : State) : SoundStep s (storeNotice s f) := by
  refine ⟨id, fun h => ⟨?_, ?_⟩, id⟩
  · simpa [storeNotice] using h.1
  · have hne : f.source ≠ 0 := by omega
    simpa [storeNotice, noticeAt, List.getD_eq_getElem?_getD, List.getElem?_modify, hne] using h.2

theorem sound_storeNotices {l : List NoticeField} (hl : ∀ f ∈ l, 1 ≤ f.source) (s : State) :
    SoundStep s (l.foldl storeNotice s) := by
  induction l generalizing s with
  | nil => exact .refl s
  | cons f l ih =>
    exact (sound_storeNotice (hl f List.mem_cons_self) s).trans (ih (fun g hg => hl g (List.mem_cons_of_mem f hg)) _)

theorem sound_storeDoorSense (d : DoorSense) (s : State) : SoundStep s (storeDoorSense d s) := by
  unfold storeDoorSense
  dsimp only
  split
  · exact (sound_raiseNotice _ _).after (.of_same rfl rfl rfl)
  · exact .of_same rfl rfl rfl

theorem sound_noticeConfigRule (l : List NoticeField) (d : Option (Coded DoorSense)) (s : State) :
    SoundStep s (noticeConfigRule l d s).1 := by
  unfold noticeConfigRule
  dsimp only
  split
  next => exact .refl s
  next h =>
    have hl : ∀ f ∈ l, 1 ≤ f.source := by
      intro f hf
      simp only [noticesInRange, within, Bool.not_eq_true', Bool.not_eq_false, Bool.and_eq_true, List.all_eq_true,
        decide_eq_true_eq] at h
      exact (h.1 f hf).1.1
    exact (sound_storeDoorSense _ _).after (sound_storeNotices hl s)

/-! ### The sales and the journal -/

theorem sound_putSlot (slot : Slot) (s : State) : SoundStep s (putSlot slot s) := by
  unfold putSlot
  split <;> exact .of_same rfl rfl rfl

theorem sound_evaluateLow (s : State) : SoundStep s (evaluateLow s) := by
  unfold evaluateLow
  split
  · exact (sound_raiseNotice _ _).after (.of_same rfl rfl rfl)
  · split
    · exact .of_same rfl rfl rfl
    · exact .refl s

theorem sound_evaluateFull (s : State) : SoundStep s (evaluateFull s) := by
  unfold evaluateFull
  split
  · exact (sound_raiseNotice _ _).after (.of_same rfl rfl rfl)
  · split
    · exact .of_same rfl rfl rfl
    · exact .refl s

theorem sound_evaluateThresholds (s : State) : SoundStep s (evaluateThresholds s) :=
  (sound_evaluateFull _).after (sound_evaluateLow s)

theorem sound_append (r : JRecord) (s : State) : SoundStep s (append r s) := .of_same rfl rfl rfl

theorem sound_reportFree (s : State) : SoundStep s (reportFree s) :=
  (sound_decideSales _).after (sound_evaluateThresholds s)

theorem sound_journalSettingsRule (low : Option Nat) (s : State) : SoundStep s (journalSettingsRule low s).1 := by
  unfold journalSettingsRule
  split
  · exact .refl s
  · dsimp only
    split
    · exact .refl s
    · exact (sound_evaluateThresholds _).after (.of_same rfl rfl rfl)

theorem sound_journalReadRule (a b : Nat) (s : State) : SoundStep s (journalReadRule a b s).1 := by
  unfold journalReadRule
  dsimp only
  split
  · exact .refl s
  · split
    · exact .refl s
    · exact .of_same rfl rfl rfl

theorem sound_journalReleaseRule (n : Nat) (s : State) : SoundStep s (journalReleaseRule n s).1 := by
  unfold journalReleaseRule
  dsimp only
  split
  · exact .refl s
  · split
    · exact .refl s
    · split
      · exact .refl s
      · split
        · exact .refl s
        · exact (sound_reportFree _).after (.of_same rfl rfl rfl)

theorem sound_conclude (x : Sale) (k : RecordKind) (s : State) : SoundStep s (conclude x k s) := by
  unfold conclude
  dsimp only
  refine (sound_putSlot _ _).after ?_
  split
  · split
    · exact (sound_offerSold _ _ _ _).after (sound_append _ s)
    · exact sound_append _ s
  · exact sound_append _ s

theorem sound_saleSettingsRule (k : Option (List (Coded Payment))) (t : Option (List (Coded TicketType))) (s : State) :
    SoundStep s (saleSettingsRule k t s).1 := by
  unfold saleSettingsRule
  split
  · exact .of_same rfl rfl rfl
  · exact .refl s

theorem sound_quoteFrom (t : Tariff) (code : Nat) (k : TicketType) (cls q : Nat) (sel : ServiceSel) (n : Option Nat)
    (s : State) : SoundStep s (quoteFrom t code k cls q sel n s).1 := by
  have h : ∀ v : Option Service, SoundStep s (quoteBound t code k cls q v s).1 := by
    intro v
    unfold quoteBound
    dsimp only
    split
    · exact .refl s
    · exact .refl s
    · exact sound_putSlot _ s
  unfold quoteFrom
  split
  · exact .refl s
  · split
    · exact .refl s
    · split
      · exact .refl s
      · exact .refl s
      · exact h none
      · exact h _

theorem sound_saleQuoteRule (code : Nat) (k : Coded TicketType) (cls q : Nat) (sel : Coded ServiceSel) (n : Option Nat)
    (s : State) : SoundStep s (saleQuoteRule code k cls q sel n s).1 := by
  unfold saleQuoteRule
  split
  · split
    · exact .refl s
    · split
      · exact .refl s
      · split
        · exact .refl s
        · split
          · exact .refl s
          · split
            · exact .refl s
            · split
              · exact .refl s
              · exact sound_quoteFrom _ _ _ _ _ _ _ s
  · exact .refl s

theorem sound_commit (q : Quote) (date : Date) (p : Payment) (r : Option Text) (s : State) :
    SoundStep s (commit q date p r s).1 :=
  (sound_reportFree _).after ((sound_putSlot _ _).after (.of_same rfl rfl rfl))

theorem sound_saleCommitRule (p : Coded Payment) (r : Option Text) (s : State) :
    SoundStep s (saleCommitRule p r s).1 := by
  unfold saleCommitRule
  split
  · exact .refl s
  · split
    · exact .refl s
    · split
      · split
        · exact .refl s
        · split
          · exact .refl s
          · split
            · exact .refl s
            · split
              · exact .refl s
              · split
                · exact sound_withdraw _ s
                · exact sound_commit _ _ _ _ s
      · exact .refl s

theorem sound_salePrintedRule (n : Nat) (o : Coded PrintOutcome) (s : State) : SoundStep s (salePrintedRule n o s).1 := by
  unfold salePrintedRule
  split
  · exact .refl s
  · split
    · exact .refl s
    · split
      · split
        · exact sound_conclude _ _ s
        · exact .refl s
      · exact .refl s

theorem sound_saleCancelRule (s : State) : SoundStep s (saleCancelRule s).1 := by
  unfold saleCancelRule
  split
  · exact .refl s
  · exact sound_putSlot _ s

theorem sound_salesCloseRule (s : State) : SoundStep s (salesCloseRule s).1 :=
  (sound_withdraw _ _).after ((sound_decideSales _).after (.of_same rfl rfl rfl))

theorem sound_salesOpenRule (s : State) : SoundStep s (salesOpenRule s).1 :=
  (sound_decideSales _).after (.of_same rfl rfl rfl)

theorem sound_saleRule {rule : State → State × Answer} (h : ∀ s, SoundStep s (rule s).1) (s : State) :
    SoundStep s (saleRule rule s).1 :=
  (h _).after ((sound_settle _).after (sound_activity s))

theorem sound_printExpiry (s : State) : SoundStep s (printExpiry s) := by
  unfold printExpiry
  split
  · exact (sound_raiseNotice _ _).after (sound_conclude _ _ s)
  · exact .refl s

/-! ### The wake unit's requests -/

theorem sound_wakeConfigRule (f : WakeFields) (s : State) : SoundStep s (wakeConfigRule f s).1 := by
  unfold wakeConfigRule
  dsimp only
  split
  · exact .refl s
  · exact .of_same rfl rfl rfl

/-! ### The clock -/

theorem sound_minuteEvent (e : MinuteEvent) (s : State) : SoundStep s (minuteEvent e s) :=
  (sound_quietOnMinute _).after ((reacted_setLamp _).sound.after ((sound_removeHost _ _).after
    (sound_minuteEvaluation _ s)))

theorem sound_slotAndTariff (entered : Date) (s : State) : SoundStep s (slotAndTariff entered s) := by
  unfold slotAndTariff
  dsimp only
  split
  · have h : SoundStep s { s with free := s.free + 1 } := .of_same rfl rfl rfl
    split
    · exact (sound_tfeRollover _ _).after ((sound_withdraw _ _).after h)
    · exact (sound_withdraw _ _).after ((sound_tfeRollover _ _).after h)
  · exact (sound_withdraw _ _).after (sound_tfeRollover _ s)

theorem sound_recordDay (e : RolloverEvent) (t : Option Tariff) (s : State) : SoundStep s (recordDay e t s) :=
  (sound_raiseNotice _ _).after (.of_same rfl rfl rfl)

theorem sound_rolloverEvent (e : RolloverEvent) (s : State) : SoundStep s (rolloverEvent e s) :=
  (sound_recordDay _ _ _).after ((sound_internalEvent _ _ _).after
    ((sound_boardsRollover _).after ((sound_slotAndTariff _ _).after (sound_ttsRollover _ _ s))))

theorem sound_enterDate (c : ClockSetting) (left : Option Date) (day : RolloverCause) (m : MinuteCause) (s : State) :
    SoundStep s (enterDate c left day m s) :=
  (sound_minuteEvent _ _).after (sound_rolloverEvent _ s)

/-- A clock placed at a position of the span keeps the clock in range. -/
theorem sound_placeClock {c : ClockSetting} {s : State}
    (h : ClockInRange s → inSpan c.date = true ∧ c.tod ≤ 86399) : SoundStep s (placeClock c s) :=
  ⟨fun k d hd => by cases hd; exact h k, noticesWhole_of_config rfl, numbersDistinct_of_eq rfl⟩

theorem sound_unsetClock (s : State) : SoundStep s (unsetClock s) :=
  (sound_setQuiet _ _).after ((reacted_setLamp _).sound.after ((sound_decideSales _).after ((sound_ttsUnset _).after
    ⟨fun _ => nofun, noticesWhole_of_config rfl, numbersDistinct_of_eq rfl⟩)))

theorem sound_clockTick {c : ClockSetting} {s : State} (hc : s.clock = some c) : SoundStep s (clockTick c s) := by
  unfold clockTick
  dsimp only
  split
  next ht =>
    have h : SoundStep s (placeClock { c with tod := c.tod + 1, phase := 0 } s) :=
      sound_placeClock fun k => ⟨(k c hc).1, by dsimp only; omega⟩
    split
    · exact (sound_minuteEvent _ _).after h
    · exact h
  next =>
    split
    next hl => exact (sound_enterDate _ _ _ _ _).after (sound_placeClock fun k => ⟨inSpan_nextDate (k c hc).1 hl, by simp⟩)
    next => exact sound_unsetClock s

theorem sound_clockSecondEvent (s : State) : SoundStep s (clockSecondEvent s) := by
  unfold clockSecondEvent
  cases hc : s.clock with
  | none => exact .refl s
  | some c => exact sound_clockTick hc

theorem sound_clockSetRule (y mo d h mi sec : Nat) (s : State) : SoundStep s (clockSetRule y mo d h mi sec s).1 := by
  unfold clockSetRule
  dsimp only
  split
  next => exact .refl s
  next hr =>
    simp only [Bool.or_eq_true, Bool.not_eq_true', not_or, Bool.not_eq_false] at hr
    obtain ⟨hfields, hspan⟩ := hr
    have hsec : 3600 * h + 60 * mi + sec < 86400 := by
      simp only [clockFieldsInRange, Bool.and_eq_true, decide_eq_true_eq] at hfields
      omega
    have htod := clockPosition_tod_lt ⟨y, mo, d⟩ hsec
    generalize clockPosition ⟨y, mo, d⟩ (3600 * h + 60 * mi + sec) = p at hspan htod ⊢
    have hplace : ∀ last, SoundStep s (placeClock ⟨p.1, p.2, 0, last⟩ s) := fun last =>
      sound_placeClock fun _ => ⟨hspan, by dsimp only; omega⟩
    split
    · exact (sound_enterDate _ _ _ _ _).after ((sound_decideSales _).after ((reacted_setLamp _).sound.after (hplace _)))
    · unfold stepClock
      dsimp only
      split
      · exact .refl s
      · split
        · exact .refl s
        · split
          · exact (sound_minuteEvent _ _).after (hplace _)
          · exact (sound_enterDate _ _ _ _ _).after (hplace _)

end Sys2Proof.Machine
end

section
/-! SUPPORT. The same for restarts, for the requests and frames of the host line, and for the step. -/

namespace Sys2Proof.Machine

/-! ### Restarts -/

theorem sound_unsetAndRestart {s t : State} (hc : t.clock = none)
    (ht : t.tts = { s.tts with current := s.tts.current.map fun x => ⟨x.header, x.services.map restartService⟩ })
    (hn : t.hlk.notices = clearedNotices s.hlk.notices) : SoundStep s t := by
  refine ⟨fun _ c h => ?_, noticesWhole_of_config (hn ▸ clearedNotices_config _), fun h => ?_⟩
  · rw [hc] at h
    cases h
  · exact numbersDistinct_of_eq ht (numbersDistinct_mapServices (f := restartService) (fun _ _ _ _ => rfl) h)

theorem sound_convertSale (s : State) : SoundStep s (convertSale s) := by
  unfold convertSale
  split
  next x left _ =>
    refine (sound_raiseNotice _ _).after ?_
    cases x.quote.bound with
    | none => exact (sound_append _ _).after (.of_same rfl rfl rfl)
    | some b => exact (sound_offerSold _ _ _ _).after ((sound_append _ _).after (.of_same rfl rfl rfl))
  next => exact .refl s

theorem sound_reportTimetable (s : State) : SoundStep s (reportTimetable s) := by
  unfold reportTimetable
  split
  · exact sound_raiseNotice _ s
  · exact .refl s

theorem sound_startDemand (s : State) : SoundStep s (startDemand s) := .of_same rfl rfl rfl

theorem sound_startBoards (s : State) : SoundStep s (startBoards s) := .of_same rfl rfl rfl

theorem sound_bringUp (s : State) : SoundStep s (bringUp s) :=
  (sound_settle _).after ((sound_retarget _).after ((sound_startBoards _).after ((sound_startDemand _).after
    ((sound_raiseNotice _ _).after ((sound_reportTimetable _).after ((sound_evaluateThresholds _).after
      (sound_convertSale s)))))))

theorem sound_restartPart (s : State) : SoundStep s (restartPart s) :=
  (sound_bringUp _).after (sound_unsetAndRestart rfl rfl rfl)

theorem sound_restartAt (strap : Bool) (s : State) : SoundStep s (restartAt strap s) :=
  (sound_restartPart _).after (.of_same rfl rfl rfl)

theorem sound_restartAsked (s : State) : SoundStep s (restartAsked s) :=
  (sound_restartAt _ _).after (.of_same rfl rfl rfl)

theorem sound_powerUp (strap : Bool) (s : State) : SoundStep s (powerUp strap s) := by
  unfold powerUp
  split
  · exact .refl s
  · exact .of_same rfl rfl rfl
  · exact sound_restartAt strap s
  · exact sound_restartAt strap s

theorem sound_powerDown (s : State) : SoundStep s (powerDown s) := sound_unsetAndRestart rfl rfl rfl

theorem sound_holdPart (s : State) : SoundStep s (holdPart s) := by
  unfold holdPart
  split
  · exact .of_same rfl rfl (clearedNotices_config _)
  · exact .of_same rfl rfl rfl
  · exact .refl s
  · exact .refl s

theorem sound_releasePart (strap : Bool) (s : State) : SoundStep s (releasePart strap s) := by
  unfold releasePart
  split
  · exact sound_restartAt strap s
  · exact .of_same rfl rfl rfl
  · exact .refl s
  · exact .refl s

theorem sound_clearTables (s : State) : SoundStep s (clearTables s) :=
  (sound_placeCurrent_none _).after (.of_tables rfl rfl fun _ => ⟨nofun, nofun⟩)

theorem sound_clearSales (s : State) : SoundStep s (clearSales s) := (sound_decideSales _).after (.of_same rfl rfl rfl)

theorem sound_clearProfiles (s : State) : SoundStep s (clearProfiles s) :=
  SoundStep.foldl (fun s a => sound_changeProfile a defaultProfile s) allPanels s

theorem sound_clearEnergy (s : State) : SoundStep s (clearEnergy s) := by
  have h := (sound_followCeiling (defaultEnergy s)).after (s := s) (.of_same rfl rfl rfl)
  unfold clearEnergy
  dsimp only
  generalize followCeiling (defaultEnergy s) = u at h ⊢
  have hl := (sound_takeLoadSettings { u with enm.quietLimit := quietNow u }).after (h.trans (.of_same rfl rfl rfl))
  refine (sound_retarget _).after ?_
  split
  · exact hl
  · exact (sound_raiseNotice _ _).after hl

theorem sound_clearWakes (s : State) : SoundStep s (clearWakes s) := .of_same rfl rfl rfl

/-- The default configuration has sixteen sources, SUPPLY-CRITICAL among them enabled and HIGH (Table 11-4). -/
theorem sound_clearNotices (s : State) : SoundStep s (clearNotices s) := by
  refine ⟨id, fun h => ⟨?_, ?_⟩, id⟩
  · have hl : s.hlk.notices.length = 16 := h.1
    show (List.zipWith _ s.hlk.notices defaultNotices).length = 16
    rw [List.length_zipWith, hl]
    rfl
  · cases hn : s.hlk.notices with
    | nil =>
      have hl := h.1
      rw [hn] at hl
      cases hl
    | cons n l =>
      simp only [noticeAt, clearNotices, hn]
      rfl

theorem sound_clearRetainedRule (s : State) : SoundStep s (clearRetainedRule s).1 := by
  unfold clearRetainedRule
  split
  · exact (sound_clearNotices _).after ((sound_clearWakes _).after ((sound_clearEnergy _).after
      ((sound_clearProfiles _).after ((sound_clearSales _).after (sound_clearTables s)))))
  · exact .refl s

/-! ### Requests that read -/

theorem tableReadRule_state (sel : Coded TableSel) (i : Nat) (s : State) : (tableReadRule sel i s).1 = s := by
  unfold tableReadRule
  split
  · rfl
  · split <;> rfl

theorem tariffReadRule_state (sel : Coded TariffSel) (part : Coded TariffPart) (i : Nat) (s : State) :
    (tariffReadRule sel part i s).1 = s := by
  unfold tariffReadRule
  split
  · rfl
  · dsimp only
    split
    · rfl
    · split <;> rfl
  · dsimp only
    split <;> rfl
  · rfl

theorem fareTrialRule_state (sel : Coded TariffSel) (code : Nat) (k : Coded TicketType) (cls q : Nat)
    (peak : Coded PeakSel) (s : State) : (fareTrialRule sel code k cls q peak s).1 = s := by
  unfold fareTrialRule
  split
  · rfl
  · split
    · dsimp only
      split
      · split
        · rfl
        · split <;> rfl
      · rfl
    · rfl

theorem SoundStep.of_eq {s t : State} (h : t = s) : SoundStep s t := h ▸ .refl s

/-! ### Every owner's rule and every event -/

theorem sound_ownerRule {c : Instr} {rule : State → State × Answer} (h : ownerRule c = some rule) (s : State) :
    SoundStep s (rule s).1 := by
  cases c <;> cases h
  case identify => exact .refl s
  case restart => exact .of_same rfl rfl rfl
  case clearRetained => exact sound_clearRetainedRule s
  case noticeRead => exact sound_noticeReadRule s
  case noticeClear => exact sound_noticeClearRule _ s
  case noticeConfig => exact sound_noticeConfigRule _ _ s
  case clockSet => exact sound_clockSetRule _ _ _ _ _ _ s
  case clockRead => exact .refl s
  case tableOpen => exact sound_tableOpenRule _ _ _ _ _ s
  case tableAdd => exact sound_tableAddRule _ _ _ _ _ s
  case tableClose => exact sound_tableCloseRule s
  case tableDrop => exact sound_dropNext s
  case tablePromote => exact sound_tablePromoteRule _ s
  case tableRead => exact .of_eq (tableReadRule_state _ _ s)
  case serviceSettings => exact sound_serviceSettingsRule _ _ _ s
  case running => exact sound_runningRule _ _ _ _ s
  case tariffOpen => exact sound_tariffOpenRule _ _ s
  case tariffStation => exact sound_tariffStationRule _ _ _ _ s
  case tariffRules => exact sound_tariffRulesRule _ s
  case tariffClose => exact sound_tariffCloseRule s
  case tariffRead => exact .of_eq (tariffReadRule_state _ _ _ s)
  case fareTrial => exact .of_eq (fareTrialRule_state _ _ _ _ _ _ s)
  case saleQuote => exact sound_saleRule (sound_saleQuoteRule _ _ _ _ _ _) s
  case saleCommit => exact sound_saleRule (sound_saleCommitRule _ _) s
  case salePrinted => exact sound_saleRule (sound_salePrintedRule _ _) s
  case saleCancel => exact sound_saleRule sound_saleCancelRule s
  case saleStatus => exact sound_saleRule SoundStep.refl s
  case salesClose => exact sound_salesCloseRule s
  case salesOpen => exact sound_salesOpenRule s
  case saleSettings => exact sound_saleSettingsRule _ _ s
  case journalRead => exact sound_journalReadRule _ _ s
  case journalRelease => exact sound_journalReleaseRule _ s
  case takingsRead => exact .refl s
  case journalSettings => exact sound_journalSettingsRule _ s
  case panelProfile => exact sound_panelProfileRule _ _ _ _ _ _ s
  case boardText => exact sound_boardTextRule _ _ _ _ s
  case boardTextDrop => exact sound_boardTextDropRule _ s
  case boardRefresh => exact sound_boardRefreshRule _ _ s
  case boardStatus => exact .refl s
  case panelReset => exact sound_panelResetRule _ s
  case panelStatus => exact .refl s
  case levelTable => exact sound_levelTableRule _ _ _ _ _ _ _ s
  case levelCeiling => exact sound_levelCeilingRule _ s
  case levelLimit => exact sound_levelLimitRule _ s
  case supplyCapacity => exact sound_supplyCapacityRule _ s
  case supplyReport => exact sound_supplyReportRule _ s
  case energySettings => exact sound_energySettingsRule _ _ _ _ s
  case energyStatus => exact .refl s
  case activity => exact sound_activity s
  case wakeConfig => exact sound_wakeConfigRule _ s
  case wakeStatus => exact .of_same rfl rfl rfl

theorem sound_serveFirst (s : State) : SoundStep s (serveFirst s) := by
  unfold serveFirst
  split
  · exact (reacted_serve _ s).sound
  · exact .refl s

theorem sound_probeFirst (s : State) : SoundStep s (probeFirst s) := by
  unfold probeFirst
  cases probeReady s with
  | none => exact .refl s
  | some a => exact (reacted_startProbe a s).sound

theorem sound_drainFirst (s : State) : SoundStep s (drainFirst s) := by
  unfold drainFirst
  cases drainReady s with
  | none => exact .refl s
  | some d => exact (reacted_completeLowering d s).sound

theorem sound_returnFirst (s : State) : SoundStep s (returnFirst s) := by
  unfold returnFirst
  split
  · exact sound_endBrief s
  · exact .refl s

theorem sound_eventRule {c : Instr} {f : State → State} (h : eventRule c = some f) (s : State) : SoundStep s (f s) := by
  cases c <;> cases h
  case clockSecond => exact sound_clockSecondEvent s
  case quoteTimerExpiry => exact sound_withdraw _ s
  case printTimerExpiry => exact sound_printExpiry s
  case accrualTimerExpiry => exact sound_accrualExpiry s
  case rotationTimerExpiry => exact sound_rotationExpiry s
  case serveEntry => exact sound_serveFirst s
  case probeStart => exact sound_probeFirst s
  case railSettleExpiry => exact sound_railSettled s
  case panelReply => exact sound_panelReplied _ _ _ s
  case replyWaitExpiry => exact sound_replyWait s
  case drawingWaitExpiry => exact sound_drawingExpiry s
  case probeIntervalExpiry => exact sound_intervalExpiry s
  case retryWaitExpiry => exact sound_retryExpiry s
  case unknownReprobeDelay => exact sound_probeTimerExpiry _ _ s
  case offlineProbeTimerExpiry => exact sound_probeTimerExpiry _ _ s
  case coldProbeTimerExpiry => exact sound_probeTimerExpiry _ _ s
  case railIdleExpiry => exact sound_railIdleExpiry s
  case raiseSettleExpiry => exact sound_raiseSettled s
  case loweringComplete => exact sound_drainFirst s
  case staleTimerExpiry => exact sound_staleExpiry s
  case fieldInputEdge => exact sound_filteredChange _ _ s
  case filterInitialLevel => exact sound_firstTaking _ _ s
  case demandTimerExpiry => exact sound_demandExpiry s
  case briefEpisodeStart => exact sound_judgeBriefStart s
  case returnTimerExpiry => exact sound_returnExpiry s
  case briefEpisodeReturn => exact sound_returnFirst s

/-! ### Requests and frames taken -/

theorem sound_beginTaking (s : State) : SoundStep s (beginTaking s) := (stores_beginTaking s).sound

theorem sound_sendReply (k g : Byte) (a : Answer) (s : State) : SoundStep s (sendReply k g a s) := .of_same rfl rfl rfl

theorem sound_takeRequest (k g : Byte) {rule : State → State × Answer} (h : ∀ s, SoundStep s (rule s).1) (s : State) :
    SoundStep s (takeRequest k g rule s) :=
  (sound_sendReply _ _ _ _).after ((sound_settle _).after ((h _).after (sound_beginTaking s)))

theorem sound_takeRow (c : Instr) (s : State) : SoundStep s (takeRow c s) := by
  unfold takeRow
  split
  next hr => exact sound_takeRequest _ _ (sound_ownerRule hr) s
  next => exact .refl s

theorem sound_frameRule (f : Frame) (s : State) : SoundStep s (frameRule f s).1 := by
  unfold frameRule
  split
  · cases hr : (readBody f.kind f.body).bind ownerRule with
    | none => exact .refl s
    | some rule =>
      obtain ⟨c, _, hc⟩ := Option.bind_eq_some_iff.mp hr
      exact sound_ownerRule hc s
  · exact .refl s

theorem sound_takeFrame (f : Frame) (s : State) : SoundStep s (takeFrame f s) :=
  sound_takeRequest _ _ (sound_frameRule f) s

theorem sound_arrived (a : Arrival) {take : State → State} (h : ∀ s, SoundStep s (take s)) (s : State) :
    SoundStep s (arrived a take s) := by
  unfold arrived
  split
  · exact h s
  · split
    · exact .of_same rfl rfl rfl
    · exact .refl s

theorem sound_frameArrived (f : Frame) (s : State) : SoundStep s (frameArrived f s) :=
  sound_arrived _ (sound_takeFrame f) s

theorem sound_replyEnded (s : State) : SoundStep s (replyEnded s) := by
  unfold replyEnded
  split
  · exact .refl s
  · split
    · exact sound_restartAsked s
    · split
      · exact .of_same rfl rfl rfl
      · exact (sound_takeFrame _ _).after (.of_same rfl rfl rfl)
      · exact (sound_takeRow _ _).after (.of_same rfl rfl rfl)

theorem sound_setReceiver (r : Receiver) (s : State) : SoundStep s (setReceiver r s) := .of_same rfl rfl rfl

theorem sound_byteReceived (b : Byte) (s : State) : SoundStep s (byteReceived b s) := by
  unfold byteReceived
  split
  · split
    · exact sound_setReceiver _ s
    · exact .refl s
  next bytes _ =>
    unfold frameByte
    split
    · exact sound_setReceiver _ s
    · split
      · cases checkedFrame (bytes ++ [b]) with
        | none => exact sound_setReceiver _ s
        | some f => exact (sound_frameArrived f _).after (sound_setReceiver _ s)
      · exact sound_setReceiver _ s

theorem sound_whenOn {f : State → State} (h : ∀ s, SoundStep s (f s)) (s : State) : SoundStep s (whenOn f s) := by
  unfold whenOn
  split
  · exact h s
  · exact .refl s

/-! ### The step -/

theorem sound_lineRule {c : Instr} {f : State → State} (h : lineRule c = some f) (s : State) : SoundStep s (f s) := by
  cases c <;> cases h
  case frameComplete => exact sound_frameArrived _ s
  case interByteGap => exact sound_setReceiver _ s
  case replySent => exact sound_replyEnded s
  case hostByteReceived b => exact sound_byteReceived b s

theorem sound_supplyRule {c : Instr} {f : State → State} (h : supplyRule c = some f) (s : State) : SoundStep s (f s) := by
  cases c <;> cases h
  case powerOn strap => exact sound_powerUp strap s
  case resetnAsserted => exact sound_holdPart s
  case resetnReleased strap => exact sound_releasePart strap s
  case powerLoss => exact sound_powerDown s

/-- Every command keeps the three invariants. -/
theorem sound_exec {c : Instr} {s t : State} (h : exec c s = .next t) : SoundStep s t := by
  rcases command_cases c with ⟨rule, hr⟩ | ⟨f, hf⟩ | ⟨f, hf⟩ | ⟨f, hf⟩
  · rw [exec_of_ownerRule hr] at h
    cases h
    exact sound_whenOn (sound_arrived _ (sound_takeRow c)) s
  · rw [exec_of_eventRule hf] at h
    cases h
    exact sound_whenOn (fun s => (sound_settle _).after (sound_eventRule hf s)) s
  · rw [exec_of_lineRule hf] at h
    cases h
    exact sound_whenOn (sound_lineRule hf) s
  · rw [exec_of_supplyRule hf] at h
    cases h
    exact sound_supplyRule hf s

/-- A millisecond touches of the clock the second phase alone. -/
theorem sound_millisecond (s : State) : SoundStep s (millisecond s) := by
  unfold millisecond
  split
  · refine ⟨fun h c hc => ?_, noticesWhole_of_config rfl, numbersDistinct_of_eq rfl⟩
    obtain ⟨d, hd, rfl⟩ := Option.map_eq_some_iff.mp hc
    exact h d hd
  · exact .refl s

theorem sound_step {s t : State} (h : step s = .next t) : SoundStep s t := by
  cases hp : s.pending with
  | nil =>
    rw [step_of_empty hp] at h
    cases h
    exact sound_millisecond s
  | cons c rest =>
    rw [step_of_pending hp] at h
    exact (sound_exec h).after (.of_same rfl rfl rfl)

/-- Settles O60: each of the three by the one lemma on the step. -/
theorem stepKeepsClockAndNotices : Obligations.StepKeepsClockAndNotices :=
  ⟨fun _ _ h hs => (sound_step hs).clock h, fun _ _ h hs => (sound_step hs).notices h,
    fun _ _ h hs => (sound_step hs).numbers h⟩

end Sys2Proof.Machine
end

section
/-! SUPPORT. What the blocks do to each other before the reactions of a taking: the present level and the lamp stay, and the
refresh queue loses no panel, besides what `StoresKept` says. -/

namespace Sys2Proof.Machine

/-! ### The panels that wait -/

/-- The panels with an entry in the refresh queue. -/
def waitingPanels (s : State) : List Addr := s.bdc.queue.map (·.panel)

theorem mem_waitingPanels {s : State} {a : Addr} : a ∈ waitingPanels s ↔ ∃ e ∈ s.bdc.queue, e.panel = a := List.mem_map

/-- A request adds its panel to those that wait and takes none away (R120). -/
theorem mem_panels_enqueue (a b : Addr) (urgent : Bool) (q : List QueueEntry) :
    b ∈ (enqueue a urgent q).map (·.panel) ↔ b = a ∨ b ∈ q.map (·.panel) := by
  unfold enqueue
  split
  next hnone =>
    split
    · simp only [List.map_append, List.map_cons, List.mem_append, List.mem_cons, List.mem_map, List.mem_filter,
        Bool.not_eq_true']
      constructor
      · rintro (⟨e, ⟨he, -⟩, hb⟩ | hb | ⟨e, ⟨he, -⟩, hb⟩)
        · exact .inr ⟨e, he, hb⟩
        · exact .inl hb
        · exact .inr ⟨e, he, hb⟩
      · rintro (hb | ⟨e, he, hb⟩)
        · exact .inr (.inl hb)
        · cases hu : e.urgent
          · exact .inr (.inr ⟨e, ⟨he, hu⟩, hb⟩)
          · exact .inl ⟨e, ⟨he, hu⟩, hb⟩
    · simp [or_comm]
  next e hsome =>
    have ha : e.panel = a := by simpa using List.find?_some hsome
    have hm : e ∈ q := List.mem_of_find?_eq_some hsome
    split
    · simp only [List.map_append, List.map_cons, List.mem_append, List.mem_cons, List.mem_map, List.mem_filter,
        Bool.and_eq_true, Bool.not_eq_true', beq_eq_false_iff_ne]
      constructor
      · rintro (⟨e, ⟨he, -⟩, hb⟩ | hb | ⟨e, ⟨he, -⟩, hb⟩)
        · exact .inr ⟨e, he, hb⟩
        · exact .inl hb
        · exact .inr ⟨e, he, hb⟩
      · rintro (hb | ⟨f, hf, hb⟩)
        · exact .inr (.inl hb)
        · by_cases hba : b = a
          · exact .inr (.inl hba)
          · cases hu : f.urgent
            · exact .inr (.inr ⟨f, ⟨hf, hu, hb ▸ hba⟩, hb⟩)
            · exact .inl ⟨f, ⟨hf, hu⟩, hb⟩
    · refine ⟨.inr, fun h => h.elim (fun hb => ?_) id⟩
      exact List.mem_map.mpr ⟨e, hm, ha.trans hb.symm⟩

/-! ### The relation -/

/-- The stores are kept, the present level and the lamp are as they were, and no panel that waited waits no more. -/
structure Stirred (s t : State) : Prop extends StoresKept s t where
  present : t.enm.present = s.enm.present
  lamp : t.bdc.lamp = s.bdc.lamp
  waits : waitingPanels s ⊆ waitingPanels t

theorem Stirred.refl (s : State) : Stirred s s := ⟨.refl s, rfl, rfl, List.Subset.refl _⟩

theorem Stirred.trans {s t u : State} (h : Stirred s t) (k : Stirred t u) : Stirred s u :=
  ⟨h.toStoresKept.trans k.toStoresKept, k.present.trans h.present, k.lamp.trans h.lamp, List.Subset.trans h.waits k.waits⟩

/-- A step that follows one. -/
theorem Stirred.after {s t u : State} (k : Stirred t u) (h : Stirred s t) : Stirred s u := h.trans k

theorem Stirred.foldl {α : Type} {f : State → α → State} {l : List α} (hf : ∀ s, ∀ a ∈ l, Stirred s (f s a)) (s : State) :
    Stirred s (l.foldl f s) := by
  induction l generalizing s with
  | nil => exact .refl s
  | cons a l ih =>
    exact (hf s a List.mem_cons_self).trans (ih (fun s b hb => hf s b (List.mem_cons_of_mem a hb)) _)

/-- A reaction that leaves the present level, the lamp and the queue alone. -/
theorem StoresKept.stirred {s t : State} (h : StoresKept s t) (hp : t.enm.present = s.enm.present)
    (hl : t.bdc.lamp = s.bdc.lamp) (hq : t.bdc.queue = s.bdc.queue) : Stirred s t :=
  ⟨h, hp, hl, by unfold waitingPanels; rw [hq]; exact List.Subset.refl _⟩

/-! ### Requests, the sales event and a withdrawal -/

theorem stirred_raiseNotice (src : Source) (s : State) : Stirred s (raiseNotice src s) :=
  (reacted_raiseNotice src s).stirred rfl rfl rfl

theorem stirred_requestRefresh (urgent : Bool) (s : State) (a : Addr) : Stirred s (requestRefresh urgent s a) := by
  refine ⟨(reacted_requestRefresh urgent s a).toStoresKept, ?_, ?_, ?_⟩ <;> unfold requestRefresh <;> split
  · rfl
  · rfl
  · rfl
  · rfl
  · exact fun b hb => (mem_panels_enqueue a b urgent _).mpr (.inr hb)
  · exact List.Subset.refl _

/-- A request for a PRESENT panel leaves it waiting. -/
theorem mem_waitingPanels_requestRefresh {urgent : Bool} {s : State} {a : Addr}
    (h : (s.bdc.profiles.get a).isPresent = true) : a ∈ waitingPanels (requestRefresh urgent s a) := by
  unfold requestRefresh
  rw [if_pos h]
  exact (mem_panels_enqueue a a urgent _).mpr (.inl rfl)

theorem stirred_requestEach (want : Profile → Option Bool) (s : State) : Stirred s (requestEach want s) := by
  unfold requestEach
  refine Stirred.foldl (fun s a _ => ?_) s
  split
  · exact stirred_requestRefresh _ s a
  · exact .refl s

/-- Of the operations of a fold, the one for a panel leaves it waiting; the others let it wait. -/
theorem mem_waitingPanels_foldl {f : State → Addr → State} {p : Four Profile} {a : Addr} (hf : ∀ s b, Stirred s (f s b))
    (ha : ∀ s : State, s.bdc.profiles = p → a ∈ waitingPanels (f s a)) {l : List Addr} {s : State} (hl : a ∈ l)
    (hs : s.bdc.profiles = p) : a ∈ waitingPanels (l.foldl f s) := by
  induction l generalizing s with
  | nil => cases hl
  | cons b l ih =>
    by_cases hb : a = b
    · subst hb
      exact (Stirred.foldl (l := l) (fun s b _ => hf s b) (f s a)).waits (ha s hs)
    · exact ih ((List.mem_cons.mp hl).resolve_left hb) ((hf s b).profiles.trans hs)

/-- Every PRESENT panel of which an event asks a refresh waits after it (R121). -/
theorem mem_waitingPanels_requestEach {want : Profile → Option Bool} {s : State} {a : Addr} {urgent : Bool}
    (hp : (s.bdc.profiles.get a).isPresent = true) (hw : want (s.bdc.profiles.get a) = some urgent) :
    a ∈ waitingPanels (requestEach want s) := by
  unfold requestEach
  refine mem_waitingPanels_foldl (p := s.bdc.profiles) (fun s b => ?_) (fun t ht => ?_)
    (by cases a <;> decide) rfl
  · split
    · exact stirred_requestRefresh _ s b
    · exact .refl s
  · rw [← ht] at hp hw
    rw [hw]
    exact mem_waitingPanels_requestRefresh hp

theorem mem_waitingPanels_requestAll {s : State} {a : Addr} (u : Bool) (hp : (s.bdc.profiles.get a).isPresent = true) :
    a ∈ waitingPanels (requestAll u s) := mem_waitingPanels_requestEach (urgent := u) hp rfl

theorem mem_waitingPanels_requestKind {k : PanelKind} {s : State} {a : Addr} (u : Bool)
    (hp : (s.bdc.profiles.get a).isPresent = true) (hk : (s.bdc.profiles.get a).kind = k) :
    a ∈ waitingPanels (requestKind k u s) := mem_waitingPanels_requestEach (urgent := u) hp (if_pos hk)

theorem stirred_decideSales (s : State) : Stirred s (decideSales s) := by
  refine ⟨(reacted_decideSales s).toStoresKept, ?_, ?_, ?_⟩ <;> unfold decideSales <;> dsimp only <;> split
  · rfl
  · exact (stirred_requestEach _ _).present
  · rfl
  · exact (stirred_requestEach _ _).lamp
  · exact List.Subset.refl _
  · exact (stirred_requestEach _ { s with bdc.sales := (salesReasons s).head? }).waits

theorem stirred_withdraw (w : Withdrawal) (s : State) : Stirred s (withdraw w s) := by
  have h : (withdraw w s).enm = s.enm ∧ (withdraw w s).bdc = s.bdc := by
    unfold withdraw putSlot
    split
    · split <;> exact ⟨rfl, rfl⟩
    · exact ⟨rfl, rfl⟩
  exact (reacted_withdraw w s).stirred (by rw [h.1]) (by rw [h.2]) (by rw [h.2])

/-! ### The target, activity and wakes -/

theorem followRailMode_enm_bdc (s : State) : (followRailMode s).enm = s.enm ∧ (followRailMode s).bdc = s.bdc := by
  unfold followRailMode
  dsimp only
  split
  · exact ⟨rfl, rfl⟩
  · split <;> exact ⟨rfl, rfl⟩

theorem stirred_followRailMode (s : State) : Stirred s (followRailMode s) :=
  (reacted_followRailMode s).stirred (by rw [(followRailMode_enm_bdc s).1]) (by rw [(followRailMode_enm_bdc s).2])
    (by rw [(followRailMode_enm_bdc s).2])

theorem stirred_startRaise (d : Level) (s : State) : Stirred s (startRaise d s) := by
  have h := stirred_followRailMode { s with
    enm.transition := .raising d (if s.enm.present = .el5 then s.enm.dormantSettle else s.enm.raiseSettle)
    enm.draw := (levelEntry s d).draw
    plc.railLevel := d }
  exact ⟨(reacted_startRaise d s).toStoresKept, h.present, h.lamp, h.waits⟩

theorem stirred_startLowering (d : Level) (s : State) : Stirred s (startLowering d s) := by
  have h := (stirred_withdraw .level _).after (stirred_decideSales { s with enm.transition := .lowering d })
  refine ⟨(reacted_startLowering d s).toStoresKept, ?_, ?_, ?_⟩ <;> unfold startLowering <;> dsimp only <;> split
  · exact h.present
  · rfl
  · exact h.lamp
  · rfl
  · exact h.waits
  · exact List.Subset.refl _

theorem stirred_retarget (s : State) : Stirred s (retarget s) := by
  have ht : Stirred s { s with enm.target := computeTarget s } := StoresKept.stirred
    (by constructor <;> first | rfl | exact .inl ⟨rfl, rfl⟩ | exact fun _ => rfl | exact fun _ h => h) rfl rfl rfl
  unfold retarget
  dsimp only
  split
  · split
    · exact ht
    · split
      · exact (stirred_startRaise _ _).after ht
      · exact (stirred_startLowering _ _).after ht
  · exact ht

theorem stirred_endBrief (s : State) : Stirred s (endBrief s) := by
  have h := (stirred_retarget _).after (stirred_followRailMode { s with awu.brief := false, awu.returnTimer := .stopped })
  exact ⟨(reacted_endBrief s).toStoresKept, h.present, h.lamp, h.waits⟩

/-- Of the part, a restarted demand timer changes the activity unit alone. -/
theorem restartDemandTimer_frame (s : State) :
    (restartDemandTimer s).enm = s.enm ∧ (restartDemandTimer s).bdc = s.bdc := by
  unfold restartDemandTimer
  split <;> exact ⟨rfl, rfl⟩

theorem stirred_activity (s : State) : Stirred s (activity s) := by
  have h := restartDemandTimer_frame { s with awu.demand := s.enm.effective }
  have hk := stores_activity s
  have hu : Stirred (restartDemandTimer { s with awu.demand := s.enm.effective }) (activity s) := by
    unfold activity
    dsimp only
    split
    · exact stirred_endBrief _
    · exact stirred_retarget _
  refine ⟨hk, hu.present.trans (by rw [h.1]), hu.lamp.trans (by rw [h.2]), ?_⟩
  refine List.Subset.trans ?_ hu.waits
  unfold waitingPanels
  rw [h.2]
  exact List.Subset.refl _

theorem stirred_wake (src : WokeSource) (e : Option Edge) (s : State) : Stirred s (wake src e s) := by
  have h := stirred_activity s
  have he := wake_eq src e s
  unfold woken at he
  rw [← activity_eq] at he
  refine ⟨stores_wake src e s, ?_, ?_, ?_⟩
  · rw [he]
    exact h.present
  · rw [he]
    exact h.lamp
  · rw [he]
    exact h.waits

theorem stirred_internalEvent (flag : Bool) (src : WokeSource) (s : State) : Stirred s (internalEvent flag src s) := by
  unfold internalEvent
  split
  · exact stirred_wake _ _ s
  · exact .refl s

/-- A wake writes its record whole, sets the demand level to the effective ceiling and raises WOKE (R165, R170). -/
theorem wake_record (src : WokeSource) (e : Option Edge) (s : State) (hl : s.hlk.notices.length = sourceCount) :
    (wake src e s).awu.woke = some ⟨src, e, nowMinute s⟩ ∧ (wake src e s).awu.demand = s.enm.effective ∧
      (noticeAt (wake src e s) 12).pending = true := by
  have hd : (activity s).awu.demand = s.enm.effective := by
    unfold activity
    dsimp only
    have hr : (restartDemandTimer { s with awu.demand := s.enm.effective }).awu.demand = s.enm.effective := by
      unfold restartDemandTimer
      split <;> rfl
    split
    · exact (reacted_endBrief _).demand.trans hr
    · exact (reacted_retarget _).demand.trans hr
  rw [wake_eq]
  unfold woken
  rw [← activity_eq]
  refine ⟨rfl, hd, ?_⟩
  have hl' : 12 < (activity s).hlk.notices.length := by
    rw [(stores_activity s).notices_length, hl]
    decide
  simp [noticeAt, raisedAt, List.getD_eq_getElem?_getD, hl']

end Sys2Proof.Machine
end

section
/-! SUPPORT. The minute event block by block (R6): services, host messages, lamp, quiet window; and what all of it is. -/

namespace Sys2Proof.Machine

/-! ### The services -/

/-- What an evaluation does to a service: nothing, a lapse, or an approach start (R42, R43). -/
theorem evaluateService_cases (g w m : Nat) (v : Service) : evaluateService g w m v = v ∨
    evaluateService g w m v = { v with status := .lapsed, approach := false } ∨
    evaluateService g w m v = { v with approach := true } := by
  unfold evaluateService
  split_ifs
  · exact .inr (.inl rfl)
  · exact .inr (.inr rfl)
  · exact .inl rfl
  · exact .inl rfl

/-- An evaluation cancels and reinstates no service. -/
theorem givesCause_evaluated (g w m : Nat) (v : Service) {c : ChangeCause}
    (h : givesCause v (evaluateService g w m v) c = true) : c ≠ .cancel ∧ c ≠ .reinstate := by
  constructor <;> rintro rfl <;> simp only [givesCause, Bool.and_eq_true, decide_eq_true_eq] at h
  · rcases evaluateService_cases g w m v with he | he | he <;> simp_all
  · unfold evaluateService at h
    simp [h.1.1, Status.isRunning] at h

/-- A change event but for CANCEL and REINSTATE asks refreshes and no more (R46, R121). -/
theorem stirred_changeEvent {c : ChangeCause} (old new : Service) (s : State) (hc : c ≠ .cancel) (hr : c ≠ .reinstate) :
    Stirred s (changeEvent old new s c) := by
  cases c
  case cancel => exact absurd rfl hc
  case reinstate => exact absurd rfl hr
  all_goals exact stirred_requestEach _ s

theorem stirred_changeEvents (g w m : Nat) (v : Service) (s : State) :
    Stirred s (changeEvents s (v, evaluateService g w m v)) :=
  Stirred.foldl (fun s c hc => by
    obtain ⟨hcancel, hreinstate⟩ := givesCause_evaluated g w m v (List.mem_filter.mp hc).2
    exact stirred_changeEvent _ _ s hcancel hreinstate) s

theorem stirred_statusEvent (s : State) (p : Service × Service) : Stirred s (statusEvent s p) := by
  unfold statusEvent
  split
  · split
    · split
      · exact stirred_withdraw _ s
      · exact .refl s
    · exact .refl s
  · exact .refl s

theorem stirred_approachStart (s : State) (p : Service × Service) : Stirred s (approachStart s p) := by
  unfold approachStart
  split
  · exact (stirred_internalEvent _ _ _).after (stirred_activity s)
  · exact .refl s

/-- The pairs of an evaluation are each service with what the evaluation makes of it. -/
theorem mem_zip_map {α β : Type} {f : α → β} {l : List α} {p : α × β} (h : p ∈ l.zip (l.map f)) : p = (p.1, f p.1) := by
  induction l with
  | nil => cases h
  | cons a l ih =>
    rcases List.mem_cons.mp h with rfl | h
    · rfl
    · exact ih h

/-- What an evaluation hands on stirs the part. -/
theorem stirred_handOn_evaluated (g w m : Nat) (l : List Service) (s : State) :
    Stirred s (handOn (l.zip (l.map (evaluateService g w m))) s) := by
  unfold handOn
  refine Stirred.after (Stirred.foldl (fun s p hp => ?_) _) ((Stirred.foldl (fun s p _ => stirred_statusEvent s p) _).after
    ((Stirred.foldl (fun s p _ => stirred_approachStart s p) _).after (stirred_retarget s)))
  rw [mem_zip_map hp]
  exact stirred_changeEvents g w m p.1 s

/-- The current table with every service evaluated against a minute (R42, R43). -/
def evaluatedTables (m : Nat) (t : Tts) : Tts :=
  { t with current := t.current.map fun c => { c with services := c.services.map (evaluateService t.grace t.window m) } }

theorem evaluatedTables_some {m : Nat} {t : Tts} {c : CurrentTable} (h : t.current = some c) : evaluatedTables m t =
    { t with current := some ⟨c.header, c.services.map (evaluateService t.grace t.window m)⟩ } := by
  unfold evaluatedTables
  rw [h]
  rfl

theorem stirred_minuteEvaluation (m : Nat) (s : State) :
    Stirred { s with tts := evaluatedTables m s.tts } (minuteEvaluation m s) := by
  unfold minuteEvaluation
  split
  next h =>
    have e : evaluatedTables m s.tts = s.tts := by
      unfold evaluatedTables
      rw [h, Option.map_none, ← h]
    rw [e]
    exact .refl s
  next t h =>
    rw [evaluatedTables_some h]
    exact stirred_handOn_evaluated _ _ _ _ _

/-! ### The host messages -/

/-- Host entries that leave leave only a refresh behind (R116). -/
theorem stirred_removeHost (f : HostEntry → Bool) (s : State) :
    Stirred { s with bdc.host := s.bdc.host.filter fun e => !f e } (removeHost f s) := by
  have hk : Stirred { s with bdc.host := s.bdc.host.filter fun e => !f e }
      (keepMessages (fun e => !f e) (fun _ => true) s) := by
    have ha : s.bdc.auto.filter (fun _ => true) = s.bdc.auto := List.filter_true _
    unfold keepMessages clearPosition
    dsimp only
    rw [ha]
    split
    · exact StoresKept.stirred
        (by constructor <;> first | rfl | exact .inl ⟨rfl, rfl⟩ | exact fun _ => rfl | exact fun _ h => h) rfl rfl rfl
    · exact .refl _
  unfold removeHost
  dsimp only
  split
  · exact (stirred_requestEach _ _).after hk
  · exact hk

/-- Where one leaves, every PRESENT MESSAGES panel waits (R116). -/
theorem mem_waitingPanels_removeHost {f : HostEntry → Bool} {s : State} {a : Addr} (hf : s.bdc.host.any f = true)
    (hp : (s.bdc.profiles.get a).isPresent = true) (hk : (s.bdc.profiles.get a).kind = .messages) :
    a ∈ waitingPanels (removeHost f s) := by
  have hprofiles : (keepMessages (fun e => !f e) (fun _ => true) s).bdc.profiles = s.bdc.profiles := by
    unfold keepMessages clearPosition
    split <;> rfl
  unfold removeHost
  dsimp only
  rw [if_pos hf]
  rw [← hprofiles] at hp hk
  exact mem_waitingPanels_requestKind false hp hk

/-! ### The lamp -/

/-- The duty that `setLamp` sets (R127). -/
def lampDuty (s : State) : Nat := if lampLit s then (presentEntry s).lamp else 0

theorem setLamp_lamp (s : State) : (setLamp s).bdc.lamp = lampDuty s := rfl

/-- The lamp is lit at ELA, in UNSET and without a current table. -/
theorem lampDuty_lit {s : State} (h : s.enm.present = .ela ∨ s.clock = none ∨ s.tts.current = none) :
    lampDuty s = (s.enm.table.get s.enm.present).lamp := by
  have hl : lampLit s = true := by
    unfold lampLit
    split_ifs with hp
    · rfl
    · rcases h.resolve_left hp with h | h
      · rw [h]
      · rw [h]
        cases s.clock <;> rfl
  unfold lampDuty
  rw [if_pos hl]
  rfl

/-- Below ELA it follows the dark hours of the current table. -/
theorem lampDuty_dark {s : State} {c : ClockSetting} {t : CurrentTable} (hp : s.enm.present ≠ .ela)
    (hc : s.clock = some c) (ht : s.tts.current = some t) : lampDuty s =
      if t.header.darkFrom ≤ c.tod / 60 ∨ c.tod / 60 < t.header.darkUntil then (s.enm.table.get s.enm.present).lamp
      else 0 := by
  have hl : lampLit s = (decide (t.header.darkFrom ≤ c.tod / 60) || decide (c.tod / 60 < t.header.darkUntil)) := by
    unfold lampLit
    rw [if_neg hp, hc, ht]
    rfl
  unfold lampDuty
  rw [hl]
  simp only [Bool.or_eq_true, decide_eq_true_eq]
  rfl

/-! ### The quiet window -/

/-- The QUIET limit takes its value, and what follows stirs the part (R152, R154). -/
theorem stirred_setQuiet (l : Option Level) (s : State) : Stirred { s with enm.quietLimit := l } (setQuiet l s) := by
  unfold setQuiet
  split
  next h =>
    rw [h]
    exact .refl s
  next => exact (stirred_retarget _).after (stirred_raiseNotice _ _)

theorem stirred_quietOnMinute (s : State) : Stirred { s with enm.quietLimit := quietNow s } (quietOnMinute s) := by
  unfold quietOnMinute
  dsimp only
  split
  · exact (stirred_internalEvent _ _ _).after (stirred_setQuiet _ s)
  · exact stirred_setQuiet _ s

/-- The event of the CLOCK source at the end of QUIET clears no notice. -/
theorem quietOnMinute_raised (s : State) (n : Nat) (h : (noticeAt (setQuiet (quietNow s) s) n).pending = true) :
    (noticeAt (quietOnMinute s) n).pending = true := by
  unfold quietOnMinute
  dsimp only
  split
  · exact (stores_internalEvent _ _ _).raised n h
  · exact h

theorem noticeAt_raiseNotice {src : Source} {s : State} (h : s.hlk.notices.length = sourceCount) :
    (noticeAt (raiseNotice src s) src.number).pending = true :=
  (raiseNotice_raises (by rw [h]; cases src <;> decide)).1

/-- A QUIET limit that changes raises LIMIT-CHANGED (R154). -/
theorem quietOnMinute_changed {s : State} (hl : s.hlk.notices.length = sourceCount) (h : quietNow s ≠ s.enm.quietLimit) :
    (noticeAt (quietOnMinute s) 11).pending = true := by
  refine quietOnMinute_raised s 11 ?_
  unfold setQuiet
  rw [if_neg h]
  exact (stirred_retarget _).raised 11
    (noticeAt_raiseNotice (src := .limitChanged) (s := { s with enm.quietLimit := quietNow s }) hl)

theorem resting_iff (l : Level) : resting l = true ↔ l = .el4 ∨ l = .el5 := by cases l <;> decide

/-- The end of QUIET wakes the part at EL4 and EL5 where CLOCK's wake flag is set (R170). -/
theorem quietOnMinute_woken {s : State} (hl : s.hlk.notices.length = sourceCount) (hs : s.enm.quietLimit.isSome)
    (hq : quietNow s = none) (hc : s.awu.config.clock = true) (hr : s.enm.present = .el4 ∨ s.enm.present = .el5) :
    (quietOnMinute s).awu.woke = some ⟨.clock, none, nowMinute s⟩ ∧ (quietOnMinute s).awu.demand = s.enm.effective ∧
      (noticeAt (quietOnMinute s) 12).pending = true := by
  have hk := stirred_setQuiet (quietNow s) s
  have hcond : (s.enm.quietLimit.isSome && (evaluateQuiet s).enm.quietLimit.isNone) = true := by
    have hnone : (evaluateQuiet s).enm.quietLimit = none := hk.quietLimit.trans hq
    rw [hs, hnone]
    rfl
  have hwake : ((evaluateQuiet s).awu.config.clock && resting (evaluateQuiet s).enm.present) = true := by
    have hconfig : (evaluateQuiet s).awu.config = s.awu.config := hk.config
    have hpresent : (evaluateQuiet s).enm.present = s.enm.present := hk.present
    rw [hconfig, hpresent, hc, (resting_iff _).mpr hr]
    rfl
  have hlength : (evaluateQuiet s).hlk.notices.length = sourceCount := hk.notices_length.trans hl
  have hnow : nowMinute (evaluateQuiet s) = nowMinute s := congrArg (Option.map _) hk.clock
  unfold quietOnMinute
  dsimp only
  rw [if_pos hcond, internalEvent, if_pos hwake, ← hnow, ← (hk.effective : (evaluateQuiet s).enm.effective = _)]
  exact wake_record _ _ _ hlength

/-- The value of the QUIET limit at a minute (R152). -/
theorem quietNow_eq {s : State} {m : Nat} (h : nowMinute s = some m) : quietNow s =
    if (s.enm.quietStart < s.enm.quietEnd ∧ s.enm.quietStart ≤ m ∧ m < s.enm.quietEnd) ∨
        (s.enm.quietEnd < s.enm.quietStart ∧ (s.enm.quietStart ≤ m ∨ m < s.enm.quietEnd)) then
      some .el3
    else none := by
  have hw : inQuietWindow s.enm.quietStart s.enm.quietEnd m = true ↔
      (s.enm.quietStart < s.enm.quietEnd ∧ s.enm.quietStart ≤ m ∧ m < s.enm.quietEnd) ∨
        (s.enm.quietEnd < s.enm.quietStart ∧ (s.enm.quietStart ≤ m ∨ m < s.enm.quietEnd)) := by
    unfold inQuietWindow
    split_ifs <;> simp <;> omega
  unfold quietNow
  rw [h]
  simp only [hw]

/-! ### The whole event -/

/-- Whether a host entry's expiry is reached at a minute (R116). -/
def expired (m : Nat) (e : HostEntry) : Bool := e.expiry.any fun n => decide (n ≤ m)

theorem expired_iff (m : Nat) (x : HostEntry) : expired m x = true ↔ ∃ e, x.expiry = some e ∧ e ≤ m := by
  simp [expired, Option.any_eq_true]

/-- The part before the quiet window is evaluated: services, host messages and lamp have taken the event. -/
def minuteShown (m : Nat) (s : State) : State := setLamp (expireHost m (minuteEvaluation m s))

theorem minuteEvent_eq (e : MinuteEvent) (s : State) : minuteEvent e s = quietOnMinute (minuteShown e.minute s) := rfl

/-- Up to the quiet window a minute event sets the tables, the host list and the lamp, and stirs the part. -/
theorem stirred_minuteShown (m : Nat) (s : State) :
    Stirred { s with
      tts := evaluatedTables m s.tts
      bdc.host := s.bdc.host.filter fun e => !expired m e
      bdc.lamp := (minuteShown m s).bdc.lamp } (minuteShown m s) := by
  have hv := stirred_minuteEvaluation m s
  have hx := stirred_removeHost (expired m) (minuteEvaluation m s)
  have hy := (reacted_setLamp (expireHost m (minuteEvaluation m s))).toStoresKept
  have hhost : StoresKept { s with tts := evaluatedTables m s.tts, bdc.host := s.bdc.host.filter fun e => !expired m e }
      { minuteEvaluation m s with bdc.host := (minuteEvaluation m s).bdc.host.filter fun e => !expired m e } :=
    { hv.toStoresKept with host := congrArg (List.filter fun e => !expired m e) hv.host }
  have hstores := hhost.trans (hx.toStoresKept.trans hy)
  exact ⟨{ hstores with }, hx.present.trans hv.present, rfl, List.Subset.trans hv.waits hx.waits⟩

/-- A minute event sets the tables, the host list, the lamp and the QUIET limit, and stirs the part. -/
theorem stirred_minuteEvent (e : MinuteEvent) (s : State) :
    Stirred { s with
      tts := evaluatedTables e.minute s.tts
      bdc.host := s.bdc.host.filter fun x => !expired e.minute x
      bdc.lamp := (minuteShown e.minute s).bdc.lamp
      enm.quietLimit := quietNow s } (minuteEvent e s) := by
  have hs := stirred_minuteShown e.minute s
  have hq := stirred_quietOnMinute (minuteShown e.minute s)
  have hnow : quietNow (minuteShown e.minute s) = quietNow s := by
    unfold quietNow nowMinute
    rw [hs.clock, hs.quietStart, hs.quietEnd]
  rw [hnow, ← minuteEvent_eq] at hq
  refine Stirred.trans ?_ hq
  exact { hs with quietLimit := rfl }

/-- The lamp after a minute event is the duty of the part as it then stands. -/
theorem minuteShown_lamp (m : Nat) (s : State) :
    (minuteShown m s).bdc.lamp = lampDuty { s with tts := evaluatedTables m s.tts } := by
  have hv := stirred_minuteEvaluation m s
  have hx := stirred_removeHost (expired m) (minuteEvaluation m s)
  refine (setLamp_lamp _).trans ?_
  have hp : (expireHost m (minuteEvaluation m s)).enm.present = s.enm.present := hx.present.trans hv.present
  have ht : (expireHost m (minuteEvaluation m s)).enm.table = s.enm.table := hx.table.trans hv.table
  have hc : (expireHost m (minuteEvaluation m s)).clock = s.clock := hx.clock.trans hv.clock
  have hu : (expireHost m (minuteEvaluation m s)).tts = evaluatedTables m s.tts := hx.tts.trans hv.tts
  simp only [lampDuty, lampLit, presentEntry, levelEntry, hp, ht, hc, hu]

/-- A minute event does what the statements say of it. -/
theorem minuteTaken {s : State} {c : ClockSetting} {e : MinuteEvent} (hc : s.clock = some c) (he : e.minute = c.tod / 60) :
    MinuteTaken e.minute s (minuteEvent e s) := by
  have h := stirred_minuteEvent e s
  have hshown := stirred_minuteShown e.minute s
  have hnow : nowMinute s = some e.minute := by rw [nowMinute, hc, he]; rfl
  have hnow' : nowMinute (minuteShown e.minute s) = some e.minute := (congrArg (Option.map _) hshown.clock).trans hnow
  have hquiet : quietNow (minuteShown e.minute s) = (minuteEvent e s).enm.quietLimit :=
    (stirred_quietOnMinute (minuteShown e.minute s)).quietLimit.symm
  have hlamp : (minuteEvent e s).bdc.lamp = lampDuty { s with tts := evaluatedTables e.minute s.tts } :=
    h.lamp.trans (minuteShown_lamp e.minute s)
  constructor
  case tables => exact h.tts
  case left =>
    intro x
    rw [h.host, List.mem_filter, ← expired_iff]
    simp
  case order =>
    rw [h.host]
    exact List.filter_sublist
  case auto => exact h.auto
  case messages =>
    intro ⟨x, hx, hexp⟩ a hp hk
    have hv := stirred_minuteEvaluation e.minute s
    rw [h.profiles] at hp hk
    rw [← hv.profiles] at hp hk
    rw [← hv.host] at hx
    have hw := mem_waitingPanels_removeHost (List.any_eq_true.mpr ⟨x, hx, (expired_iff _ _).mpr hexp⟩) hp hk
    exact mem_waitingPanels.mp ((stirred_quietOnMinute (minuteShown e.minute s)).waits hw)
  case lit =>
    intro hlit
    rw [hlamp]
    refine lampDuty_lit (hlit.imp_right fun ht => .inr ?_)
    show s.tts.current.map _ = none
    rw [ht]
    rfl
  case lamp =>
    intro t ht hp
    have hcurrent := congrArg Tts.current (evaluatedTables_some (m := e.minute) ht)
    rw [hlamp, lampDuty_dark (s := { s with tts := evaluatedTables e.minute s.tts }) hp hc hcurrent, he]
  case quiet => rw [h.quietLimit, quietNow_eq hnow]
  case changed =>
    intro hl hne
    refine quietOnMinute_changed (s := minuteShown e.minute s) (hshown.notices_length.trans hl) ?_
    rwa [hquiet, hshown.quietLimit]
  case woken =>
    intro hl hs hnone hclock hrest
    rw [← hnow']
    have hw := quietOnMinute_woken (s := minuteShown e.minute s) (hshown.notices_length.trans hl)
      (hshown.quietLimit ▸ hs) (hquiet.trans hnone) (by rw [hshown.config]; exact hclock)
      (by rw [hshown.present]; exact hrest)
    rwa [hshown.effective] at hw

end Sys2Proof.Machine
end

section
/-! SUPPORT. A completed second of a SET clock below the end of the service day. -/

namespace Sys2Proof.Machine

/-- The rule of a completed second of a SET clock. -/
theorem clockSecondEvent_set {s : State} {c : ClockSetting} (h : s.clock = some c) : clockSecondEvent s = clockTick c s := by
  unfold clockSecondEvent
  rw [h]
  rfl

theorem clockSecondEvent_unset {s : State} (h : s.clock = none) : clockSecondEvent s = s := by
  unfold clockSecondEvent
  rw [h]
  rfl

/-- A completed second does what its rule says. -/
theorem happens_clockSecond {s u : State} (hp : s.power = .on) (h : clockSecondEvent s = u) : Happens .clockSecond s u :=
  h ▸ happens_of_event hp rfl

/-- The clock a second later, below the end of the service day. -/
def nextSecond (c : ClockSetting) : ClockSetting := { c with tod := c.tod + 1, phase := 0 }

/-- What a completed second below the end of the service day leaves: the clock on by one, and on a minute boundary the
minute event (R4, R6). -/
theorem clockTick_below {c : ClockSetting} {s : State} (h : c.tod < 86399) : clockTick c s =
    if (c.tod + 1) % 60 = 0 then minuteEvent ⟨c.date, (c.tod + 1) / 60, .count⟩ { s with clock := some (nextSecond c) }
    else { s with clock := some (nextSecond c) } := by
  unfold clockTick
  rw [if_pos h]
  rfl

/-- Of the stores, a completed second below the end of the service day moves the clock and the services. -/
theorem clockTick_keeps {c : ClockSetting} {s : State} (h : c.tod < 86399) :
    let u := clockTick c s
    u.clock = some (nextSecond c) ∧ u.tfe = s.tfe ∧ u.sjn = s.sjn ∧ u.hlk.day = s.hlk.day ∧
      u.tts.next = s.tts.next ∧ u.tts.current.map (·.header) = s.tts.current.map (·.header) := by
  rw [clockTick_below h]
  split
  · have k := stirred_minuteEvent ⟨c.date, (c.tod + 1) / 60, .count⟩ { s with clock := some (nextSecond c) }
    have hnext := congrArg Tts.next k.tts
    have hheader := congrArg (fun t => t.current.map CurrentTable.header) k.tts
    refine ⟨k.clock, k.tfe, k.sjn, k.day, hnext, hheader.trans ?_⟩
    simp [evaluatedTables, Function.comp_def]
  · exact ⟨rfl, rfl, rfl, rfl, rfl, rfl⟩

/-- Settles O15, by the minute event's lemma `minuteTaken` on a minute boundary. -/
theorem clockCountsSeconds : Obligations.ClockCountsSeconds := by
  intro s hp
  refine ⟨fun hc => happens_clockSecond hp (clockSecondEvent_unset hc), fun c hc hb => ?_⟩
  have hrule := (clockSecondEvent_set hc).trans (clockTick_below hb)
  refine ⟨fun hm => happens_clockSecond hp (hrule.trans (if_neg hm)), fun hm => ⟨?_, ?_⟩, ?_⟩
  · exact happens_clockSecond hp (hrule.trans (if_pos hm))
  · exact minuteTaken (e := ⟨c.date, (c.tod + 1) / 60, .count⟩) (c := nextSecond c) rfl rfl
  · obtain ⟨hclock, htfe, hsjn, hday, hnext, hheader⟩ := clockTick_keeps (s := s) hb
    obtain ⟨hexec, hkept, -⟩ := happens_clockSecond hp (clockSecondEvent_set hc)
    exact ⟨_, hexec, hkept.clock.trans hclock, hkept.tfe.trans htfe, hkept.sjn.trans hsjn, hkept.day.trans hday,
      (congrArg Tts.next hkept.tts).trans hnext, (congrArg (fun t => t.current.map CurrentTable.header) hkept.tts).trans hheader⟩

end Sys2Proof.Machine
end

section
/-! SUPPORT. The rollover event block by block (R7): tables, slot and tariff, boards, wake and record; and a date entered. -/

namespace Sys2Proof.Machine

/-! ### What every block keeps -/

/-- Clock and journal are as they were, the sources are as many, and no pending notice has been cleared. -/
structure Carried (s t : State) : Prop where
  clock : t.clock = s.clock
  sjn : t.sjn = s.sjn
  length : t.hlk.notices.length = s.hlk.notices.length
  raised : ∀ n, (noticeAt s n).pending = true → (noticeAt t n).pending = true

theorem Carried.refl (s : State) : Carried s s := ⟨rfl, rfl, rfl, fun _ h => h⟩

theorem Carried.trans {s t u : State} (h : Carried s t) (k : Carried t u) : Carried s u :=
  ⟨k.clock.trans h.clock, k.sjn.trans h.sjn, k.length.trans h.length, fun n hn => k.raised n (h.raised n hn)⟩

/-- A step that follows one. -/
theorem Carried.after {s t u : State} (k : Carried t u) (h : Carried s t) : Carried s u := h.trans k

theorem StoresKept.carried {s t : State} (h : StoresKept s t) : Carried s t := ⟨h.clock, h.sjn, h.notices_length, h.raised⟩

theorem carried_keepMessages (f : HostEntry → Bool) (g : AutoEntry → Bool) (s : State) :
    Carried s (keepMessages f g s) := by
  unfold keepMessages clearPosition
  split <;> exact ⟨rfl, rfl, rfl, fun _ h => h⟩

theorem carried_tableEvent (s : State) : Carried s (tableEvent s) :=
  (reacted_setLamp _).carried.after ((carried_keepMessages _ _ _).after (reacted_requestEach _ s).carried)

theorem carried_placeCurrent (t : Option CurrentTable) (s : State) : Carried s (placeCurrent t s) :=
  (carried_tableEvent _).after ((reacted_retarget _).carried.after ⟨rfl, rfl, rfl, fun _ h => h⟩)

/-! ### The tables (Table 2-5) -/

/-- What an emptied current table leaves: its place empty, NO-TIMETABLE pending (R23, R25). -/
structure Emptied (s t : State) : Prop extends Carried s t where
  tts : t.tts = { s.tts with current := none }
  tfe : t.tfe = s.tfe
  noTimetable : s.hlk.notices.length = sourceCount → (noticeAt t 15).pending = true

theorem emptied_emptyCurrent (s : State) : Emptied s (emptyCurrent s) := by
  have h := kept_placeCurrent none s
  have k := carried_placeCurrent none s
  exact ⟨(reacted_raiseNotice _ _).carried.after k, h.tts, h.tfe, fun hl => noticeAt_raiseNotice (k.length.trans hl)⟩

/-- What a promotion leaves: the next table current, its services at their starting values (R22). -/
theorem promote_tts (t : NextTable) (s : State) : (promote t s).tts =
    { s.tts with next := none, current := some ⟨t.header, t.records.map startService⟩ } := (kept_placeCurrent _ _).tts

theorem promote_tfe (t : NextTable) (s : State) : (promote t s).tfe = s.tfe := (kept_placeCurrent _ _).tfe

theorem carried_promote (t : NextTable) (s : State) : Carried s (promote t s) :=
  (carried_placeCurrent _ _).after ⟨rfl, rfl, rfl, fun _ h => h⟩

/-- The rows of Table 2-5. -/
theorem rolloverTables_none {d : Date} {s : State} (h : s.tts.next = none) : rolloverTables d s = emptyCurrent s := by
  unfold rolloverTables
  rw [h]

theorem rolloverTables_some {d : Date} {s : State} {n : NextTable} (h : s.tts.next = some n) : rolloverTables d s =
    if n.ready = false then emptyCurrent s
    else if n.header.date = d then promote n s
    else if dateBefore n.header.date d then emptyCurrent { s with tts.next := none }
    else emptyCurrent s := by
  unfold rolloverTables
  rw [h]
  cases hr : n.ready <;> simp only [Bool.not_false, Bool.not_true, hr, if_true, if_false, Bool.false_eq_true, reduceCtorEq]

/-- Every row is an emptied current table, with the next table kept or dropped, or a promotion. -/
theorem rolloverTables_cases (d : Date) (s : State) : rolloverTables d s = emptyCurrent s ∨
    rolloverTables d s = emptyCurrent { s with tts.next := none } ∨ ∃ n, rolloverTables d s = promote n s := by
  cases h : s.tts.next with
  | none => exact .inl (rolloverTables_none h)
  | some n =>
    rw [rolloverTables_some h]
    split_ifs
    · exact .inl rfl
    · exact .inr (.inr ⟨n, rfl⟩)
    · exact .inr (.inl rfl)
    · exact .inl rfl

theorem carried_rolloverTables (d : Date) (s : State) : Carried s (rolloverTables d s) := by
  rcases rolloverTables_cases d s with h | h | ⟨n, h⟩ <;> rw [h]
  · exact (emptied_emptyCurrent s).toCarried
  · exact (emptied_emptyCurrent _).toCarried.after ⟨rfl, rfl, rfl, fun _ h => h⟩
  · exact carried_promote n s

theorem rolloverTables_tfe (d : Date) (s : State) : (rolloverTables d s).tfe = s.tfe := by
  rcases rolloverTables_cases d s with h | h | ⟨n, h⟩ <;> rw [h]
  · exact (emptied_emptyCurrent s).tfe
  · exact (emptied_emptyCurrent _).tfe
  · exact promote_tfe n s

theorem carried_ttsRollover (d : Date) (c : RolloverCause) (s : State) : Carried s (ttsRollover d c s) := by
  unfold ttsRollover
  split
  · exact carried_tableEvent s
  · exact carried_rolloverTables d s

theorem ttsRollover_tfe (d : Date) (c : RolloverCause) (s : State) : (ttsRollover d c s).tfe = s.tfe := by
  unfold ttsRollover
  split
  · exact (kept_tableEvent s).tfe
  · exact rolloverTables_tfe d s

/-- At a first setting a current table of the date entered stays, and the next table with it (R23, R24). -/
theorem ttsRollover_first_kept {d : Date} {s : State} {t : CurrentTable} (h : s.tts.current = some t)
    (hd : t.header.date = d) : (ttsRollover d .first s).tts = s.tts := by
  have hany : s.tts.current.any (fun t => t.header.date = d) = true := by simpa [h] using hd
  unfold ttsRollover
  rw [if_pos ⟨rfl, hany⟩]
  exact (kept_tableEvent s).tts

/-- Else the rows of Table 2-5 are taken. -/
theorem ttsRollover_eq {d : Date} {c : RolloverCause} {s : State}
    (h : c = .first → ∀ t, s.tts.current = some t → t.header.date ≠ d) : ttsRollover d c s = rolloverTables d s := by
  unfold ttsRollover
  refine if_neg fun ⟨hc, hany⟩ => ?_
  obtain ⟨t, ht, hd⟩ := (Option.any_eq_true _ _).mp hany
  exact h hc t ht (of_decide_eq_true hd)

/-! ### The sale slot and the tariff (R61, R79) -/

theorem reacted_namesEvent (s : State) : Reacted s (namesEvent s) := reacted_requestEach _ s

theorem carried_activate (t : Tariff) (s : State) : Carried s (activate t s) :=
  (reacted_namesEvent _).carried.after ((reacted_decideSales _).carried.after
    ((reacted_withdraw _ _).carried.after ⟨rfl, rfl, rfl, fun _ h => h⟩))

/-- What activation leaves of the tables and of the tariffs (R60). -/
theorem activate_stores (t : Tariff) (s : State) : (activate t s).tts = s.tts ∧ (activate t s).tfe = ⟨some t, none⟩ := by
  have h := (reacted_withdraw .tariff { s with tfe.active := some t, tfe.pending := none }).kept
  have k := h.trans ((reacted_decideSales _).kept.trans (reacted_namesEvent _).kept)
  exact ⟨k.tts, k.tfe⟩

/-- The tariffs that a rollover leaves (R61). -/
def enteredTariffs (d : Date) (s : State) : Tfe := (tariffDue d s).elim s.tfe fun t => ⟨some t, none⟩

theorem carried_tfeRollover (d : Date) (s : State) : Carried s (tfeRollover d s) := by
  unfold tfeRollover
  cases tariffDue d s with
  | none => exact .refl s
  | some t => exact carried_activate t s

theorem tfeRollover_stores (d : Date) (s : State) :
    (tfeRollover d s).tts = s.tts ∧ (tfeRollover d s).tfe = enteredTariffs d s := by
  unfold tfeRollover enteredTariffs
  cases tariffDue d s with
  | none => exact ⟨rfl, rfl⟩
  | some t => exact activate_stores t s

/-- The tariff due depends on the tariffs alone. -/
theorem tariffDue_congr {d : Date} {s t : State} (h : t.tfe = s.tfe) : tariffDue d t = tariffDue d s := by
  unfold tariffDue
  rw [h]

theorem enteredTariffs_congr {d : Date} {s t : State} (h : t.tfe = s.tfe) : enteredTariffs d t = enteredTariffs d s := by
  unfold enteredTariffs
  rw [tariffDue_congr h, h]

/-- In whichever order the two come, the quote is withdrawn around what the rollover does to the tariffs. -/
theorem slotAndTariff_cases (d : Date) (s : State) : ∃ n, slotAndTariff d s = withdraw .day (tfeRollover d { s with free := n }) ∨
    slotAndTariff d s = tfeRollover d (withdraw .day { s with free := n }) := by
  unfold slotAndTariff
  dsimp only
  split
  · split
    · exact ⟨s.free + 1, .inr rfl⟩
    · exact ⟨s.free + 1, .inl rfl⟩
  · exact ⟨s.free, .inl rfl⟩

theorem carried_slotAndTariff (d : Date) (s : State) : Carried s (slotAndTariff d s) := by
  obtain ⟨n, h | h⟩ := slotAndTariff_cases d s <;> rw [h]
  · exact (reacted_withdraw _ _).carried.after ((carried_tfeRollover d _).after ⟨rfl, rfl, rfl, fun _ h => h⟩)
  · exact (carried_tfeRollover d _).after ((reacted_withdraw _ _).carried.after ⟨rfl, rfl, rfl, fun _ h => h⟩)

theorem slotAndTariff_stores (d : Date) (s : State) :
    (slotAndTariff d s).tts = s.tts ∧ (slotAndTariff d s).tfe = enteredTariffs d s := by
  obtain ⟨n, h | h⟩ := slotAndTariff_cases d s <;> rw [h]
  · obtain ⟨htts, htfe⟩ := tfeRollover_stores d { s with free := n }
    have hw := reacted_withdraw .day (tfeRollover d { s with free := n })
    exact ⟨hw.tts.trans htts, hw.tfe.trans htfe⟩
  · have hw := reacted_withdraw .day { s with free := n }
    obtain ⟨htts, htfe⟩ := tfeRollover_stores d (withdraw .day { s with free := n })
    exact ⟨htts.trans hw.tts, htfe.trans (enteredTariffs_congr hw.tfe)⟩

/-! ### The boards (R116, R117, R121) -/

theorem carried_boardsRollover (s : State) : Carried s (boardsRollover s) :=
  (reacted_requestAll _ _).carried.after (carried_keepMessages _ _ s)

/-- Both message lists stand empty after a rollover. -/
theorem boardsRollover_lists (s : State) : (boardsRollover s).bdc.host = [] ∧ (boardsRollover s).bdc.auto = [] := by
  have h := reacted_requestAll false (keepMessages (fun _ => false) (fun _ => false) s)
  have hlists : (keepMessages (fun _ => false) (fun _ => false) s).bdc.host = [] ∧
      (keepMessages (fun _ => false) (fun _ => false) s).bdc.auto = [] := by
    unfold keepMessages clearPosition
    split <;> exact ⟨List.filter_false _, List.filter_false _⟩
  exact ⟨h.host.trans hlists.1, h.auto.trans hlists.2⟩

theorem mem_waitingPanels_boardsRollover {s : State} {a : Addr}
    (h : ((boardsRollover s).bdc.profiles.get a).isPresent = true) : a ∈ waitingPanels (boardsRollover s) := by
  have hp := (reacted_requestAll false (keepMessages (fun _ => false) (fun _ => false) s)).profiles
  exact mem_waitingPanels_requestAll false (hp ▸ h)

theorem boardsEntered_iff (s : State) : BoardsEntered s ↔ s.bdc.host = [] ∧ s.bdc.auto = [] ∧
    ∀ a, (s.bdc.profiles.get a).isPresent = true → a ∈ waitingPanels s := by
  simp only [BoardsEntered, mem_waitingPanels]

theorem boardsEntered_boardsRollover (s : State) : BoardsEntered (boardsRollover s) :=
  (boardsEntered_iff _).mpr ⟨(boardsRollover_lists s).1, (boardsRollover_lists s).2, fun _ => mem_waitingPanels_boardsRollover⟩

/-- What stirs the part leaves the boards entered. -/
theorem BoardsEntered.stirred {s t : State} (h : BoardsEntered s) (hhost : t.bdc.host ⊆ s.bdc.host)
    (hauto : t.bdc.auto = s.bdc.auto) (hprofiles : t.bdc.profiles = s.bdc.profiles)
    (hwaits : waitingPanels s ⊆ waitingPanels t) : BoardsEntered t := by
  obtain ⟨hh, ha, hw⟩ := (boardsEntered_iff s).mp h
  refine (boardsEntered_iff t).mpr ⟨List.subset_nil.mp (hh ▸ hhost), hauto.trans ha, fun a hp => hwaits (hw a ?_)⟩
  rwa [← hprofiles]

/-! ### The whole event -/

/-- The part at a rollover before the wake and the record. -/
def rolledOver (e : RolloverEvent) (s : State) : State :=
  boardsRollover (slotAndTariff e.entered (ttsRollover e.entered e.cause s))

/-- The part at a rollover with its wake, before the record. -/
def rolledAwake (e : RolloverEvent) (s : State) : State :=
  internalEvent (rolledOver e s).awu.config.clock .clock (rolledOver e s)

theorem rolloverEvent_eq (e : RolloverEvent) (s : State) :
    rolloverEvent e s = recordDay e (tariffDue e.entered s) (rolledAwake e s) := rfl

theorem carried_rolledAwake (e : RolloverEvent) (s : State) : Carried s (rolledAwake e s) :=
  (stores_internalEvent _ _ _).carried.after ((carried_boardsRollover _).after
    ((carried_slotAndTariff _ _).after (carried_ttsRollover _ _ s)))

theorem carried_recordDay (e : RolloverEvent) (t : Option Tariff) (s : State) : Carried s (recordDay e t s) :=
  (reacted_raiseNotice _ _).carried.after ⟨rfl, rfl, rfl, fun _ h => h⟩

/-- A rollover leaves the tables as `ttsRollover` does, and the tariffs as R61 does. -/
theorem rolloverEvent_stores (e : RolloverEvent) (s : State) :
    (rolloverEvent e s).tts = (ttsRollover e.entered e.cause s).tts ∧
      (rolloverEvent e s).tfe = enteredTariffs e.entered s := by
  obtain ⟨htts, htfe⟩ := slotAndTariff_stores e.entered (ttsRollover e.entered e.cause s)
  have h := (kept_boardsRollover (slotAndTariff e.entered (ttsRollover e.entered e.cause s))).trans
    (stores_internalEvent (rolledOver e s).awu.config.clock .clock _).kept
  rw [rolloverEvent_eq]
  exact ⟨h.tts.trans htts, h.tfe.trans (htfe.trans (enteredTariffs_congr (ttsRollover_tfe _ _ s)))⟩

/-- A rollover clears no notice that the tables raise. -/
theorem rolloverEvent_raised {e : RolloverEvent} {s : State} {n : Nat}
    (h : (noticeAt (ttsRollover e.entered e.cause s) n).pending = true) : (noticeAt (rolloverEvent e s) n).pending = true :=
  ((carried_recordDay e _ _).after ((stores_internalEvent _ _ _).carried.after ((carried_boardsRollover _).after
    (carried_slotAndTariff _ _)))).raised n h

theorem boardsEntered_rolloverEvent (e : RolloverEvent) (s : State) : BoardsEntered (rolloverEvent e s) := by
  have h := stirred_internalEvent (rolledOver e s).awu.config.clock .clock (rolledOver e s)
  have hb : BoardsEntered (rolledAwake e s) :=
    (boardsEntered_boardsRollover _).stirred (h.host ▸ List.Subset.refl _) h.auto h.profiles h.waits
  exact hb

/-- What a date entered leaves (R7). -/
structure DateEntered (c : ClockSetting) (day : RolloverCause) (s t : State) : Prop where
  clock : t.clock = s.clock
  sjn : t.sjn = s.sjn
  length : t.hlk.notices.length = s.hlk.notices.length
  record : t.hlk.day = some ⟨c.date, day, (tariffDue c.date s).map (·.version)⟩
  dayRollover : s.hlk.notices.length = sourceCount → (noticeAt t 14).pending = true
  tts : t.tts = evaluatedTables (minuteOf c.tod) (ttsRollover c.date day s).tts
  noTimetable : (noticeAt (ttsRollover c.date day s) 15).pending = true → (noticeAt t 15).pending = true
  tfe : t.tfe = enteredTariffs c.date s
  boards : BoardsEntered t

theorem dateEntered_enterDate (c : ClockSetting) (left : Option Date) (day : RolloverCause) (minute : MinuteCause)
    (s : State) : DateEntered c day s (enterDate c left day minute s) := by
  obtain ⟨htts, htfe⟩ := rolloverEvent_stores ⟨c.date, left, day⟩ s
  have hawake := carried_rolledAwake ⟨c.date, left, day⟩ s
  have hroll : Carried s (rolloverEvent ⟨c.date, left, day⟩ s) := (carried_recordDay _ _ _).after hawake
  have hmin := stirred_minuteEvent (minuteAt c minute) (rolloverEvent ⟨c.date, left, day⟩ s)
  constructor
  case clock => exact hmin.clock.trans hroll.clock
  case sjn => exact hmin.sjn.trans hroll.sjn
  case length => exact hmin.notices_length.trans hroll.length
  case record => exact hmin.day
  case dayRollover =>
    exact fun hl => hmin.raised 14 (noticeAt_raiseNotice (src := .dayRollover) (hawake.length.trans hl))
  case tts => exact hmin.tts.trans (congrArg (evaluatedTables _) htts)
  case noTimetable => exact fun h => hmin.raised 15 (rolloverEvent_raised h)
  case tfe => exact hmin.tfe.trans htfe
  case boards =>
    exact (boardsEntered_rolloverEvent _ s).stirred (hmin.host ▸ List.filter_subset_self _) hmin.auto hmin.profiles hmin.waits

end Sys2Proof.Machine
end

section
/-! SUPPORT. A date entered, as the statements say it: the tables of Table 2-5 and the tariffs of R61. -/

namespace Sys2Proof.Machine

/-- An emptied current table, evaluated or not, is empty, and NO-TIMETABLE is pending. -/
theorem tableEmptied_of_dateEntered {c : ClockSetting} {day : RolloverCause} {s t u : State} (h : DateEntered c day s u)
    (hr : ttsRollover c.date day s = emptyCurrent t) (hl : t.hlk.notices.length = sourceCount) :
    u.tts.next = t.tts.next ∧ TableEmptied u := by
  have he := emptied_emptyCurrent t
  have htts := h.tts
  rw [hr, he.tts] at htts
  exact ⟨(congrArg Tts.next htts :), (congrArg Tts.current htts :), h.noTimetable (hr ▸ he.noTimetable hl)⟩

/-- A date entered moves the tables by Table 2-5, unless a first setting keeps the current table. -/
theorem DateEntered.tables {c : ClockSetting} {day : RolloverCause} {s w u : State} (h : DateEntered c day w u)
    (htts : w.tts = s.tts) (hl : w.hlk.notices.length = sourceCount)
    (hk : day = .first → ∀ t, s.tts.current = some t → t.header.date ≠ c.date) :
    TablesEntered c.date (minuteOf c.tod) s u := by
  have hr : ttsRollover c.date day w = rolloverTables c.date w := ttsRollover_eq (htts ▸ hk)
  refine ⟨fun hnone => ?_, fun n hn => ?_⟩
  · obtain ⟨hnext, hempty⟩ := tableEmptied_of_dateEntered h (hr.trans (rolloverTables_none (htts ▸ hnone))) hl
    exact ⟨hnext.trans (htts ▸ hnone), hempty⟩
  · have hwn : w.tts.next = some n := htts ▸ hn
    have hrow := hr.trans (rolloverTables_some hwn)
    have hkept (hx : ttsRollover c.date day w = emptyCurrent w) : u.tts.next = some n ∧ TableEmptied u := by
      obtain ⟨hnext, hempty⟩ := tableEmptied_of_dateEntered h hx hl
      exact ⟨hnext.trans hwn, hempty⟩
    refine ⟨fun hload => ?loading, fun hready hlater => ?later, fun hready hearlier => ?earlier, fun hready hdate => ?promoted⟩
    case loading => exact hkept (hrow.trans (if_pos hload))
    case later =>
      refine hkept (hrow.trans ?_)
      rw [if_neg (by simp [hready]), if_neg (ne_of_dateBefore hlater).symm, if_neg (by simp [dateBefore_asymm hlater])]
    case earlier =>
      refine tableEmptied_of_dateEntered (t := { w with tts.next := none }) h (hrow.trans ?_) hl
      rw [if_neg (by simp [hready]), if_neg (ne_of_dateBefore hearlier), if_pos hearlier]
    case promoted =>
      rw [if_neg (by simp [hready]), if_pos hdate] at hrow
      have hu := h.tts
      rw [hrow, promote_tts, htts, evaluatedTables_some rfl] at hu
      exact ⟨congrArg Tts.next hu, (congrArg Tts.current hu).trans (by rw [List.map_map]; rfl)⟩

/-- A first setting keeps a current table of the date entered, evaluated, and the next table with it (R23, R24). -/
theorem DateEntered.keptTable {c : ClockSetting} {w u : State} {t : CurrentTable} (h : DateEntered c .first w u)
    (ht : w.tts.current = some t) (hd : t.header.date = c.date) : u.tts.next = w.tts.next ∧
      u.tts.current = some { t with services := t.services.map (evaluateService w.tts.grace w.tts.window (minuteOf c.tod)) } := by
  have hu := h.tts
  rw [ttsRollover_first_kept ht hd, evaluatedTables_some ht] at hu
  exact ⟨(congrArg Tts.next hu :), (congrArg Tts.current hu :)⟩

/-- The tariff that is due: a READY pending one with rules whose date has come (R61). -/
theorem tariffDue_some {d : Date} {s : State} {p : PendingTariff} (h : s.tfe.pending = some p) : tariffDue d s =
    if p.ready = true ∧ dateBefore d p.effective = false then pendingTariff p else none := by
  unfold tariffDue dateUpTo
  rw [h, Option.bind_some]
  simp only [Bool.and_eq_true, Bool.not_eq_true']

/-- A date entered activates a READY tariff whose date has come, and leaves the tariffs alone otherwise (R61). -/
theorem DateEntered.tariff {c : ClockSetting} {day : RolloverCause} {s w u : State} (h : DateEntered c day w u)
    (htfe : w.tfe = s.tfe) : TariffEntered c.date s u := by
  have hu := h.tfe.trans (enteredTariffs_congr htfe)
  unfold enteredTariffs at hu
  refine ⟨fun hnone => ?_, fun p hp => ⟨fun hnot => ?_, fun r hready hdate hrules => ?_⟩⟩
  · have hdue : tariffDue c.date s = none := by
      unfold tariffDue
      rw [hnone]
      rfl
    rwa [hdue] at hu
  · have hdue : tariffDue c.date s = none := by
      rw [tariffDue_some hp]
      refine if_neg fun ⟨hready, hdate⟩ => ?_
      rcases hnot with hload | hlater
      · simp [hload] at hready
      · simp [hlater] at hdate
    rwa [hdue] at hu
  · have hdue : tariffDue c.date s = some ⟨p.version, p.effective, p.stations, r⟩ := by
      rw [tariffDue_some hp, if_pos ⟨hready, hdate⟩, pendingTariff, hrules]
      rfl
    rwa [hdue] at hu

end Sys2Proof.Machine
end

section
/-! SUPPORT. CLOCK-SET: refused, a first setting, or a step (R8 to R10); and the rollover of each (R7). -/

namespace Sys2Proof.Machine

/-! ### The rule, case by case -/

section
variable {y mo d h mi sec : Nat} {s : State}

/-- The clock position that a CLOCK-SET names (R2). -/
def positionSet (y mo d h mi sec : Nat) : Date × Nat := clockPosition ⟨y, mo, d⟩ (3600 * h + 60 * mi + sec)

theorem clockSetRule_refused (hbad : clockFieldsInRange y mo d h mi sec = false ∨
    inSpan (positionSet y mo d h mi sec).1 = false) :
    clockSetRule y mo d h mi sec s = (s, clockRefusal .field s) := by
  unfold clockSetRule
  refine if_pos ?_
  rcases hbad with h | h
  · rw [h]
    rfl
  · rw [Bool.or_eq_true]
    exact .inr (congrArg not h)

theorem clockSetRule_taken (hf : clockFieldsInRange y mo d h mi sec = true)
    (hp : inSpan (positionSet y mo d h mi sec).1 = true) :
    clockSetRule y mo d h mi sec s = s.clock.elim
      (firstSetting (positionSet y mo d h mi sec).1 (positionSet y mo d h mi sec).2 s,
        clockPlacedAnswer true (firstSetting (positionSet y mo d h mi sec).1 (positionSet y mo d h mi sec).2 s))
      fun c => stepClock c (positionSet y mo d h mi sec).1 (positionSet y mo d h mi sec).2 s := by
  unfold clockSetRule
  dsimp only
  rw [if_neg]
  · cases s.clock <;> rfl
  · rw [hf, show inSpan (clockPosition ⟨y, mo, d⟩ (3600 * h + 60 * mi + sec)).1 = true from hp]
    decide

/-- A CLOCK-SET does what its rule says. -/
theorem does_clockSet {u : State} {a : Answer} (hl : Listens s) (hr : clockSetRule y mo d h mi sec (atOwner s) = (u, a)) :
    Does (.clockSet y mo d h mi sec) s 0x90#8 a u :=
  does_of_rule hl rfl rfl rfl hr

/-- The first setting of an UNSET clock. -/
theorem does_firstSetting (hl : Listens s) (hc : s.clock = none) (hf : clockFieldsInRange y mo d h mi sec = true)
    (hp : inSpan (positionSet y mo d h mi sec).1 = true) :
    let u := firstSetting (positionSet y mo d h mi sec).1 (positionSet y mo d h mi sec).2 (atOwner s)
    Does (.clockSet y mo d h mi sec) s 0x90#8 (done (.clockPlaced (clockFields u) true)) u := by
  refine does_clockSet hl ((clockSetRule_taken hf hp).trans ?_)
  rw [atOwner_clock, hc]
  rfl

/-- A step of a SET clock. -/
theorem does_stepClock {c : ClockSetting} {u : State} {a : Answer} (hl : Listens s) (hc : s.clock = some c)
    (hf : clockFieldsInRange y mo d h mi sec = true) (hp : inSpan (positionSet y mo d h mi sec).1 = true)
    (hr : stepClock c (positionSet y mo d h mi sec).1 (positionSet y mo d h mi sec).2 (atOwner s) = (u, a)) :
    Does (.clockSet y mo d h mi sec) s 0x90#8 a u := by
  refine does_clockSet hl ((clockSetRule_taken hf hp).trans ?_)
  rw [atOwner_clock, hc]
  exact hr

end

/-- The clock fields depend on the clock alone. -/
theorem clockFields_congr {s t : State} (h : t.clock = s.clock) : clockFields t = clockFields s := by
  unfold clockFields
  rw [h]

/-- A clock placed answers with the fields as they stand after it, in a state that keeps the stores. -/
theorem Does.clockPlaced {c : Instr} {s u : State} {k : Byte} {b : Bool}
    (h : Does c s k (done (.clockPlaced (clockFields u) b)) u) :
    ∃ t, exec c s = .next t ∧ replied k (done (.clockPlaced (clockFields t) b)) t ∧ StoresKept u t := by
  obtain ⟨hexec, hkept, -⟩ := h
  refine ⟨_, hexec, ?_, hkept⟩
  rw [clockFields_congr hkept.clock]
  rfl

/-! ### The first setting -/

/-- The part as the first setting finds it at the rollover: the clock placed, the lamp and the sales reasons following. -/
def firstPlaced (date : Date) (tod : Nat) (s : State) : State := decideSales (setLamp (placeClock ⟨date, tod, 0, none⟩ s))

theorem stores_firstPlaced (date : Date) (tod : Nat) (s : State) :
    StoresKept { s with clock := some ⟨date, tod, 0, none⟩ } (firstPlaced date tod s) :=
  (reacted_setLamp (placeClock ⟨date, tod, 0, none⟩ s)).toStoresKept.trans (reacted_decideSales _).toStoresKept

theorem dateEntered_firstSetting (date : Date) (tod : Nat) (s : State) :
    DateEntered ⟨date, tod, 0, none⟩ .first (firstPlaced date tod s) (firstSetting date tod s) :=
  dateEntered_enterDate _ _ _ _ _

/-- Settles O17, by the case of the rule, and the date entered at a first setting. -/
theorem clockSetRefusesOrSetsFirst : Obligations.ClockSetRefusesOrSetsFirst := by
  refine ⟨fun y mo d h mi sec s hl hbad => ?refused, fun y mo d h mi sec s hl hc hn hf => ?first,
    fun y mo d h mi sec => ?ranges⟩
  case refused =>
    rw [← clockFields_atOwner s]
    exact does_clockSet hl (clockSetRule_refused hbad)
  case first =>
    intro p hp
    have hplaced := stores_firstPlaced p.1 p.2 (atOwner s)
    have hentered := dateEntered_firstSetting p.1 p.2 (atOwner s)
    obtain ⟨t, hexec, hreply, hkept⟩ := (does_firstSetting hl hc hf hp).clockPlaced
    have hlength : (firstPlaced p.1 p.2 (atOwner s)).hlk.notices.length = sourceCount :=
      hplaced.notices_length.trans ((atOwner_notices_length s).trans hn)
    have hdue : tariffDue p.1 (firstPlaced p.1 p.2 (atOwner s)) = tariffDue p.1 s :=
      tariffDue_congr (hplaced.tfe.trans (atOwner_tfe s))
    refine ⟨t, hexec, ?_, hreply, ?_, ?_, ?_⟩
    · exact hkept.clock.trans (hentered.clock.trans hplaced.clock)
    · rw [← hdue]
      exact hkept.day.trans hentered.record
    · exact hkept.raised 14 (hentered.dayRollover hlength)
    · exact hkept.sjn.trans (hentered.sjn.trans (hplaced.sjn.trans (atOwner_sjn s)))
  case ranges =>
    have hreal := realDate_iff ⟨y, mo, d⟩
    rw [daysInMonth_eq] at hreal
    refine ⟨?_, ?_⟩
    · rw [inSpan_iff, hreal]
      tauto
    · simp only [clockFieldsInRange, within, Bool.and_eq_true, decide_eq_true_eq, hreal]
      tauto

/-! ### A step -/

theorem stepClock_backward {c : ClockSetting} {date : Date} {tod : Nat} {s : State} (h : dateBefore date c.date = true) :
    stepClock c date tod s = (s, clockRefusal .backward s) := if_pos h

theorem stepClock_tooFar {c : ClockSetting} {date : Date} {tod : Nat} {s : State} (h : dateBefore date c.date = false)
    (hf : dayNumber c.date + 366 < dayNumber date) : stepClock c date tod s = (s, clockRefusal .tooFar s) := by
  unfold stepClock
  rw [if_neg (by simp [h]), if_pos hf]

/-- The clock as a step leaves it (R10). -/
def stepped (c : ClockSetting) (date : Date) (tod : Nat) : ClockSetting := ⟨date, tod, 0, some (stepSeconds c date tod)⟩

/-- A step on the same date gives the minute event alone. -/
theorem stepClock_sameDate {c : ClockSetting} {date : Date} {tod : Nat} {s : State} (h : date = c.date) :
    let u := minuteEvent ⟨date, tod / 60, .set⟩ { s with clock := some (stepped c date tod) }
    stepClock c date tod s = (u, done (.clockPlaced (clockFields u) false)) := by
  unfold stepClock
  rw [if_neg (by simp [h, dateBefore_irrefl]), if_neg (by rw [h]; omega)]
  dsimp only
  rw [if_pos h]
  rfl

theorem stepClock_laterDate {c : ClockSetting} {date : Date} {tod : Nat} {s : State} (h : dateBefore date c.date = false)
    (hf : dayNumber date ≤ dayNumber c.date + 366) (hne : date ≠ c.date) :
    let u := enterDate (stepped c date tod) (some c.date) .step .set { s with clock := some (stepped c date tod) }
    stepClock c date tod s = (u, done (.clockPlaced (clockFields u) true)) := by
  unfold stepClock
  rw [if_neg (by simp [h]), if_neg (by omega)]
  dsimp only
  rw [if_neg hne]
  rfl

/-- Settles O18, by the case of the rule: refused, a minute event on the same date, or a later date entered. -/
theorem clockSteps : Obligations.ClockSteps := by
  intro y mo d h mi sec s c hl hc hf p ahead last hp
  refine ⟨fun hback => ?backward, fun hnot hfar => ?tooFar, fun hnot hnear => ?taken⟩
  case backward =>
    rw [← clockFields_atOwner s]
    exact does_stepClock hl hc hf hp (stepClock_backward hback)
  case tooFar =>
    rw [← clockFields_atOwner s]
    exact does_stepClock hl hc hf hp (stepClock_tooFar hnot (show dayNumber c.date + 366 < dayNumber p.1 by omega))
  case taken =>
    by_cases hdate : p.1 = c.date
    · have hdoes := does_stepClock hl hc hf hp (stepClock_sameDate hdate)
      have hmin := stirred_minuteEvent ⟨p.1, p.2 / 60, .set⟩ { atOwner s with clock := some (stepped c p.1 p.2) }
      obtain ⟨t, hexec, hreply, hkept⟩ := hdoes.clockPlaced
      refine ⟨t, hexec, hkept.clock.trans hmin.clock, by rwa [decide_eq_false (by simpa using hdate)],
        hkept.sjn.trans (hmin.sjn.trans (atOwner_sjn s)), fun _ => ⟨?_, ?_, hdoes, ?_⟩, fun hne => absurd hdate hne⟩
      · exact hkept.day.trans (hmin.day.trans (atOwner_hlk_day s))
      · exact hkept.tfe.trans (hmin.tfe.trans (atOwner_tfe s))
      · exact minuteTaken (e := ⟨p.1, p.2 / 60, .set⟩) (c := stepped c p.1 p.2) rfl rfl
    · have hentered := dateEntered_enterDate (stepped c p.1 p.2) (some c.date) .step .set
        { atOwner s with clock := some (stepped c p.1 p.2) }
      have hdoes := does_stepClock hl hc hf hp
        (stepClock_laterDate hnot (show dayNumber p.1 ≤ dayNumber c.date + 366 by omega) hdate)
      obtain ⟨t, hexec, hreply, hkept⟩ := hdoes.clockPlaced
      refine ⟨t, hexec, hkept.clock.trans hentered.clock, by rwa [decide_eq_true hdate],
        hkept.sjn.trans (hentered.sjn.trans (atOwner_sjn s)), fun h => absurd h hdate, fun _ => ?_⟩
      have hdue : tariffDue p.1 { atOwner s with clock := some (stepped c p.1 p.2) } = tariffDue p.1 s :=
        tariffDue_congr (atOwner_tfe s)
      exact hkept.day.trans (hentered.record.trans (hdue ▸ rfl))

/-! ### The end of the service day and the rollovers -/

/-- Before the last date the end of the service day enters the next one (R5). -/
theorem clockTick_dayEnd {c : ClockSetting} {s : State} (h : c.tod = 86399) (hd : dateBefore c.date lastDate = true) :
    let d : ClockSetting := { c with date := nextDate c.date, tod := 0, phase := 0 }
    clockTick c s = enterDate d (some c.date) .count .count { s with clock := some d } := by
  unfold clockTick
  rw [if_neg (by omega), if_pos hd]
  rfl

/-- Settles O19: every rollover enters a date, and a date entered moves tables, tariffs and boards. -/
theorem rolloverMovesTablesAndTariff : Obligations.RolloverMovesTablesAndTariff := by
  refine ⟨fun s c hpow hn hc htod hlast => ?count, fun y mo d h mi sec s hl hn hf => ?set⟩
  case count =>
    have hentered := dateEntered_enterDate { c with date := nextDate c.date, tod := 0, phase := 0 } (some c.date) .count .count
      { s with clock := some { c with date := nextDate c.date, tod := 0, phase := 0 } }
    have hzero : minuteOf 0 = 0 := by decide
    exact ⟨happens_clockSecond hpow ((clockSecondEvent_set hc).trans (clockTick_dayEnd htod hlast)),
      hzero ▸ hentered.tables (s := s) rfl hn nofun, hentered.tariff (s := s) rfl, hentered.boards⟩
  case set =>
    intro p w evaluate answers hp
    refine ⟨fun c hc hlater hnear => ?step, fun hc => ?first⟩
    case step =>
      have hentered := dateEntered_enterDate (stepped c p.1 p.2) (some c.date) .step .set
        { w with clock := some (stepped c p.1 p.2) }
      exact ⟨does_stepClock hl hc hf hp (stepClock_laterDate (dateBefore_asymm hlater) hnear (ne_of_dateBefore hlater).symm),
        hentered.tables (atOwner_tts s) ((atOwner_notices_length s).trans hn) nofun, hentered.tariff (atOwner_tfe s),
        hentered.boards⟩
    case first =>
      have hplaced := stores_firstPlaced p.1 p.2 w
      have htts : (firstPlaced p.1 p.2 w).tts = s.tts := hplaced.tts.trans (atOwner_tts s)
      have hlength : (firstPlaced p.1 p.2 w).hlk.notices.length = sourceCount :=
        hplaced.notices_length.trans ((atOwner_notices_length s).trans hn)
      have hentered := dateEntered_firstSetting p.1 p.2 w
      refine ⟨does_firstSetting hl hc hf hp, hentered.tariff (hplaced.tfe.trans (atOwner_tfe s)), hentered.boards,
        fun hother => hentered.tables htts hlength fun _ => hother, fun c hcur hdate => ?_⟩
      have hkeptTable := hentered.keptTable (htts ▸ hcur) hdate
      rwa [htts] at hkeptTable

end Sys2Proof.Machine
end

section
/-! SUPPORT. The requests that read, each rule said once by the case of the state it reads (R12, R26, R62, R72, R107, R128,
R144, R161). -/

namespace Sys2Proof.Machine

/-! ### The clock and the tables -/

theorem clockFields_unset {s : State} (h : s.clock = none) : clockFields s = none := by
  unfold clockFields
  rw [h]
  rfl

theorem clockFields_set {s : State} {c : ClockSetting} (h : s.clock = some c) :
    let l := localPosition c.date c.tod
    clockFields s =
      some ⟨c.date, c.tod, c.tod / 60, l.1, l.2 / 3600, l.2 / 60 % 60, l.2 % 60, c.lastStep⟩ := by
  unfold clockFields
  rw [h]
  rfl

/-- The answer of TABLE-READ to what it finds at an index (R26). -/
def tableReadAnswer (state : LoadState) (heading : Option Header) (count : Nat) (record : Option TableRecord) : Answer :=
  ⟨if record.isSome then .done else .noneLeft, .none, .tableRead state heading count record⟩

theorem tableReadRule_range {sel : TableSel} {i : Nat} {s : State} (h : 95 < i) :
    tableReadRule (.named sel) i s = (s, refuse .range .field) := if_pos h

theorem tableReadRule_empty {i : Nat} {s : State} (hi : i ≤ 95) (h : s.tts.current = none) :
    tableReadRule (.named .current) i s = (s, tableReadAnswer .empty none 0 none) := by
  unfold tableReadRule
  dsimp only
  rw [if_neg (by omega), h]
  rfl

theorem tableReadRule_current {i : Nat} {s : State} {t : CurrentTable} (hi : i ≤ 95) (h : s.tts.current = some t) :
    tableReadRule (.named .current) i s =
      (s, tableReadAnswer .present (some t.header) t.services.length (t.services[i]?.map .current)) := by
  unfold tableReadRule
  dsimp only
  rw [if_neg (by omega), h]
  rfl

theorem tableReadRule_noNext {i : Nat} {s : State} (hi : i ≤ 95) (h : s.tts.next = none) :
    tableReadRule (.named .next) i s = (s, tableReadAnswer .none none 0 none) := by
  unfold tableReadRule nextLoadState
  dsimp only
  rw [if_neg (by omega), h]
  rfl

theorem tableReadRule_next {i : Nat} {s : State} {t : NextTable} (hi : i ≤ 95) (h : s.tts.next = some t) :
    tableReadRule (.named .next) i s = (s, tableReadAnswer (if t.ready then .ready else .loading) (some t.header)
      t.records.length (t.records[i]?.map .planned)) := by
  unfold tableReadRule nextLoadState
  dsimp only
  rw [if_neg (by omega), h]
  rfl

/-! ### The tariffs -/

/-- What TARIFF-READ and FARE-TRIAL see of a tariff is what `Selected` says. -/
theorem viewTariff_of_selected {s : State} {sel : TariffSel} {st : LoadState} {h : Option (Nat × Date)} {l : List Station}
    {r : Option Rules} (hs : Selected s sel st h l r) : viewTariff sel s = ⟨st, h, l, r⟩ := by
  unfold viewTariff
  cases sel
  case active =>
    obtain ⟨hnone, rfl, rfl, rfl, rfl⟩ | ⟨t, hsome, rfl, rfl, rfl, rfl⟩ := hs
    · rw [hnone]
    · rw [hsome]
  case pending =>
    obtain ⟨hnone, rfl, rfl, rfl, rfl⟩ | ⟨t, hsome, rfl, rfl, rfl, rfl⟩ := hs
    · rw [hnone]
    · rw [hsome]

section
variable {s : State} {sel : TariffSel} {st : LoadState} {h : Option (Nat × Date)} {l : List Station} {r : Option Rules}
  {i : Nat}

theorem tariffReadRule_summary (hv : viewTariff sel s = ⟨st, h, l, r⟩) :
    tariffReadRule (.named sel) (.named .summary) i s =
      (s, done (.tariffSummary st (h.map fun x => ⟨x.1, x.2, l.length, r.isSome⟩))) := by
  unfold tariffReadRule
  dsimp only
  rw [hv]

theorem tariffReadRule_range (hi : 47 < i) :
    tariffReadRule (.named sel) (.named .station) i s = (s, refuse .range .field) := if_pos hi

theorem tariffReadRule_station (hv : viewTariff sel s = ⟨st, h, l, r⟩) (hi : i ≤ 47) :
    tariffReadRule (.named sel) (.named .station) i s =
      (s, l[i]?.elim ⟨.noneLeft, .none, .noStation st l.length⟩ fun x => done (.station x)) := by
  unfold tariffReadRule
  dsimp only
  rw [if_neg (by omega), hv]
  cases l[i]? <;> rfl

theorem tariffReadRule_rules (hv : viewTariff sel s = ⟨st, h, l, r⟩) :
    tariffReadRule (.named sel) (.named .rules) i s =
      (s, r.elim ⟨.noneLeft, .none, .noRules st⟩ fun q => done (.rules q)) := by
  unfold tariffReadRule
  dsimp only
  rw [hv]
  cases r <;> rfl

end

/-! ### A trial fare -/

/-- The answer of FARE-TRIAL to a fare worked or not (R72). -/
def trialAnswer : FareAnswer → Answer
  | .unknownStation => refuse .unknown .station
  | .unusedClass => refuse .range .cls
  | .worked result stages => done (.trial result stages)

section
variable {s : State} {sel : TariffSel} {st : LoadState} {h : Option (Nat × Date)} {l : List Station} {r : Option Rules}
  {code cls n : Nat} {k : TicketType} {pk : PeakSel}

theorem trialInRange_iff : trialInRange (.named sel) code (.named k) cls n (.named pk) = true ↔
    1 ≤ code ∧ code ≤ 63 ∧ cls ≤ 7 ∧ 1 ≤ n ∧ n ≤ 9 := by
  simp [trialInRange, within, codedValue, and_assoc]

theorem fareTrialRule_range (hr : ¬(1 ≤ code ∧ code ≤ 63 ∧ cls ≤ 7 ∧ 1 ≤ n ∧ n ≤ 9)) :
    fareTrialRule (.named sel) code (.named k) cls n (.named pk) s = (s, refuse .range .field) := by
  unfold fareTrialRule
  rw [if_pos (by rw [Bool.not_eq_true', ← Bool.not_eq_true, trialInRange_iff]; exact hr)]

/-- Without a station or without rules no fare is tried. -/
theorem fareTrialRule_notReady (hv : viewTariff sel s = ⟨st, h, l, r⟩)
    (hr : 1 ≤ code ∧ code ≤ 63 ∧ cls ≤ 7 ∧ 1 ≤ n ∧ n ≤ 9) (hn : l = [] ∨ r = none) :
    fareTrialRule (.named sel) code (.named k) cls n (.named pk) s = (s, refuse .notReady .none) := by
  unfold fareTrialRule
  rw [if_neg (by rw [Bool.not_eq_true', trialInRange_iff.mpr hr]; decide)]
  dsimp only
  rw [hv]
  dsimp only
  cases h with
  | none => rfl
  | some v =>
    cases r with
    | none => rfl
    | some q =>
      obtain rfl := hn.resolve_right (by simp)
      rfl

/-- With both, the fare is worked from them. -/
theorem fareTrialRule_worked {v : Nat × Date} {q : Rules} (hv : viewTariff sel s = ⟨st, some v, l, some q⟩)
    (hr : 1 ≤ code ∧ code ≤ 63 ∧ cls ≤ 7 ∧ 1 ≤ n ∧ n ≤ 9) (hl : l ≠ []) :
    fareTrialRule (.named sel) code (.named k) cls n (.named pk) s =
      (s, trialAnswer (workFare v.1 l q code k cls n (pk == .inPeak))) := by
  unfold fareTrialRule
  rw [if_neg (by rw [Bool.not_eq_true', trialInRange_iff.mpr hr]; decide)]
  dsimp only
  rw [hv]
  dsimp only
  rw [if_neg (by simpa using hl)]
  cases workFare v.1 l q code k cls n (pk == .inPeak) <;> rfl

end

/-- The rule of a class: class 0 has no discount and no exemption; the others are those of the rules (R54). -/
theorem classRule_eq_some {q : Rules} {cls : Nat} {c : ClassRule}
    (h : (cls = 0 ∧ c = ⟨0, false⟩) ∨ (0 < cls ∧ q.classes[cls - 1]? = some (some c))) : classRule q cls = some c := by
  cases cls with
  | zero =>
    obtain ⟨-, rfl⟩ | ⟨h0, -⟩ := h
    · rfl
    · omega
  | succ m =>
    obtain ⟨h0, -⟩ | ⟨-, hc⟩ := h
    · omega
    · exact congrArg Option.join hc

theorem classRule_eq_none {q : Rules} {cls : Nat} (h0 : 0 < cls) (h : ∀ c, q.classes[cls - 1]? ≠ some (some c)) :
    classRule q cls = none := by
  cases cls with
  | zero => omega
  | succ m =>
    simp only [Nat.add_sub_cancel] at h
    have hjoin : classRule q (m + 1) = (q.classes[m]?).join := rfl
    rw [hjoin]
    rcases hm : q.classes[m]? with _ | _ | c
    · rfl
    · rfl
    · exact absurd hm (h c)

section
variable {v : Nat} {l : List Station} {q : Rules} {code cls n : Nat} {k : TicketType} {inPeak : Bool}

theorem workFare_unknown (h : ∀ x ∈ l, x.code ≠ code) : workFare v l q code k cls n inPeak = .unknownStation := by
  have hfind : l.find? (fun x => x.code == code) = none := by simpa using h
  unfold workFare
  rw [hfind]

theorem workFare_unused {x : Station} (hx : l.find? (fun y => y.code == code) = some x) (hc : classRule q cls = none) :
    workFare v l q code k cls n inPeak = .unusedClass := by
  unfold workFare
  rw [hx]
  dsimp only
  rw [hc]

theorem workFare_worked {x : Station} {c : ClassRule} (hx : l.find? (fun y => y.code == code) = some x)
    (hc : classRule q cls = some c) :
    let peak := inPeak && !c.exempt
    let f := fareStages q x.distance k c n (if peak then q.surcharge else 0)
    workFare v l q code k cls n inPeak = .worked ⟨x.name, x.side, f.fare, f.total, peak, v⟩ f := by
  unfold workFare
  rw [hx]
  dsimp only
  rw [hc]

end

/-! ### Boards, line and energy -/

theorem servingLevel_eq (s : State) :
    servingLevel s = match s.enm.transition with | .lowering d => d | _ => s.enm.present := by
  unfold servingLevel loweringTo
  cases s.enm.transition <;> rfl

theorem levelEnabled_eq (s : State) (l : Level) :
    levelEnabled s l = decide (l = .el4 ∨ l = .el5 ∨ (s.enm.table.get l).draw ≤ s.enm.capacity) := by
  unfold levelEnabled levelEntry
  cases l <;> simp [resting]

/-- A lowering waits for a sale that prints toward EL4 and EL5 alone (R159). -/
theorem waitsForPrint_eq (d : Level) (x : SlotState) :
    (resting d && x == .printing) = decide ((d = .el4 ∨ d = .el5) ∧ x = .printing) := by
  rw [Bool.eq_iff_iff, decide_eq_true_iff, Bool.and_eq_true, resting_iff, beq_iff_eq]

/-! ### The requests -/

/-- Settles O10, by the rule of each request in the case of what it reads. -/
theorem readsAndDeviceRequestsAnswered : Obligations.ReadsAndDeviceRequestsAnswered := by
  refine ⟨fun s hl => ?device, fun sel i s hl => ?tables, fun sel st h l r i s hl hs => ?tariffs, fun s hl => ?takings,
    fun s hl => ?reports⟩
  case device =>
    refine ⟨does_of_rule hl rfl rfl rfl rfl, does_of_rule hl rfl rfl rfl rfl, fun hc => ?_, fun c hc => ?_⟩
    · rw [← clockFields_unset hc, ← clockFields_atOwner s]
      exact does_of_rule hl rfl rfl rfl rfl
    · intro l
      rw [← clockFields_set hc, ← clockFields_atOwner s]
      exact does_of_rule hl rfl rfl rfl rfl
  case tables =>
    refine ⟨fun hi => does_of_rule hl rfl rfl rfl (tableReadRule_range hi), fun hi => ?_⟩
    refine ⟨?empty, ?noNext, fun t => ?current, fun t => ?next⟩
    case empty =>
      rintro rfl hnone
      exact does_of_rule hl rfl rfl rfl (tableReadRule_empty hi (atOwner_tts s ▸ hnone))
    case noNext =>
      rintro rfl hnone
      exact does_of_rule hl rfl rfl rfl (tableReadRule_noNext hi (atOwner_tts s ▸ hnone))
    case current =>
      rintro rfl ht
      have hrule := tableReadRule_current (s := atOwner s) hi (atOwner_tts s ▸ ht)
      refine ⟨fun v hv => ?_, fun hlen => ?_⟩
      · rw [hv] at hrule
        exact does_of_rule hl rfl rfl rfl hrule
      · rw [List.getElem?_eq_none hlen] at hrule
        exact does_of_rule hl rfl rfl rfl hrule
    case next =>
      rintro rfl ht
      have hrule := tableReadRule_next (s := atOwner s) hi (atOwner_tts s ▸ ht)
      refine ⟨fun v hv => ?_, fun hlen => ?_⟩
      · rw [hv] at hrule
        exact does_of_rule hl rfl rfl rfl hrule
      · rw [List.getElem?_eq_none hlen] at hrule
        exact does_of_rule hl rfl rfl rfl hrule
  case tariffs =>
    have hv : viewTariff sel (atOwner s) = ⟨st, h, l, r⟩ := by
      refine viewTariff_of_selected ?_
      unfold Selected
      rw [atOwner_tfe]
      exact hs
    refine ⟨does_of_rule hl rfl rfl rfl (tariffReadRule_summary hv), fun hi => does_of_rule hl rfl rfl rfl (tariffReadRule_range hi),
      fun hi => ⟨fun x hx => ?found, fun hlen => ?absent⟩, fun q hq => ?rules, fun hq => ?noRules, fun code cls n k pk => ?trial⟩
    case found =>
      have hrule := tariffReadRule_station hv hi
      rw [hx] at hrule
      exact does_of_rule hl rfl rfl rfl hrule
    case absent =>
      have hrule := tariffReadRule_station hv hi
      rw [List.getElem?_eq_none hlen] at hrule
      exact does_of_rule hl rfl rfl rfl hrule
    case rules =>
      subst hq
      exact does_of_rule hl rfl rfl rfl (tariffReadRule_rules hv)
    case noRules =>
      subst hq
      exact does_of_rule hl rfl rfl rfl (tariffReadRule_rules hv)
    case trial =>
      refine ⟨fun hr => does_of_rule hl rfl rfl rfl (fareTrialRule_range hr), fun hr => ⟨fun hn => ?_, fun q v hq hh => ?_⟩⟩
      · exact does_of_rule hl rfl rfl rfl (fareTrialRule_notReady hv hr hn)
      · obtain ⟨w, rfl, rfl⟩ := Option.map_eq_some_iff.mp hh
        subst hq
        have hrule (hne : l ≠ []) := fareTrialRule_worked (k := k) (pk := pk) hv hr hne
        refine ⟨fun hne hall => ?_, fun x hx => ⟨fun h0 hno => ?_, fun c hc => ?_⟩⟩
        · exact does_of_rule hl rfl rfl rfl ((hrule hne).trans (by rw [workFare_unknown hall]; rfl))
        · have hne : l ≠ [] := by rintro rfl; cases hx
          exact does_of_rule hl rfl rfl rfl ((hrule hne).trans (by rw [workFare_unused hx (classRule_eq_none h0 hno)]; rfl))
        · have hne : l ≠ [] := by rintro rfl; cases hx
          exact does_of_rule hl rfl rfl rfl ((hrule hne).trans (by rw [workFare_worked hx (classRule_eq_some hc)]; rfl))
  case takings =>
    rw [← atOwner_sjn s]
    exact does_of_rule hl rfl rfl rfl rfl
  case reports =>
    refine ⟨does_of_rule hl rfl rfl rfl ?board, does_of_rule hl rfl rfl rfl ?panel, does_of_rule hl rfl rfl rfl ?energy⟩
    case board =>
      unfold boardStatusRule
      rw [servingLevel_eq, ← atOwner_enm_table s]
      rfl
    case panel =>
      unfold panelStatusRule lineReport
      rcases (atOwner s).plc.line with _ | ⟨a, _ | _, ph, x⟩ <;> rfl
    case energy =>
      unfold energyStatusRule energyPhase enabledSet
      rcases (atOwner s).enm.transition with _ | ⟨d, n⟩ | d <;>
        simp only [levelEnabled_eq, waitsForPrint_eq, atOwner_enm_table, atOwner_enm_capacity, atOwner_enm_ceiling,
          atOwner_enm_effective, atOwner_enm_battery, atOwner_enm_quietLimit, atOwner_enm_hostLimit, atOwner_enm_charge,
          atOwner_enm_stale, atOwner_enm_staleTimer]

end Sys2Proof.Machine
end

section
/-! SUPPORT. The end of the clock's range and a held quote (R5, R90). -/

namespace Sys2Proof.Machine

/-- The last second of the clock's range at EL3, in a brief episode, with a quote held and the demand at EL4. Its QUIET limit
is EL5, a value that R152 never gives it: the limit holds the target at the EL3 of the episode. -/
def quotedUnderStrictQuiet : State :=
  { State.reset with
    clock := some ⟨lastDate, 86399, 0, none⟩
    slc.slot := .quoted ⟨23, [], .down, .ret, 0, 1, none, 750, 750, false, 31⟩ 120000
    enm.battery := none
    enm.quietLimit := some .el5
    enm.present := .el3
    enm.target := .el3
    enm.transition := .none
    awu.demand := .el4
    awu.timer := .held
    awu.brief := true }

/-- Its level stands at its target. -/
theorem quotedUnderStrictQuiet_atTarget : quotedUnderStrictQuiet.enm.present = computeTarget quotedUnderStrictQuiet := by
  decide

/-- When the clock goes UNSET and the QUIET limit goes, the target falls to the demand's EL4, and the lowering toward it
withdraws the quote (R89). -/
theorem unsetClock_quotedUnderStrictQuiet : (unsetClock quotedUnderStrictQuiet).enm.transition = .lowering .el4 ∧
    (unsetClock quotedUnderStrictQuiet).slc.slot = .idle := by
  decide

/-- Refutes O16: the statement asks that the quote stays at the unset signal wherever the level stands at its target before
it. It bounds the QUIET limit in no way, and with one below EL4 in a brief episode the end of that limit starts a lowering
toward EL4, which withdraws the quote. -/
theorem not_serviceDayEnds : ¬ Obligations.ServiceDayEnds := by
  intro h
  obtain ⟨_, hunset⟩ := h quotedUnderStrictQuiet ⟨lastDate, 86399, 0, none⟩ rfl rfl rfl rfl
  obtain ⟨_, _, _, _, _, _, _, _, _, _, _, _, _, _, _, _, hquote⟩ := hunset (by decide)
  have hslot := (hquote fun _ => quotedUnderStrictQuiet_atTarget).1
  rw [unsetClock_quotedUnderStrictQuiet.2] at hslot
  cases hslot

end Sys2Proof.Machine
end

section
/-! SUPPORT. The requests that load the next table, each rule said once by the case of the table it meets, and the place
that TABLE-ADD gives a record (R14 to R20). -/

namespace Sys2Proof.Machine

/-! ### The ranges of the fields (R14, R15) -/

@[simp] theorem within_iff (lo hi n : Nat) : within lo hi n = true ↔ lo ≤ n ∧ n ≤ hi := by simp [within]

/-- A coded field names a value where it is not outside its list. -/
theorem codedValue_isSome_iff {α : Type} (c : Coded α) : (codedValue c).isSome = true ↔ ∃ a, c = .named a := by
  cases c <;> simp [codedValue]

theorem headerInRange_iff (date : Date) (day : Coded DayType) (du df v : Nat) :
    headerInRange date day du df v = true ↔
      inSpan date = true ∧ (∃ k, day = .named k) ∧ du ≤ 1439 ∧ df ≤ 1439 ∧ 1 ≤ v ∧ v ≤ 65535 := by
  simp only [headerInRange, Bool.and_eq_true, decide_eq_true_eq, within_iff, codedValue_isSome_iff, and_assoc]

theorem serviceInRange_iff (number : Nat) (dir : Coded Direction) (minute platform : Nat) (calls : List Nat) :
    serviceInRange number dir minute platform calls = true ↔ 1 ≤ number ∧ number ≤ 9999 ∧ (∃ d, dir = .named d) ∧
      minute ≤ 1439 ∧ 1 ≤ platform ∧ platform ≤ 3 ∧ 1 ≤ calls.length ∧ calls.length ≤ 16 ∧
      ∀ x ∈ calls, 1 ≤ x ∧ x ≤ 63 := by
  simp only [serviceInRange, Bool.and_eq_true, decide_eq_true_eq, within_iff, codedValue_isSome_iff, List.all_eq_true,
    and_assoc]

/-! ### TABLE-OPEN (R17) -/

/-- A header out of range is refused: a day type outside its list before the other fields are looked at. -/
theorem tableOpenRule_range {date : Date} {day : Coded DayType} {du df v : Nat} {s : State}
    (h : headerInRange date day du df v = false) : tableOpenRule date day du df v s = (s, refuse .range .field) := by
  cases day with
  | other n => rfl
  | named k => simp [tableOpenRule, h]

theorem tableOpenRule_opened {date : Date} {k : DayType} {du df v : Nat} {s : State}
    (h : headerInRange date (.named k) du df v = true) : tableOpenRule date (.named k) du df v s =
      ({ s with tts.next := some ⟨false, ⟨date, k, du, df, v⟩, []⟩ }, done (.header ⟨date, k, du, df, v⟩)) := by
  simp [tableOpenRule, h]

/-! ### TABLE-CLOSE and TABLE-DROP (R19, R20) -/

theorem tableCloseRule_none {s : State} (h : s.tts.next = none) : tableCloseRule s = (s, refuse .notReady .none) := by
  simp [tableCloseRule, h]

theorem tableCloseRule_some {s : State} {t : NextTable} (h : s.tts.next = some t) : tableCloseRule s =
    ({ s with tts.next := some { t with ready := true } },
      done (.tableClosed t.header.date t.header.version t.records.length)) := by
  simp [tableCloseRule, h]

/-- Dropping where there is no next table changes nothing. -/
theorem tableDropRule_none {s : State} (h : s.tts.next = none) : tableDropRule s = (s, done (.tableDropped .none 0)) := by
  have hs : { s with tts.next := none } = s := by rw [← h]
  simp [tableDropRule, nextLoadState, h, hs]

theorem tableDropRule_some {s : State} {t : NextTable} (h : s.tts.next = some t) : tableDropRule s =
    ({ s with tts.next := none },
      done (.tableDropped (if t.ready then .ready else .loading) t.records.length)) := by
  simp [tableDropRule, nextLoadState, h]

/-- Settles O21: each request by the case of its rule. -/
theorem tablesOpenCloseAndDrop : Obligations.TablesOpenCloseAndDrop := by
  refine ⟨fun date day du df v s hl => ⟨fun h => ?_, fun k hk h => ?_⟩, headerInRange_iff, fun s hl => ⟨fun h => ?_,
    fun t h => ?_⟩⟩
  · exact does_of_rule hl rfl rfl rfl (tableOpenRule_range h)
  · subst hk
    exact does_of_rule hl rfl rfl rfl (tableOpenRule_opened h)
  · have hw : (atOwner s).tts.next = none := by rw [atOwner_tts, h]
    exact ⟨does_of_rule hl rfl rfl rfl (tableCloseRule_none hw), does_of_rule hl rfl rfl rfl (tableDropRule_none hw)⟩
  · have hw : (atOwner s).tts.next = some t := by rw [atOwner_tts, h]
    exact ⟨does_of_rule hl rfl rfl rfl (tableCloseRule_some hw), does_of_rule hl rfl rfl rfl (tableDropRule_some hw)⟩

/-! ### The place of a record (R16) -/

/-- The records of no greater scheduled minute that stand first. -/
def recordsBefore (minute : Nat) (l : List Planned) : List Planned := l.takeWhile fun q => decide (q.minute ≤ minute)

/-- The others. -/
def recordsAfter (minute : Nat) (l : List Planned) : List Planned := l.dropWhile fun q => decide (q.minute ≤ minute)

theorem recordsBefore_append_recordsAfter (minute : Nat) (l : List Planned) :
    recordsBefore minute l ++ recordsAfter minute l = l := List.takeWhile_append_dropWhile

theorem minute_le_of_mem_recordsBefore {minute : Nat} {l : List Planned} {p : Planned}
    (h : p ∈ recordsBefore minute l) : p.minute ≤ minute := by
  simpa using List.mem_takeWhile_imp h

theorem lt_minute_of_head_recordsAfter {minute : Nat} {l : List Planned} {p : Planned}
    (h : (recordsAfter minute l).head? = some p) : minute < p.minute := by
  have hp := List.head?_dropWhile_not (fun q : Planned => decide (q.minute ≤ minute)) l
  unfold recordsAfter at h
  rw [h] at hp
  simpa using hp

/-- In an ordered table every record after the place is of a greater minute, as the first of them is. -/
theorem lt_minute_of_mem_recordsAfter {minute : Nat} {l : List Planned}
    (hl : l.Pairwise fun p q => p.minute ≤ q.minute) {p : Planned} (h : p ∈ recordsAfter minute l) : minute < p.minute := by
  have ha : (recordsAfter minute l).Pairwise fun p q => p.minute ≤ q.minute :=
    hl.sublist (List.dropWhile_sublist _)
  cases hr : recordsAfter minute l with
  | nil =>
    rw [hr] at h
    cases h
  | cons q r =>
    have hq : minute < q.minute := lt_minute_of_head_recordsAfter (by rw [hr]; rfl)
    rw [hr] at h ha
    rcases List.mem_cons.mp h with rfl | h
    · exact hq
    · exact lt_of_lt_of_le hq (List.rel_of_pairwise_cons ha h)

/-- A record is inserted between the two. -/
theorem insertRecord_eq (p : Planned) (l : List Planned) :
    insertRecord p l = recordsBefore p.minute l ++ p :: recordsAfter p.minute l := by
  induction l with
  | nil => rfl
  | cons q l ih =>
    by_cases h : q.minute ≤ p.minute <;>
      simp_all [insertRecord, recordsBefore, recordsAfter]

/-! ### TABLE-ADD (R18) -/

theorem noRepeats_iff (l : List Nat) : noRepeats l = true ↔ l.Nodup := by
  induction l with
  | nil => simp [noRepeats]
  | cons a l ih => simp [noRepeats, ih]

section
variable {number : Nat} {dir : Coded Direction} {minute platform : Nat} {calls : List Nat} {s : State} {t : NextTable}

theorem tableAddRule_none (h : s.tts.next = none) :
    tableAddRule number dir minute platform calls s = (s, refuse .notReady .none) := by
  simp [tableAddRule, h]

theorem tableAddRule_ready (h : s.tts.next = some t) (hr : t.ready = true) :
    tableAddRule number dir minute platform calls s = (s, refuse .busy .none) := by
  simp [tableAddRule, h, hr]

theorem tableAddRule_range (h : s.tts.next = some t) (hr : t.ready = false)
    (hs : serviceInRange number dir minute platform calls = false) :
    tableAddRule number dir minute platform calls s = (s, refuse .range .field) := by
  cases dir <;> simp [tableAddRule, h, hr, hs]

/-- With a record in range for a table that is loading, the checks that are left, in their order. -/
theorem tableAddRule_inRange {d : Direction} (h : s.tts.next = some t) (hr : t.ready = false)
    (hs : serviceInRange number (.named d) minute platform calls = true) :
    tableAddRule number (.named d) minute platform calls s =
      if noRepeats calls = false then (s, refuse .range .list)
      else if t.records.any fun p => p.number == number then (s, refuse .range .duplicate)
      else if 96 ≤ t.records.length then (s, refuse .full .none)
      else
        ({ s with tts.next := some { t with
            records := recordsBefore minute t.records ++ ⟨number, d, minute, platform, calls⟩ ::
              recordsAfter minute t.records } },
          done (.inserted (recordsBefore minute t.records).length (t.records.length + 1))) := by
  simp only [tableAddRule, h, hr, hs, insertRecord_eq]
  cases noRepeats calls <;> rfl

end

/-- Settles O22: the refusals in the order of the checks, and the place between the records before and after. -/
theorem tableAddPlacesTheRecord : Obligations.TableAddPlacesTheRecord := by
  intro number dir minute platform calls s hl
  refine ⟨serviceInRange_iff _ _ _ _ _, fun h => does_of_rule hl rfl rfl rfl (tableAddRule_none (by rwa [atOwner_tts])),
    fun t h => ?_⟩
  have hw : (atOwner s).tts.next = some t := by rw [atOwner_tts, h]
  refine ⟨fun hr => does_of_rule hl rfl rfl rfl (tableAddRule_ready hw hr),
    fun hr hs => does_of_rule hl rfl rfl rfl (tableAddRule_range hw hr hs), fun hr hs => ?_⟩
  obtain ⟨d, rfl⟩ := ((serviceInRange_iff _ _ _ _ _).mp hs).2.2.1
  have hrule := tableAddRule_inRange hw hr hs
  have hany : (t.records.any fun p => p.number == number) = true ↔ ∃ p ∈ t.records, p.number = number := by simp
  simp only [← Bool.not_eq_true, noRepeats_iff, hany] at hrule
  refine ⟨fun hn => ?_, fun hn hd => ?_, fun hn hd hf => ?_, fun hn hd hf e he => ?_⟩
  · exact does_of_rule hl rfl rfl rfl (by rw [hrule, if_pos hn])
  · exact does_of_rule hl rfl rfl rfl (by rw [hrule, if_neg (not_not.mpr hn), if_pos hd])
  · exact does_of_rule hl rfl rfl rfl
      (by rw [hrule, if_neg (not_not.mpr hn), if_neg (by simpa using hd), if_pos hf])
  · cases he
    refine ⟨recordsBefore minute t.records, recordsAfter minute t.records,
      (recordsBefore_append_recordsAfter _ _).symm, fun p => minute_le_of_mem_recordsBefore,
      fun p => lt_minute_of_head_recordsAfter, fun ho p hp => lt_minute_of_mem_recordsAfter ho hp, ?_⟩
    exact does_of_rule hl rfl rfl rfl
      (by rw [hrule, if_neg (not_not.mpr hn), if_neg (by simpa using hd), if_neg (by omega)])

end Sys2Proof.Machine
end

section
/-! SUPPORT. The change event of cause TABLE, the promotion of a READY next table, and the settings of the services with the
evaluation that follows them (R21, R22, R27). -/

namespace Sys2Proof.Machine

/-! ### The change event of cause TABLE (R117, R121) -/

/-- Of the boards, entries of the lists that leave move the position alone besides the lists. -/
theorem keepMessages_eq (f : HostEntry → Bool) (g : AutoEntry → Bool) (s : State) :
    ∃ p, keepMessages f g s =
      { s with bdc.host := s.bdc.host.filter f, bdc.auto := s.bdc.auto.filter g, bdc.position := p } := by
  unfold keepMessages clearPosition
  split
  · exact ⟨none, rfl⟩
  · exact ⟨s.bdc.position, rfl⟩

/-- What the event leaves of the lists: the host list, and no automatic entry. -/
theorem tableEvent_lists (s : State) : (tableEvent s).bdc.host = s.bdc.host ∧ (tableEvent s).bdc.auto = [] := by
  obtain ⟨p, hp⟩ := keepMessages_eq (fun _ => true) (fun _ => false)
    (requestEach (wantTables (!s.bdc.auto.isEmpty)) s)
  have hk := stirred_requestEach (wantTables (!s.bdc.auto.isEmpty)) s
  simp only [tableEvent, setLamp_bdc_host, setLamp_bdc_auto, hp, hk.host, List.filter_true, List.filter_false, and_self]

theorem tableEvent_queue (s : State) :
    (tableEvent s).bdc.queue = (requestEach (wantTables (!s.bdc.auto.isEmpty)) s).bdc.queue := by
  obtain ⟨p, hp⟩ := keepMessages_eq (fun _ => true) (fun _ => false)
    (requestEach (wantTables (!s.bdc.auto.isEmpty)) s)
  simp only [tableEvent, setLamp_bdc_queue, hp]

theorem tableEvent_profiles (s : State) : (tableEvent s).bdc.profiles = s.bdc.profiles := by
  obtain ⟨p, hp⟩ := keepMessages_eq (fun _ => true) (fun _ => false)
    (requestEach (wantTables (!s.bdc.auto.isEmpty)) s)
  simp only [tableEvent, setLamp_bdc_profiles, hp, (stirred_requestEach _ s).profiles]

/-- A panel that the event asks a refresh of waits after it. -/
theorem queued_tableEvent {s : State} {k : PanelKind}
    (hk : ∀ p : Profile, p.kind = k → wantTables (!s.bdc.auto.isEmpty) p = some false) : Queued k (tableEvent s) := by
  intro a hp ha
  rw [tableEvent_profiles] at hp ha
  rw [tableEvent_queue]
  exact mem_waitingPanels.mp (mem_waitingPanels_requestEach hp (hk _ ha))

theorem tableChanged_tableEvent (s : State) : TableChanged s (tableEvent s) := by
  refine ⟨(tableEvent_lists s).2, queued_tableEvent fun p hp => ?_, fun hne => queued_tableEvent fun p hp => ?_⟩
  · simp [wantTables, hp]
  · simp [wantTables, hp, hne]

/-- What the event asks depends on the automatic list alone. -/
theorem TableChanged.of_auto {s t u : State} (h : TableChanged t u) (ha : t.bdc.auto = s.bdc.auto) : TableChanged s u := by
  rwa [TableChanged, ha] at h

/-- What stirs the part afterwards takes no panel from the queue. -/
theorem TableChanged.stirred {s t u : State} (h : TableChanged s t) (hs : Stirred t u) : TableChanged s u := by
  have queued : ∀ k, Queued k t → Queued k u := fun k hk a hp ha => by
    rw [hs.profiles] at hp ha
    exact mem_waitingPanels.mp (hs.waits (mem_waitingPanels.mpr (hk a hp ha)))
  obtain ⟨hauto, hdepartures, hmessages⟩ := h
  exact ⟨hs.auto.trans hauto, queued _ hdepartures, fun hne => queued _ (hmessages hne)⟩

theorem tableChanged_placeCurrent (t : Option CurrentTable) (s : State) : TableChanged s (placeCurrent t s) :=
  (tableChanged_tableEvent _).of_auto (reacted_retarget { s with tts.current := t }).auto

/-! ### The evaluation against the present minute -/

theorem evaluateNow_set {s : State} {c : ClockSetting} (h : s.clock = some c) :
    evaluateNow s = minuteEvaluation (c.tod / 60) s := by
  unfold evaluateNow nowMinute
  rw [h]
  rfl

theorem evaluateNow_unset {s : State} (h : s.clock = none) : evaluateNow s = s := by
  unfold evaluateNow nowMinute
  rw [h]
  rfl

/-! ### TABLE-PROMOTE (R21, R22) -/

section
variable {version : Nat} {s : State} {t : NextTable} {c : ClockSetting}

theorem tablePromoteRule_notReady (h : s.clock = none ∨ s.tts.next = none ∨ ∃ t, s.tts.next = some t ∧ t.ready = false) :
    tablePromoteRule version s = (s, refuse .notReady .none) := by
  unfold tablePromoteRule
  split
  next c t hc ht =>
    have hr : t.ready = false := by simpa [hc, ht] using h
    rw [hr]
    rfl
  next => rfl

/-- With a SET clock and a READY next table, the checks that are left, in their order. -/
theorem tablePromoteRule_ready (hc : s.clock = some c) (ht : s.tts.next = some t) (hr : t.ready = true) :
    tablePromoteRule version s =
      if t.header.date ≠ c.date then (s, refuse .range .date)
      else if t.header.version ≠ version then (s, refuse .range .version)
      else (evaluateNow (promote t s), done (.promoted t.header.date t.header.version t.records.length)) := by
  simp only [tablePromoteRule, hc, ht, hr, Bool.not_true, Bool.false_eq_true, if_false]

end

theorem kept_promote (t : NextTable) (s : State) :
    Kept { s with tts := { s.tts with next := none, current := some ⟨t.header, t.records.map startService⟩ } }
      (promote t s) :=
  kept_placeCurrent (some ⟨t.header, t.records.map startService⟩) { s with tts.next := none }

/-- What a promotion under a SET clock leaves of the stores: the next table current and evaluated. -/
theorem kept_evaluateNow_promote {s : State} {t : NextTable} {c : ClockSetting} (hc : s.clock = some c) :
    Kept { s with
      tts := { s.tts with
        next := none
        current := some ⟨t.header, t.records.map fun p =>
          evaluateService s.tts.grace s.tts.window (c.tod / 60) (startService p)⟩ } } (evaluateNow (promote t s)) := by
  have hp := kept_promote t s
  have hv := minuteEvaluation_kept (c.tod / 60) (promote t s)
  rw [evaluateNow_set (hp.clock.trans hc)]
  refine ⟨hv.clock.trans hp.clock, hv.tts.trans ?_, hv.tfe.trans hp.tfe, hv.sjn.trans hp.sjn⟩
  simp only [hp.tts, Option.map_some, List.map_map]
  rfl

/-- Its change event of cause TABLE stands also after the evaluation. -/
theorem tableChanged_evaluateNow_promote {s : State} {t : NextTable} {c : ClockSetting} (hc : s.clock = some c) :
    TableChanged s (evaluateNow (promote t s)) := by
  rw [evaluateNow_set ((kept_promote t s).clock.trans hc)]
  refine TableChanged.stirred (t := { promote t s with tts := evaluatedTables (c.tod / 60) (promote t s).tts }) ?_
    (stirred_minuteEvaluation _ _)
  exact tableChanged_placeCurrent _ { s with tts.next := none }

/-- Settles O23: the refusals in the order of the checks, and the promotion with the evaluation that follows it. -/
theorem promotionMakesTheNextTableCurrent : Obligations.PromotionMakesTheNextTableCurrent := by
  intro version s hl
  have refused (h : s.clock = none ∨ s.tts.next = none ∨ ∃ t, s.tts.next = some t ∧ t.ready = false) :
      Does (.tablePromote version) s 0xA4#8 (refuse .notReady .none) (atOwner s) :=
    does_of_rule hl rfl rfl rfl (tablePromoteRule_notReady (by rwa [atOwner_clock, atOwner_tts]))
  refine ⟨fun h => refused (.inl h), fun t ht hr => refused (.inr (.inr ⟨t, ht, hr⟩)), fun h => refused (.inr (.inl h)),
    fun c t hc ht hr => ?_⟩
  have hclock : (atOwner s).clock = some c := by rw [atOwner_clock, hc]
  have hrule := tablePromoteRule_ready (version := version) hclock (by rw [atOwner_tts, ht]) hr
  refine ⟨fun hd => ?_, fun hd hv => ?_, fun hd hv => ?_⟩
  · exact does_of_rule hl rfl rfl rfl (by rw [hrule, if_pos hd])
  · exact does_of_rule hl rfl rfl rfl (by rw [hrule, if_neg (not_not.mpr hd), if_pos hv])
  · have hk := kept_evaluateNow_promote (t := t) hclock
    refine ⟨does_of_rule hl rfl rfl rfl ?_, tableChanged_evaluateNow_promote hclock, by rw [hk.tts], ?_,
      hk.clock.trans (atOwner_clock s), hk.tfe.trans (atOwner_tfe s), hk.sjn.trans (atOwner_sjn s)⟩
    · rw [hrule, if_neg (not_not.mpr hd), if_neg (not_not.mpr hv), hd, hv]
    · rw [hk.tts, atOwner_tts]
      rfl

/-! ### SERVICE-SETTINGS (R27) -/

/-- The settings stored: the window clamped, an absent field kept. -/
def storedSettings (g win m : Option Nat) (s : State) : State :=
  { s with
    tts.grace := g.getD s.tts.grace
    tts.window := (win.map (clamp 1 15)).getD s.tts.window
    tts.margin := m.getD s.tts.margin }

section
variable {g win m : Option Nat} {s : State}

theorem settingsInRange_iff : (optWithin 0 30 g && optWithin 0 10 m) = true ↔
    (∀ n, g = some n → n ≤ 30) ∧ ∀ n, m = some n → n ≤ 10 := by
  simp [optWithin, Option.all_eq_true]

theorem serviceSettingsRule_range (h : (∃ n, g = some n ∧ 30 < n) ∨ ∃ n, m = some n ∧ 10 < n) :
    serviceSettingsRule g win m s = (s, refuse .range .field) := by
  have hbad : ¬(optWithin 0 30 g && optWithin 0 10 m) = true := by
    rw [settingsInRange_iff]
    rintro ⟨hg, hm⟩
    rcases h with ⟨n, hn, hlt⟩ | ⟨n, hn, hlt⟩
    · exact absurd (hg n hn) (by omega)
    · exact absurd (hm n hn) (by omega)
  rw [Bool.not_eq_true] at hbad
  unfold serviceSettingsRule
  rw [hbad]
  rfl

/-- With the fields in range, every current service is evaluated with the settings stored where a field is carried. -/
theorem serviceSettingsRule_stored (hg : ∀ n, g = some n → n ≤ 30) (hm : ∀ n, m = some n → n ≤ 10) :
    serviceSettingsRule g win m s =
      (if g.isNone && win.isNone && m.isNone then storedSettings g win m s else evaluateNow (storedSettings g win m s),
        done (.serviceSettings (g.getD s.tts.grace) ((win.map (clamp 1 15)).getD s.tts.window) (m.getD s.tts.margin))) := by
  unfold serviceSettingsRule
  rw [settingsInRange_iff.mpr ⟨hg, hm⟩]
  rfl

end

/-- The tables after the evaluation of a state against its present minute. -/
theorem evaluateNow_tts (s : State) :
    (evaluateNow s).tts = s.clock.elim s.tts fun c => evaluatedTables (c.tod / 60) s.tts := by
  cases hc : s.clock with
  | none => rw [evaluateNow_unset hc]; rfl
  | some c => rw [evaluateNow_set hc]; exact (minuteEvaluation_kept _ s).tts

/-- Settles O24: refused, or stored with the evaluation that follows where a field is carried. -/
theorem serviceSettingsStored : Obligations.ServiceSettingsStored := by
  intro g win m s hl
  refine ⟨fun h => does_of_rule hl rfl rfl rfl (serviceSettingsRule_range h), fun hg hm => ?_⟩
  have hrule := serviceSettingsRule_stored (win := win) (s := atOwner s) hg hm
  rw [atOwner_tts] at hrule
  refine ⟨_, does_of_rule hl rfl rfl rfl hrule, ?_⟩
  cases hnone : g.isNone && win.isNone && m.isNone with
  | true =>
    simp only [Bool.and_eq_true, Option.isNone_iff_eq_none] at hnone
    obtain ⟨⟨rfl, rfl⟩, rfl⟩ := hnone
    have hsame : storedSettings none none none (atOwner s) = atOwner s := rfl
    rw [if_pos rfl, hsame]
    simp
  | false =>
    have htts := evaluateNow_tts (storedSettings g win m (atOwner s))
    have hclock : (storedSettings g win m (atOwner s)).clock = s.clock := atOwner_clock s
    have hstored : (storedSettings g win m (atOwner s)).tts = { s.tts with
        grace := g.getD s.tts.grace
        window := (win.map (clamp 1 15)).getD s.tts.window
        margin := m.getD s.tts.margin } := by rw [← atOwner_tts s]; rfl
    rw [hclock, hstored] at htts
    rw [if_neg (by simp), htts]
    have hcarried : ¬(g = none ∧ win = none ∧ m = none) := by
      rintro ⟨rfl, rfl, rfl⟩
      cases hnone
    cases hc : s.clock with
    | none => exact ⟨rfl, rfl, rfl, rfl, fun h k l => absurd ⟨h, k, l⟩ hcarried, fun _ => rfl, nofun⟩
    | some c =>
      refine ⟨rfl, rfl, rfl, rfl, fun h k l => absurd ⟨h, k, l⟩ hcarried, nofun, ?_⟩
      rintro d ⟨⟩ -
      rfl

end Sys2Proof.Machine
end

section
/-! SUPPORT. A coded field outside its list, rule by rule: every owner refuses it RANGE with FIELD and changes nothing. -/

namespace Sys2Proof.Machine

/-! ### The checks that a value outside its list fails -/

@[simp] theorem codedValue_other {α : Type} (n : Nat) : codedValue (.other n : Coded α) = none := rfl

@[simp] theorem optNames_other {α : Type} (n : Nat) : optNames (some (.other n : Coded α)) = false := rfl

/-- A list with such a value names no set. -/
theorem namedAll_other {α : Type} {n : Nat} {l : List (Coded α)} (h : .other n ∈ l) : namedAll l = none := by
  induction l with
  | nil => cases h
  | cons c l ih =>
    cases c with
    | other m => rfl
    | named a =>
      have hl : .other n ∈ l := by simpa using h
      simp [namedAll, ih hl]

theorem carriedSet_other {α : Type} {n : Nat} {f : Option (List (Coded α))} (h : ∃ l, f = some l ∧ .other n ∈ l) :
    carriedSet f = none := by
  obtain ⟨l, rfl, hl⟩ := h
  simp [carriedSet, namedAll_other hl]

/-! ### The rules -/

section
variable {n : Nat} {s : State}

theorem tariffStationRule_other {p : PendingTariff} {code : Nat} {name : Text} {d : Nat} (h : s.tfe.pending = some p)
    (hp : p.ready = false) : tariffStationRule code name d (.other n) s = (s, refuse .range .field) := by
  simp [tariffStationRule, h, hp]

theorem tariffReadRule_otherPart {sel : Coded TariffSel} {i : Nat} :
    tariffReadRule sel (.other n) i s = (s, refuse .range .field) := by
  cases sel <;> rfl

theorem fareTrialRule_other {sel : Coded TariffSel} {code : Nat} {k : Coded TicketType} {cls q : Nat}
    {pk : Coded PeakSel} (h : sel = .other n ∨ k = .other n ∨ pk = .other n) :
    fareTrialRule sel code k cls q pk s = (s, refuse .range .field) := by
  have hbad : trialInRange sel code k cls q pk = false := by
    rcases h with rfl | rfl | rfl <;> simp [trialInRange]
  unfold fareTrialRule
  rw [hbad]
  rfl

theorem saleQuoteRule_other {code : Nat} {k : Coded TicketType} {cls q : Nat} {sel : Coded ServiceSel} {m : Option Nat}
    (h : k = .other n ∨ sel = .other n) : saleQuoteRule code k cls q sel m s = (s, refuse .range .field) := by
  rcases h with rfl | rfl
  · rfl
  · cases k <;> rfl

theorem saleSettingsRule_other {kinds : Option (List (Coded Payment))} {types : Option (List (Coded TicketType))}
    (h : (∃ l, kinds = some l ∧ .other n ∈ l) ∨ ∃ l, types = some l ∧ .other n ∈ l) :
    saleSettingsRule kinds types s = (s, refuse .range .field) := by
  unfold saleSettingsRule
  rcases h with h | h
  · rw [carriedSet_other h]
  · rw [carriedSet_other h]
    cases carriedSet kinds <;> rfl

/-- A profile field outside its list, under an address that names a panel or none. -/
theorem panelProfileRule_other {a : Nat} {pr : Option (Coded Bool)} {k : Option (Coded PanelKind)} {rows : Option Nat}
    {fl : Option (Coded DirFilter)} {th : Option Nat}
    (h : pr = some (.other n) ∨ k = some (.other n) ∨ fl = some (.other n)) :
    panelProfileRule a pr k rows fl th s = (s, refuse .range .field) := by
  have hbad : profileInRange pr k fl th = false := by
    rcases h with rfl | rfl | rfl <;> simp [profileInRange]
  unfold panelProfileRule
  rw [hbad]
  cases panelOf a <;> rfl

theorem boardRefreshRule_other {a : Option Nat} : boardRefreshRule a (.other n) s = (s, refuse .range .field) := by
  cases a <;> rfl

theorem noticeConfigRule_other {fields : List NoticeField} {sense : Option (Coded DoorSense)}
    (h : (∃ x ∈ fields, x.priority = some (.other n)) ∨ sense = some (.other n)) :
    noticeConfigRule fields sense s = (s, refuse .range .field) := by
  have hbad : noticesInRange fields sense = false := by
    rcases h with ⟨x, hx, hp⟩ | rfl
    · have hall : (fields.all fun f => within 1 15 f.source && optNames f.priority) = false :=
        List.all_eq_false.mpr ⟨x, hx, by simp [hp]⟩
      rw [noticesInRange, hall, Bool.false_and]
    · simp [noticesInRange]
  unfold noticeConfigRule
  rw [hbad]
  rfl

end

/-- Settles O20: each request by what its rule makes of the field. -/
theorem outsideValuesRefused : Obligations.OutsideValuesRefused := by
  intro n s hl
  refine ⟨fun number stamp arg => ?running, fun date a b v => ?tableOpen, fun t number m p l ht hr => ?tableAdd,
    fun i => ?tableRead, fun p code name d hp hr => ?tariffStation, fun part i => ?tariffReadTariff,
    fun sel i => ?tariffReadPart, fun sel code k c q pk h => ?fareTrial, fun code k c q sel m h => ?saleQuote,
    fun ref => ?saleCommit, fun serial => ?salePrinted, fun kinds types h => ?saleSettings,
    fun a pr k rows fl th h => ?panelProfile, fun id lines m => ?boardText, fun a => ?boardRefresh,
    fun a b c d e f => ?levelTable, fun fields sense h => ?noticeConfig⟩
  case running => exact does_of_rule hl rfl rfl rfl rfl
  case tableOpen => exact does_of_rule hl rfl rfl rfl rfl
  case tableAdd =>
    exact does_of_rule hl rfl rfl rfl
      (tableAddRule_range (by rwa [atOwner_tts]) hr (by simp [serviceInRange]))
  case tableRead => exact does_of_rule hl rfl rfl rfl rfl
  case tariffStation =>
    exact does_of_rule hl rfl rfl rfl (tariffStationRule_other (by rwa [atOwner_tfe]) hr)
  case tariffReadTariff => exact does_of_rule hl rfl rfl rfl rfl
  case tariffReadPart => exact does_of_rule hl rfl rfl rfl tariffReadRule_otherPart
  case fareTrial => exact does_of_rule hl rfl rfl rfl (fareTrialRule_other h)
  case saleQuote => exact does_of_rule hl rfl rfl rfl (saleQuoteRule_other (s := atSales s) h)
  case saleCommit => exact does_of_rule hl rfl rfl rfl rfl
  case salePrinted => exact does_of_rule hl rfl rfl rfl rfl
  case saleSettings => exact does_of_rule hl rfl rfl rfl (saleSettingsRule_other h)
  case panelProfile => exact does_of_rule hl rfl rfl rfl (panelProfileRule_other h)
  case boardText => exact does_of_rule hl rfl rfl rfl rfl
  case boardRefresh => exact does_of_rule hl rfl rfl rfl boardRefreshRule_other
  case levelTable => exact does_of_rule hl rfl rfl rfl rfl
  case noticeConfig => exact does_of_rule hl rfl rfl rfl (noticeConfigRule_other h)

end Sys2Proof.Machine
end

section
/-! SUPPORT. The display order, the services a sale can be bound to, and what the pages hold (R28, R29, R113, R114, R117 to
R119). -/

namespace Sys2Proof.Machine

/-! ### Sorting -/

section
variable {α : Type} {before : α → α → Bool}

theorem perm_insertOrdered (a : α) (l : List α) : (insertOrdered before a l).Perm (a :: l) := by
  induction l with
  | nil => exact .refl _
  | cons b l ih =>
    unfold insertOrdered
    split
    · exact (ih.cons b).trans (.swap a b l)
    · exact .refl _

/-- An element inserted in an ordered list leaves it ordered, where the order is total and transitive. -/
theorem pairwise_insertOrdered (total : ∀ a b, before a b = true ∨ before b a = true)
    (trans : ∀ a b c, before a b = true → before b c = true → before a c = true) (a : α) {l : List α}
    (h : l.Pairwise fun x y => before x y = true) :
    (insertOrdered before a l).Pairwise fun x y => before x y = true := by
  induction l with
  | nil => exact List.pairwise_singleton _ a
  | cons b l ih =>
    obtain ⟨hb, hl⟩ := List.pairwise_cons.mp h
    unfold insertOrdered
    split
    next hba =>
      refine List.pairwise_cons.mpr ⟨fun x hx => ?_, ih hl⟩
      rcases List.mem_cons.mp ((perm_insertOrdered a l).mem_iff.mp hx) with rfl | hx
      · exact hba
      · exact hb x hx
    next hba =>
      have hab : before a b = true := (total a b).resolve_right hba
      refine List.pairwise_cons.mpr ⟨fun x hx => ?_, h⟩
      rcases List.mem_cons.mp hx with rfl | hx
      · exact hab
      · exact trans a b x hab (hb x hx)

/-- Sorting inserts the elements one after another. -/
theorem perm_foldl_insertOrdered (l acc : List α) :
    (l.foldl (fun acc a => insertOrdered before a acc) acc).Perm (l ++ acc) := by
  induction l generalizing acc with
  | nil => exact .refl _
  | cons a l ih => exact (ih _).trans (((perm_insertOrdered a acc).append_left l).trans List.perm_middle)

theorem perm_sortBy (l : List α) : (sortBy before l).Perm l := by
  have h := perm_foldl_insertOrdered (before := before) l []
  rwa [List.append_nil] at h

theorem pairwise_sortBy (total : ∀ a b, before a b = true ∨ before b a = true)
    (trans : ∀ a b c, before a b = true → before b c = true → before a c = true) (l : List α) :
    (sortBy before l).Pairwise fun x y => before x y = true :=
  List.foldlRecOn l _ .nil fun _ h a _ => pairwise_insertOrdered total trans a h

end

/-! ### The display order (R28) -/

theorem displayBefore_iff (a b : Service) : displayBefore a b = true ↔
    a.plan.minute + a.delay < b.plan.minute + b.delay ∨ (a.plan.minute + a.delay = b.plan.minute + b.delay ∧
      (a.plan.minute < b.plan.minute ∨ (a.plan.minute = b.plan.minute ∧ a.plan.number ≤ b.plan.number))) := by
  simp only [displayBefore, Bool.or_eq_true, Bool.and_eq_true, decide_eq_true_eq, beq_iff_eq]
  rfl

theorem isRunning_iff (x : Status) : x.isRunning = true ↔ x = .scheduled ∨ x = .delayed := by cases x <;> decide

theorem displayableService_eq (grace now : Nat) : displayableService grace now = fun v =>
    decide (v.status = .scheduled ∨ v.status = .delayed ∨ (v.status = .cancelled ∧ now < v.plan.minute + grace)) := by
  funext v
  rw [Bool.eq_iff_iff, displayableService]
  simp only [Bool.or_eq_true, Bool.and_eq_true, decide_eq_true_eq, isRunning_iff, or_assoc]

section
variable {s : State} {c : ClockSetting} {t : CurrentTable}

theorem displayOrder_none (h : s.clock = none ∨ s.tts.current = none) : displayOrder s = [] := by
  unfold displayOrder nowMinute
  rcases h with h | h
  · rw [h]
    rfl
  · rw [h]
    cases s.clock.map fun c => minuteOf c.tod <;> rfl

theorem displayOrder_some (hc : s.clock = some c) (ht : s.tts.current = some t) : displayOrder s =
    sortBy displayBefore (t.services.filter (displayableService s.tts.grace (c.tod / 60))) := by
  unfold displayOrder nowMinute
  rw [hc, ht]
  rfl

theorem pairwise_displayOrder (s : State) : (displayOrder s).Pairwise fun a b => displayBefore a b = true := by
  unfold displayOrder
  split
  · exact pairwise_sortBy (fun a b => by rw [displayBefore_iff, displayBefore_iff]; omega)
      (fun a b c h k => by rw [displayBefore_iff] at h k ⊢; omega) _
  · exact .nil

/-! ### The services a sale can be bound to (R29) -/

theorem eligible_iff (margin code now : Nat) (v : Service) : eligible margin code now v = true ↔
    (v.status = .scheduled ∨ v.status = .delayed) ∧ code ∈ v.plan.calls ∧ now + margin ≤ v.plan.minute + v.delay := by
  simp only [eligible, Bool.and_eq_true, isRunning_iff, List.contains_iff_mem, decide_eq_true_eq, and_assoc]
  rfl

theorem nextService_set (code : Nat) (hc : s.clock = some c) :
    nextService code s = (displayOrder s).find? (eligible s.tts.margin code (c.tod / 60)) := by
  unfold nextService nowMinute
  rw [hc]
  rfl

theorem nextService_eq_some_iff {code : Nat} {v : Service} (hc : s.clock = some c) : nextService code s = some v ↔
    ∃ before after, displayOrder s = before ++ v :: after ∧ eligible s.tts.margin code (c.tod / 60) v = true ∧
      ∀ x ∈ before, ¬eligible s.tts.margin code (c.tod / 60) x = true := by
  rw [nextService_set code hc, List.find?_eq_some_iff_append]
  simp only [Bool.not_eq_true', Bool.not_eq_true]
  constructor
  · rintro ⟨hv, before, after, he, hb⟩
    exact ⟨before, after, he, hv, hb⟩
  · rintro ⟨before, after, he, hv, hb⟩
    exact ⟨hv, before, after, he, hb⟩

theorem namedService_unknown {n : Nat} (code : Nat) (h : currentService s n = none) :
    namedService n code s = .unknown := by
  unfold namedService
  rw [h]
  cases nowMinute s <;> rfl

theorem namedService_known {n : Nat} (code : Nat) {v : Service} (hc : s.clock = some c)
    (h : currentService s n = some v) : namedService n code s =
      if eligible s.tts.margin code (c.tod / 60) v then .found v else .noneLeft := by
  unfold namedService nowMinute
  rw [h, hc]
  rfl

end

/-! ### Departures pages (R113, R114) -/

section
variable {p : Profile} {s : State}

theorem composePage_departures (h : p.kind = .departures) : composePage p s = .departures (departurePage p s) := by
  unfold composePage
  rw [h]

theorem departurePage_unset (h : s.clock = none) : departurePage p s = [noteRow "Information unavailable".toList] := by
  unfold departurePage
  rw [h]
  rfl

theorem departurePage_empty (hc : s.clock.isSome) (h : s.tts.current = none) :
    departurePage p s = [noteRow "Timetable unavailable".toList] := by
  unfold departurePage
  rw [h, if_neg (by simpa [Option.isSome_iff_ne_none] using hc)]
  rfl

theorem departurePage_none (hc : s.clock.isSome) (ht : s.tts.current.isSome) (h : pageServices p s = []) :
    departurePage p s = [noteRow "No further departures".toList] := by
  unfold departurePage
  rw [if_neg (by simpa [Option.isSome_iff_ne_none] using hc), if_neg (by simpa [Option.isSome_iff_ne_none] using ht), h]

theorem departurePage_rows (hc : s.clock.isSome) (ht : s.tts.current.isSome) (h : pageServices p s ≠ []) :
    departurePage p s = (pageServices p s).map (departureRow s p.threshold) := by
  unfold departurePage
  rw [if_neg (by simpa [Option.isSome_iff_ne_none] using hc), if_neg (by simpa [Option.isSome_iff_ne_none] using ht)]
  split
  next he => exact absurd he h
  next => rfl

/-- The status field of a row (R114). -/
theorem statusField_eq (threshold : Nat) (v : Service) : statusField threshold v =
    if v.approach then "APPROACHING".toList else if v.status = .cancelled then "CANCELLED".toList
    else if threshold ≤ v.delay then "Exp ".toList ++ clockReading (v.plan.minute + v.delay)
    else "On time".toList := by
  unfold statusField statusText
  split_ifs <;> rfl

/-! ### Messages pages (R117, R118) -/

theorem messageBefore_iff (a b : Message) : messageBefore a b = true ↔
    (a.urgent = true ∧ b.urgent = false) ∨ (a.urgent = b.urgent ∧ b.arrival ≤ a.arrival) := by
  simp [messageBefore]

theorem pairwise_displayable (s : State) : (displayable s).Pairwise fun a b => messageBefore a b = true := by
  refine pairwise_sortBy (fun a b => ?_) (fun a b c h k => ?_) _
  · rw [messageBefore_iff, messageBefore_iff]
    cases a.urgent <;> cases b.urgent <;> simp <;> omega
  · rw [messageBefore_iff] at h k ⊢
    rcases h with ⟨ha, hb⟩ | ⟨hab, hle⟩ <;> rcases k with ⟨hb', hc⟩ | ⟨hbc, hle'⟩
    · exact .inl ⟨ha, hc⟩
    · exact .inl ⟨ha, hbc ▸ hb⟩
    · exact .inl ⟨hab ▸ hb', hc⟩
    · exact .inr ⟨hab.trans hbc, hle'.trans hle⟩

theorem composePage_messages (h : p.kind = .messages) :
    composePage p s = .messages (((shownMessage s).elim [] (messageLines s)).take p.rows) := by
  unfold composePage
  rw [h]
  rfl

/-- The message that the position names is shown. -/
theorem shownMessage_named {l r : List Message} {m : Message} (h : displayable s = l ++ m :: r)
    (hp : s.bdc.position = some m.arrival) (hl : ∀ x ∈ l, x.arrival ≠ m.arrival) : shownMessage s = some m := by
  have hfind : (displayable s).find? (fun x => x.arrival == m.arrival) = some m :=
    List.find?_eq_some_iff_append.mpr ⟨by simp, l, r, h, by simpa using hl⟩
  simp [shownMessage, hp, hfind]

/-- Where the position names none, the first is shown. -/
theorem shownMessage_first (h : ∀ n, s.bdc.position = some n → ∀ x ∈ displayable s, x.arrival ≠ n) :
    shownMessage s = (displayable s).head? := by
  have hnone : (s.bdc.position.bind fun n => (displayable s).find? fun m => m.arrival == n) = none := by
    rw [Option.bind_eq_none_iff]
    intro n hn
    simpa using h n hn
  simp [shownMessage, hnone]

/-! ### The sales page (R119) -/

theorem composePage_sales (h : p.kind = .sales) : composePage p s = .sales (salesPage s) := by
  unfold composePage
  rw [h]

end

/-- Settles O42: the order and the questions, each kind of page, and the lamp after a minute event. -/
theorem pagesOrdersAndTheLamp : Obligations.PagesOrdersAndTheLamp := by
  refine ⟨fun s => ⟨displayOrder_none, fun c t hc ht => ?order⟩, fun p s hk => ?departures, fun p s hk => ?messages,
    fun p s hk => ?sales, fun s c hp hc hlt hmin => ?lamp⟩
  case order =>
    refine ⟨?_, (pairwise_displayOrder s).imp fun h => (displayBefore_iff _ _).mp h, fun code => ?_⟩
    · rw [displayOrder_some hc ht, displayableService_eq]
      exact perm_sortBy _
    · simp only [← eligible_iff]
      refine ⟨fun v => nextService_eq_some_iff hc, by rw [nextService_set code hc]; exact List.find?_eq_none,
        fun n => ⟨namedService_unknown code, fun v hv => ?_⟩⟩
      rw [namedService_known code hc hv]
      exact ⟨fun h => if_pos h, fun h => if_neg h⟩
  case departures =>
    rw [composePage_departures hk]
    refine ⟨fun h => congrArg _ (departurePage_unset h), fun hc h => congrArg _ (departurePage_empty hc h),
      fun hc ht => ⟨fun h => congrArg _ (departurePage_none hc ht h), fun h => ?_⟩⟩
    rw [departurePage_rows hc ht h]
    simp only [← statusField_eq]
    rfl
  case messages =>
    rw [composePage_messages hk]
    refine ⟨perm_sortBy _, (pairwise_displayable s).imp fun h => (messageBefore_iff _ _).mp h, fun h => ?_,
      fun l m r h hp hl => ?_, fun m r h hn => ?_⟩
    · rw [shownMessage_first (by simp [h]), h]
      simp
    · rw [shownMessage_named h hp hl]
      cases m <;> rfl
    · rw [shownMessage_first hn, h]
      cases m <;> rfl
  case sales =>
    rw [composePage_sales hk]
    refine ⟨fun h => ?_, fun r h => ?_⟩
    · unfold salesPage
      rw [h]
    · unfold salesPage
      rw [h]
      cases r <;> rfl
  case lamp =>
    have hu : clockTick c s = minuteEvent ⟨c.date, (c.tod + 1) / 60, .count⟩ { s with clock := some (nextSecond c) } := by
      rw [clockTick_below hlt, if_pos hmin]
    have htaken := minuteTaken (s := { s with clock := some (nextSecond c) }) (c := nextSecond c)
      (e := ⟨c.date, (c.tod + 1) / 60, .count⟩) rfl rfl
    exact ⟨happens_clockSecond hp ((clockSecondEvent_set hc).trans hu), htaken.lit, htaken.lamp⟩

end Sys2Proof.Machine
end

section
/-! SUPPORT. Notices raised on a condition, the target of a part with a limit in force, and the sales event that does not
come (R87, R148, R155, R182). -/

namespace Sys2Proof.Machine

/-! ### Notices raised on a condition (R182) -/

/-- A source raised where a condition holds. -/
def raisedIf (b : Bool) (n : Nat) (l : List Notice) : List Notice := if b then raisedAt n l else l

/-- The notice of a number in a list of sources; one without a flag where there is none. -/
def noticeIn (l : List Notice) (n : Nat) : Notice := l.getD n (quietNotice .low)

theorem noticeAt_eq (s : State) (n : Nat) : noticeAt s n = noticeIn s.hlk.notices n := rfl

theorem raiseNotice_eq (src : Source) (s : State) :
    raiseNotice src s = { s with hlk.notices := raisedAt src.number s.hlk.notices } := rfl

theorem noticeIn_raisedAt (n m : Nat) (l : List Notice) : noticeIn (raisedAt n l) m =
    if n = m ∧ m < l.length then { noticeIn l m with pending := true, seen := false } else noticeIn l m := by
  simp only [noticeIn, raisedAt, List.getD_eq_getElem?_getD, List.getElem?_modify]
  by_cases hn : n = m <;> by_cases hm : m < l.length <;> simp [hn, hm]

@[simp] theorem length_raisedIf (b : Bool) (n : Nat) (l : List Notice) : (raisedIf b n l).length = l.length := by
  unfold raisedIf
  split
  · exact List.length_modify _ _ _
  · rfl

/-- A source below the number of sources is pending after it where the condition holds; the others are as they were. -/
theorem pending_raisedIf {b : Bool} {n m : Nat} {l : List Notice} (hn : n < l.length) :
    (noticeIn (raisedIf b n l) m).pending = true ↔ (b = true ∧ m = n) ∨ (noticeIn l m).pending = true := by
  cases b with
  | false => simp [raisedIf]
  | true =>
    rw [raisedIf, if_pos rfl, noticeIn_raisedAt]
    by_cases h : n = m
    · subst h
      simp [hn]
    · simp [h, Ne.symm h]

theorem seen_raisedIf {b : Bool} {n m : Nat} {l : List Notice} (h : (noticeIn l m).seen = false) :
    (noticeIn (raisedIf b n l) m).seen = false := by
  unfold raisedIf
  split
  · rw [noticeIn_raisedAt]
    split
    · rfl
    · exact h
  · exact h

@[simp] theorem config_raisedIf (b : Bool) (n : Nat) (l : List Notice) :
    (raisedIf b n l).map Notice.config = l.map Notice.config := by
  unfold raisedIf raisedAt
  split
  · refine List.ext_getElem (by simp) fun i _ _ => ?_
    simp only [List.getElem_map, List.getElem_modify]
    split <;> rfl
  · rfl

/-! ### Levels (R148, R155) -/

theorem levelRank_le_of_mem_levelsFrom {l m : Level} (h : m ∈ levelsFrom l) : levelRank l ≤ levelRank m := by
  cases l <;> cases m <;> simp_all [levelsFrom, levelRank]

/-- The highest enabled level no higher than a level is no higher than it. -/
theorem levelRank_le_highestEnabled (s : State) (l : Level) : levelRank l ≤ levelRank (highestEnabled s l) := by
  unfold highestEnabled
  cases h : (levelsFrom l).find? (levelEnabled s) with
  | none => exact levelRank_le l
  | some m => exact levelRank_le_of_mem_levelsFrom (List.mem_of_find?_eq_some h)

theorem levelRank_lowerOf (a b : Level) : levelRank (lowerOf a b) = max (levelRank a) (levelRank b) := by
  unfold lowerOf
  split <;> omega

/-- The lowest of some levels is no higher than any of them. -/
theorem levelRank_le_foldl_lowerOf {l : List Level} {a b : Level} (h : b = a ∨ b ∈ l) :
    levelRank b ≤ levelRank (l.foldl lowerOf a) := by
  induction l generalizing a b with
  | nil => exact h.elim (fun h => h ▸ le_rfl) nofun
  | cons c l ih =>
    have hc : levelRank (lowerOf a c) ≤ levelRank ((c :: l).foldl lowerOf a) := ih (.inl rfl)
    rw [levelRank_lowerOf] at hc
    rcases h with rfl | h
    · omega
    · rcases List.mem_cons.mp h with rfl | h
      · omega
      · exact ih (.inr h)

/-- The demand clamped to the limits is no higher than one in force. -/
theorem levelRank_le_clampedDemand {s : State} {l : Level} (h : l ∈ activeLimits s) :
    levelRank l ≤ levelRank (clampedDemand s) :=
  (levelRank_le_foldl_lowerOf (.inr h)).trans (levelRank_le_highestEnabled s _)

/-- Outside a brief episode, under a BATTERY limit, the target is the clamped demand. -/
theorem computeTarget_eq_clampedDemand {s : State} (hb : s.awu.brief = false) (hl : s.enm.battery ≠ none) :
    computeTarget s = clampedDemand s := by
  unfold computeTarget
  simp [hb, hl]

/-! ### The sales event (R87) -/

/-- Under an UNSET clock the first reason is CLOCK. -/
theorem head_salesReasons_unset {s : State} (h : s.clock = none) : (salesReasons s).head? = some .clock := by
  have hc : reasonHolds s .clock = true := by rw [reasonHolds, h]; rfl
  rw [salesReasons, List.filter_cons_of_pos hc]
  rfl

/-- No event comes where the first reason is the one last reported. -/
theorem decideSales_of_same {s : State} (h : (salesReasons s).head? = s.bdc.sales) : decideSales s = s := if_pos h

/-- A withdrawal lets an IDLE slot be. -/
theorem withdraw_of_idle {w : Withdrawal} {s : State} (h : s.slc.slot = .idle) : withdraw w s = s := by
  unfold withdraw
  rw [h]

end Sys2Proof.Machine
end

section
/-! SUPPORT. The restart, first part: what the retained state itself brings about, said as one state (R25, R49, R92, R100, R108,
R129, R162, R175). -/

namespace Sys2Proof.Machine

/-! ### The sold count of a converted sale (R49) -/

/-- The sold count of a service after some passengers more, where the table is of the sale's date. -/
def soldWith (date : Date) (number quantity : Nat) (table : Date) (v : Service) : Nat :=
  if table = date ∧ v.plan.number = number then min 65535 (v.sold + quantity) else v.sold

/-- A table's services with the passengers of a sale added. -/
def soldTables (date : Date) (number quantity : Nat) (t : Tts) : Tts :=
  { t with current := t.current.map fun c =>
    ⟨c.header, c.services.map fun v => { v with sold := soldWith date number quantity c.header.date v }⟩ }

/-- Tables that an operation leaves: EMPTY where they were, and where no two services share a number what a function says. -/
structure MovedBy (f : Tts → Tts) (s t : Tts) : Prop where
  empty : t.current = none ↔ s.current = none
  moved : (∀ c, s.current = some c → (c.services.map (·.plan.number)).Nodup) → t = f s

theorem MovedBy.same {f : Tts → Tts} {s : Tts} (h : f s = s) : MovedBy f s s := ⟨Iff.rfl, fun _ => h.symm⟩

/-- A number that no service has, or another date, moves nothing. -/
theorem soldTables_of_none {date : Date} {number quantity : Nat} {t : Tts}
    (h : ∀ c, t.current = some c → c.header.date = date → ∀ v ∈ c.services, v.plan.number ≠ number) :
    soldTables date number quantity t = t := by
  have hc : (t.current.map fun c => (⟨c.header,
      c.services.map fun v => { v with sold := soldWith date number quantity c.header.date v }⟩ : CurrentTable)) =
      t.current := by
    cases ht : t.current with
    | none => rfl
    | some c =>
      have hv : ∀ v ∈ c.services, { v with sold := soldWith date number quantity c.header.date v } = v := fun v hv => by
        rw [soldWith, if_neg fun hd => h c ht hd.1 v hv hd.2]
      rw [Option.map_some, List.map_congr_left hv, List.map_id']
  rw [soldTables, hc]

/-- Replacing the one service of a number by itself with the passengers added moves its sold count alone. -/
theorem replaceService_sold {date : Date} {number quantity : Nat} {s : State} {t : CurrentTable} {v : Service}
    (ht : s.tts.current = some t) (hd : t.header.date = date) (hv : currentService s number = some v)
    (hn : (t.services.map (·.plan.number)).Nodup) :
    (replaceService { v with sold := min 65535 (v.sold + quantity) } s).tts = soldTables date number quantity s.tts := by
  have hfind : t.services.find? (fun w => w.plan.number == number) = some v := by
    rwa [currentService, ht] at hv
  have hnumber : v.plan.number = number := by simpa using List.find?_some hfind
  have hsame : ∀ w ∈ t.services,
      (if w.plan.number = v.plan.number then { v with sold := min 65535 (v.sold + quantity) } else w) =
        { w with sold := soldWith date number quantity t.header.date w } := fun w hw => by
    unfold soldWith
    by_cases he : w.plan.number = v.plan.number
    · have hwv : w = v := List.inj_on_of_nodup_map hn hw (List.mem_of_find?_eq_some hfind) he
      subst hwv
      rw [if_pos rfl, if_pos ⟨hd, hnumber⟩]
    · rw [if_neg he, if_neg fun h => he (h.2.trans hnumber.symm)]
  simp only [replaceService, soldTables, ht, Option.map_some, List.map_congr_left hsame]

/-- Where no service is CANCELLED an offered sold count moves the tables alone. -/
theorem offerSold_running {date : Date} {number quantity : Nat} {s : State}
    (h : ∀ t, s.tts.current = some t → ∀ v ∈ t.services, v.status ≠ .cancelled) :
    ∃ T, offerSold date number quantity s = { s with tts := T } ∧ MovedBy (soldTables date number quantity) s.tts T := by
  unfold offerSold
  split
  next ht => exact ⟨s.tts, rfl, .same (soldTables_of_none fun c hc => by simp [ht] at hc)⟩
  next t ht =>
    split
    next hd =>
      refine ⟨s.tts, rfl, .same (soldTables_of_none fun c hc he => ?_)⟩
      rw [ht] at hc
      cases hc
      exact absurd he hd
    next hd =>
      split
      next hv =>
        refine ⟨s.tts, rfl, .same (soldTables_of_none fun c hc _ v hvm => ?_)⟩
        rw [currentService, ht] at hv
        rw [ht] at hc
        cases hc
        simpa using List.find?_eq_none.mp hv v hvm
      next v hv =>
        have hvm : v ∈ t.services := by
          rw [currentService, ht] at hv
          exact List.mem_of_find?_eq_some hv
        dsimp only
        rw [if_neg fun hc => h t ht v hvm hc.1]
        refine ⟨_, rfl, ?_, fun hn => replaceService_sold ht (not_not.mp hd) hv (hn t ht)⟩
        exact Option.map_eq_none_iff

/-! ### The restart conversion (R92) -/

/-- The journal after the conversion: a retained PRINTING sale appended UNCONFIRMED and counted. -/
def convertedJournal (slot : Slot) (j : Sjn) : Sjn :=
  match slot with
  | .printing x _ =>
    { j with
      records := j.records ++ [recordOf x .unconfirmed none]
      reserved := false
      lifetime := j.lifetime.set x.payment (j.lifetime.get x.payment + x.quote.total) }
  | _ => { j with reserved := false }

theorem convertedJournal_printing (x : Sale) (n : Nat) (j : Sjn) : convertedJournal (.printing x n) j =
    { j with
      records := j.records ++ [recordOf x .unconfirmed none]
      reserved := false
      lifetime := j.lifetime.set x.payment (j.lifetime.get x.payment + x.quote.total) } := rfl

theorem convertedJournal_unprinted {slot : Slot} {j : Sjn} (h : slotState slot ≠ .printing) :
    convertedJournal slot j = { j with reserved := false } := by
  cases slot with
  | idle => rfl
  | quoted q n => rfl
  | printing x n => exact absurd rfl h

/-- The tables after it: the passengers of a bound sale added to its service. -/
def convertedTables (slot : Slot) (t : Tts) : Tts :=
  match slot with
  | .printing x _ => x.quote.bound.elim t fun b => soldTables x.date b.number x.quote.quantity t
  | _ => t

theorem convertedTables_printing (x : Sale) (n : Nat) : convertedTables (.printing x n) = fun t =>
    x.quote.bound.elim t fun b => soldTables x.date b.number x.quote.quantity t := rfl

/-- The conversion of a part whose services all run and whose slot holds a sale with its reservation, or nothing. -/
theorem convertSale_eq {s : State} (hs : s.slc.slot = retainedSlot s.slc.slot)
    (hr : s.sjn.reserved = (slotState s.slc.slot == .printing))
    (h : ∀ t, s.tts.current = some t → ∀ v ∈ t.services, v.status ≠ .cancelled) :
    ∃ T, convertSale s = { s with
        tts := T
        slc.slot := .idle
        sjn := convertedJournal s.slc.slot s.sjn
        hlk.notices := raisedIf (slotState s.slc.slot == .printing) 2 s.hlk.notices } ∧
      MovedBy (convertedTables s.slc.slot) s.tts T := by
  unfold convertSale
  cases hslot : s.slc.slot with
  | idle =>
    rw [hslot] at hr
    refine ⟨s.tts, ?_, .same rfl⟩
    show s = { s with slc.slot := .idle, sjn.reserved := false }
    rw [← hslot, ← show _ = false from hr]
  | quoted q n =>
    rw [hslot] at hs
    cases hs
  | printing x n =>
    rw [convertedTables_printing]
    dsimp only
    cases x.quote.bound with
    | none => exact ⟨s.tts, rfl, .same rfl⟩
    | some b =>
      obtain ⟨T, hT, hm⟩ := offerSold_running (date := x.date) (number := b.number) (quantity := x.quote.quantity)
        (s := append (recordOf x .unconfirmed none) { s with slc.slot := .idle }) h
      refine ⟨T, ?_, hm⟩
      rw [Option.elim_some, hT]
      rfl

/-! ### The thresholds (R100, R108) -/

/-- With both thresholds armed their evaluation arms each where the free count is above it, and raises the others. -/
theorem evaluateThresholds_armed {s : State} (hl : s.sjn.lowArmed = true) (hf : s.sjn.fullArmed = true) :
    evaluateThresholds s = { s with
      sjn.lowArmed := decide (s.sjn.low < freeCount s)
      sjn.fullArmed := decide (0 < freeCount s)
      hlk.notices := raisedIf (decide (freeCount s = 0)) 3 (raisedIf (decide (freeCount s ≤ s.sjn.low)) 5 s.hlk.notices) } := by
  have hlow : evaluateLow s = { s with
      sjn.lowArmed := decide (s.sjn.low < freeCount s)
      hlk.notices := raisedIf (decide (freeCount s ≤ s.sjn.low)) 5 s.hlk.notices } := by
    unfold evaluateLow
    by_cases h : freeCount s ≤ s.sjn.low
    · have hn : ¬s.sjn.low < freeCount s := by omega
      simp only [hl, h, hn, decide_true, decide_false, Bool.and_self, if_true]
      rfl
    · have hn : s.sjn.low < freeCount s := by omega
      simp only [hl, h, hn, decide_true, decide_false, Bool.and_false, Bool.not_true, Bool.false_and, Bool.false_eq_true,
        if_false, raisedIf]
      rw [← hl]
  have hfree : freeCount (evaluateLow s) = freeCount s := by rw [hlow]; rfl
  have hfull : (evaluateLow s).sjn.fullArmed = true := by rw [hlow]; exact hf
  unfold evaluateThresholds evaluateFull
  rw [hfree, hfull, hlow]
  by_cases h : freeCount s = 0
  · have hn : ¬0 < freeCount s := by omega
    simp only [h, decide_true, Bool.and_self, if_true]
    rfl
  · have hn : 0 < freeCount s := by omega
    simp only [h, hn, decide_true, decide_false, Bool.and_false, Bool.not_true, Bool.false_and, Bool.false_eq_true,
      if_false]
    rw [← hf]
    rfl

end Sys2Proof.Machine
end

section
/-! SUPPORT. The restart, second part: the state before the target is computed, and the state that the restart leaves once the
first probe has the line and the transition has started, which toward EL5 is complete where no panel is PRESENT (R130, R132,
R156 to R162, R176). -/

namespace Sys2Proof.Machine

/-! ### Before the target -/

/-- The tables with every service at its restart values. -/
def lostTables (t : Tts) : Tts :=
  { t with current := t.current.map fun c => { c with services := c.services.map restartService } }

/-- The free count after the conversion, which leaves no reservation. -/
def restartFree (s : State) : Nat := journalCapacity - (convertedJournal s.slc.slot s.sjn).records.length

/-- The journal after the conversion and the thresholds. -/
def restartJournal (s : State) : Sjn :=
  { convertedJournal s.slc.slot s.sjn with
    lowArmed := decide (s.sjn.low < restartFree s)
    fullArmed := decide (0 < restartFree s) }

/-- The notices of the restart. -/
def restartNotices (s : State) : List Notice :=
  raisedIf true 12 (raisedIf s.tts.current.isNone 15 (raisedIf (decide (restartFree s = 0)) 3
    (raisedIf (decide (restartFree s ≤ s.sjn.low)) 5
      (raisedIf (slotState s.slc.slot == .printing) 2 (clearedNotices s.hlk.notices)))))

/-- The part with the conversion, the thresholds, the notices, the demand and the boards of a restart, the tables as given. -/
def broughtUp (strap : Bool) (T : Tts) (s : State) : State :=
  { lose s with
    tts := T
    slc.slot := .idle
    sjn := restartJournal s
    bdc.accrual := accrualPeriod (s.enm.table.get .el4).rate
    bdc.lamp := (s.enm.table.get .el4).lamp
    enm.effective := ceilingNow s
    awu.demand := ceilingNow s
    awu.timer := demandTimerOf (s.enm.table.get (ceilingNow s))
    hlk.notices := restartNotices s
    hlk.fastLine := strap
    strap := strap
    power := .on }

theorem reportTimetable_eq (s : State) :
    reportTimetable s = { s with hlk.notices := raisedIf s.tts.current.isNone 15 s.hlk.notices } := by
  unfold reportTimetable raisedIf
  split <;> rfl

theorem startBoards_unset {s : State} (h : s.clock = none) : startBoards s = { s with
    bdc.accrual := accrualPeriod (presentEntry s).rate
    bdc.lamp := (presentEntry s).lamp } := by
  have hl := lampDuty_lit (s := { s with bdc.accrual := accrualPeriod (presentEntry s).rate }) (.inr (.inl h))
  unfold startBoards setLamp
  rw [lampDuty] at hl
  rw [hl]
  rfl

theorem retainedSlot_retainedSlot (slot : Slot) : retainedSlot (retainedSlot slot) = retainedSlot slot := by
  cases slot <;> rfl

/-- The conversion looks at what of the slot is retained. -/
theorem convertedTables_retained (slot : Slot) : convertedTables (retainedSlot slot) = convertedTables slot := by
  cases slot <;> rfl

theorem slotState_retained (slot : Slot) : (slotState (retainedSlot slot) == .printing) = (slotState slot == .printing) := by
  cases slot <;> rfl

theorem convertedJournal_retained (slot : Slot) (j : Sjn) (b : Bool) :
    convertedJournal (retainedSlot slot) { j with reserved := b, lowArmed := true, fullArmed := true } =
      { convertedJournal slot j with lowArmed := true, fullArmed := true } := by
  cases slot <;> rfl

theorem convertedJournal_reserved (slot : Slot) (j : Sjn) : (convertedJournal slot j).reserved = false := by
  cases slot <;> rfl

theorem convertedJournal_low (slot : Slot) (j : Sjn) : (convertedJournal slot j).low = j.low := by
  cases slot <;> rfl

/-- The part after what is lost, powered, with the strap sampled. -/
def lostAt (strap : Bool) (s : State) : State := { lose { s with strap := strap } with power := .on, hlk.fastLine := strap }

theorem lostAt_running {strap : Bool} {s : State} {t : CurrentTable} (ht : (lostAt strap s).tts.current = some t)
    {v : Service} (hv : v ∈ t.services) : v.status ≠ .cancelled := by
  obtain ⟨c, -, rfl⟩ := Option.map_eq_some_iff.mp ht
  obtain ⟨w, -, rfl⟩ := List.mem_map.mp hv
  exact nofun

/-- What the retained state brings about before the target is computed. -/
theorem broughtUp_of_lostAt (strap : Bool) (s : State) : ∃ T,
    startBoards (startDemand (raiseNotice .woke (reportTimetable (evaluateThresholds (convertSale (lostAt strap s)))))) =
      broughtUp strap T s ∧ MovedBy (convertedTables s.slc.slot) (lostTables s.tts) T := by
  obtain ⟨T, hT, hm⟩ := convertSale_eq (s := lostAt strap s) (retainedSlot_retainedSlot _).symm
    (slotState_retained s.slc.slot).symm (fun t ht v hv => lostAt_running ht hv)
  have hslot : (lostAt strap s).slc.slot = retainedSlot s.slc.slot := rfl
  have hj : convertedJournal (retainedSlot s.slc.slot) (lostAt strap s).sjn =
      { convertedJournal s.slc.slot s.sjn with lowArmed := true, fullArmed := true } :=
    convertedJournal_retained s.slc.slot s.sjn _
  rw [hslot, convertedTables_retained] at hm
  rw [hslot, hj, slotState_retained] at hT
  have hempty : T.current.isNone = s.tts.current.isNone := by
    have h : T.current = none ↔ s.tts.current = none := hm.empty.trans Option.map_eq_none_iff
    rw [Bool.eq_iff_iff, Option.isNone_iff_eq_none, Option.isNone_iff_eq_none, h]
  have hfree : freeCount (convertSale (lostAt strap s)) = restartFree s := by
    rw [hT, freeCount]
    simp only [convertedJournal_reserved, restartFree]
    rfl
  have hlow : (convertSale (lostAt strap s)).sjn.low = s.sjn.low := by rw [hT]; exact convertedJournal_low _ _
  refine ⟨T, ?_, hm⟩
  rw [evaluateThresholds_armed (by rw [hT]) (by rw [hT]), hfree, hlow, hT, reportTimetable_eq]
  dsimp only
  rw [hempty, raiseNotice_eq, startBoards_unset rfl]
  rfl

/-! ### The target and the transition toward it (R155 to R158) -/

/-- A raise below EL1 out of EL4 leaves the rail mode, which is GATED. -/
theorem followRailMode_of_same {s : State} (h : railModeFor s.plc.railLevel s.awu.brief = s.plc.mode) :
    followRailMode s = s := if_pos h

theorem retarget_stays {s : State} {l : Level} (ht : s.enm.transition = .none) (hl : computeTarget s = l)
    (hp : l = s.enm.present) : retarget s = { s with enm.target := l } := by
  unfold retarget
  dsimp only
  rw [ht, hl, if_pos hp]

theorem retarget_raises {s : State} {l : Level} (ht : s.enm.transition = .none) (hl : computeTarget s = l)
    (hr : levelRank l < levelRank s.enm.present) : retarget s = startRaise l { s with enm.target := l } := by
  unfold retarget
  dsimp only
  rw [ht, hl, if_neg (by rintro rfl; omega), if_pos hr]

theorem retarget_lowers {s : State} {l : Level} (ht : s.enm.transition = .none) (hl : computeTarget s = l)
    (hr : levelRank s.enm.present < levelRank l) : retarget s = startLowering l { s with enm.target := l } := by
  unfold retarget
  dsimp only
  rw [ht, hl, if_neg (by rintro rfl; omega), if_neg (by omega)]

/-- A lowering of an IDLE slot under an UNSET clock that was last reported brings about nothing else. -/
theorem startLowering_unset {s : State} {l : Level} (hc : s.clock = none) (hs : s.bdc.sales = some .clock)
    (hslot : s.slc.slot = .idle) : startLowering l s = { s with enm.transition := .lowering l } := by
  have hd : decideSales { s with enm.transition := .lowering l } = { s with enm.transition := .lowering l } :=
    decideSales_of_same ((head_salesReasons_unset (by exact hc)).trans hs.symm)
  unfold startLowering
  dsimp only
  rw [hd, withdraw_of_idle (by exact hslot), ite_self]

/-- The target of a restarted part: under the BATTERY limit EL2 it is EL2 to EL5. -/
theorem computeTarget_broughtUp (strap : Bool) (T : Tts) (s : State) :
    3 ≤ levelRank (computeTarget (broughtUp strap T s)) := by
  rw [computeTarget_eq_clampedDemand rfl (Option.some_ne_none _)]
  exact levelRank_le_clampedDemand (l := .el2) List.mem_cons_self

/-! ### What the restart leaves -/

/-- The present level after the restart: EL5 where the target is EL5 and no probe holds the drain, else EL4. -/
def restartPresent (g : Level) (s : State) : Level := if g = .el5 ∧ firstProbed s = none then .el5 else .el4

/-- The transition in flight toward the target. -/
def restartTransition (g : Level) (s : State) : Transition :=
  if g = restartPresent g s then .none else if g = .el5 then .lowering .el5 else .raising g s.enm.raiseSettle

/-- The part moving toward a target. -/
def movingTo (g : Level) (s : State) : State :=
  { s with
    enm.target := g
    enm.present := restartPresent g s
    enm.previous := if restartPresent g s = .el4 then none else some .el4
    enm.transition := restartTransition g s }

/-- The panels with the probe of the first one started. -/
def probedPanels (first : Option Addr) (panels : Four PanelRecord) : Four PanelRecord :=
  first.elim panels fun a => panels.set a { unknownPanel none with probeDue := false }

/-- The part that comes up: moving toward its target, with the load settings of its level and the first probe on the line. -/
def cameUp (g : Level) (s : State) : State :=
  let t := movingTo g s
  { t with
    bdc.accrual := accrualPeriod (presentEntry t).rate
    bdc.lamp := (presentEntry t).lamp
    plc.panels := probedPanels (firstProbed s) s.plc.panels
    plc.line := (firstProbed s).map fun a => ⟨a, .probe, .settle, false⟩
    plc.mode := if railLevelOf t = .el5 then .off else .gated
    plc.rail := if (firstProbed s).isSome then .settling 250 else .off
    plc.railLevel := railLevelOf t
    enm.draw := (s.enm.table.get (railLevelOf t)).draw
    hlk.notices := raisedIf (decide (restartPresent g s = .el5)) 10 s.hlk.notices }

end Sys2Proof.Machine
end

section
/-! SUPPORT. The restart, third part: the panels and the reactions of a part that comes up, and that no more stands after them
(R130, R132, R142, R158, R160). -/

namespace Sys2Proof.Machine

variable {strap : Bool} {T : Tts} {s : State} {g : Level}

theorem firstProbed_present {t : State} {a : Addr} (h : firstProbed t = some a) :
    (t.bdc.profiles.get a).isPresent = true :=
  List.find?_some (p := fun a => (t.bdc.profiles.get a).isPresent) h

/-- Where no panel is probed, none is PRESENT. -/
theorem firstProbed_none {t : State} (h : firstProbed t = none) (a : Addr) :
    (t.bdc.profiles.get a).isPresent = false := by
  simpa using List.find?_eq_none.mp h a (by cases a <;> decide)

theorem panelAt_broughtUp (a : Addr) : panelAt (broughtUp strap T s) a =
    if (s.bdc.profiles.get a).isPresent then unknownPanel none else absentPanel := Four.get_map _ _ a

/-- A panel of the part that came up: UNKNOWN or ABSENT, and due for a probe unless its probe has the line. -/
theorem panelAt_cameUp (a : Addr) : panelAt (cameUp g (broughtUp strap T s)) a =
    if firstProbed s = some a then { unknownPanel none with probeDue := false }
    else if (s.bdc.profiles.get a).isPresent then unknownPanel none else absentPanel := by
  have hp : panelAt (cameUp g (broughtUp strap T s)) a =
      (probedPanels (firstProbed s) (broughtUp strap T s).plc.panels).get a := rfl
  rw [hp]
  cases firstProbed s with
  | none => exact panelAt_broughtUp a
  | some b =>
    rw [probedPanels, Option.elim_some, Four.get_set]
    by_cases h : a = b
    · rw [if_pos h, if_pos (by rw [h])]
    · rw [if_neg h, if_neg fun hb => h (by simpa using hb.symm)]
      exact panelAt_broughtUp a

/-- No panel of a restarted part is READY or REFRESHING, so the cold flag stays. -/
theorem coldNow_of_links {t : State} (h : ∀ a, (panelAt t a).link = .unknown ∨ (panelAt t a).link = .absent) :
    coldNow t = t.plc.cold := by
  have hnone : coldestTemperature t = none := by
    unfold coldestTemperature
    refine (congrArg (List.foldl _ none) (List.filterMap_eq_nil_iff.mpr fun a _ => ?_)).trans rfl
    refine if_neg fun hl => ?_
    have ha : (t.plc.panels.get a).link = .unknown ∨ (t.plc.panels.get a).link = .absent := h a
    rcases ha with ha | ha <;> rw [ha] at hl <;> simp at hl
  unfold coldNow
  rw [hnone]

theorem link_cameUp (a : Addr) : (panelAt (cameUp g (broughtUp strap T s)) a).link =
    if (s.bdc.profiles.get a).isPresent then .unknown else .absent := by
  rw [panelAt_cameUp]
  by_cases h : firstProbed s = some a
  · rw [if_pos h, if_pos (firstProbed_present h)]
    rfl
  · rw [if_neg h]
    split <;> rfl

theorem due_cameUp (a : Addr) : (panelAt (cameUp g (broughtUp strap T s)) a).probeDue =
    ((s.bdc.profiles.get a).isPresent && decide (firstProbed s ≠ some a)) := by
  rw [panelAt_cameUp]
  by_cases h : firstProbed s = some a
  · simp [h]
  · rw [if_neg h]
    cases (s.bdc.profiles.get a).isPresent <;> simp [h, unknownPanel, absentPanel]

/-- Without messages the rotation timer has nothing to do. -/
theorem rotates_of_empty {t : State} (hh : t.bdc.host = []) (ha : t.bdc.auto = []) : rotates t = false := by
  simp [rotates, hh, ha]

/-- A lowering waits for the probe on the line. -/
theorem isSome_firstProbed_of_lowering {t : State} {d : Level} (h : restartTransition g t = .lowering d) :
    (firstProbed t).isSome = true := by
  unfold restartTransition restartPresent at h
  cases hf : firstProbed t with
  | some a => rfl
  | none =>
    rw [hf] at h
    split_ifs at h
    all_goals simp_all

/-- No reaction stands in the part that came up. -/
theorem quiet_cameUp : Quiet (cameUp g (broughtUp strap T s)) := by
  constructor
  case urgent => rfl
  case cold =>
    refine coldNow_of_links fun a => ?_
    rw [link_cameUp]
    split
    · exact .inl rfl
    · exact .inr rfl
  case probe =>
    unfold probeReady
    cases hf : firstProbed s with
    | some a =>
      refine if_neg fun h => ?_
      have hl : (cameUp g (broughtUp strap T s)).plc.line = (firstProbed s).map fun a => ⟨a, .probe, .settle, false⟩ := rfl
      rw [hl, hf] at h
      exact absurd h.1 (by simp)
    | none =>
      have hd : (allPanels.find? fun a => (panelAt (cameUp g (broughtUp strap T s)) a).probeDue) = none := by
        refine List.find?_eq_none.mpr fun a _ => ?_
        rw [due_cameUp, firstProbed_none hf]
        exact Bool.false_ne_true
      rw [hd, ite_self]
  case entry => rfl
  case brief => rfl
  case drain =>
    have hline : (cameUp g (broughtUp strap T s)).plc.line.isNone = (firstProbed s).isNone :=
      Option.isNone_map
    unfold drainReady loweringTo
    cases ht : (cameUp g (broughtUp strap T s)).enm.transition with
    | none => rfl
    | raising d n => rfl
    | lowering d =>
      have hsome : (firstProbed s).isSome = true := isSome_firstProbed_of_lowering (t := broughtUp strap T s) ht
      rw [Option.isSome_iff_ne_none, ne_eq, ← Option.isNone_iff_eq_none, Bool.not_eq_true] at hsome
      rw [Option.bind_some, drained, hline, hsome, Bool.false_and]
      rfl
  case rotation => exact rotates_of_empty rfl rfl

/-! ### The reactions of a restart -/

theorem react_probe {t : State} {a : Addr} (hu : urgentWaiting t = t.awu.urgent) (hc : coldNow t = t.plc.cold)
    (hp : probeReady t = some a) : react t = some (startProbe a t) := by
  unfold react
  rw [if_neg (not_not.mpr hu), if_neg (not_not.mpr hc), hp]

theorem react_drain {t : State} {d : Level} (hu : urgentWaiting t = t.awu.urgent) (hc : coldNow t = t.plc.cold)
    (hp : probeReady t = none) (he : firstServable t = none) (hb : briefReturns t = false) (hd : drainReady t = some d) :
    react t = some (completeLowering d t) := by
  unfold react
  rw [if_neg (not_not.mpr hu), if_neg (not_not.mpr hc), hp, he]
  simp only [hb, hd, Bool.false_eq_true, if_false, Option.map_some]

/-- The part with its target computed and the transition toward it started. -/
def aimed (g : Level) (t : State) : State :=
  { t with
    enm.target := g
    enm.transition := if g = .el4 then .none else if g = .el5 then .lowering .el5 else .raising g t.enm.raiseSettle
    enm.draw := if g = .el5 then t.enm.draw else (levelEntry t g).draw
    plc.railLevel := if g = .el5 then .el4 else g }

theorem retarget_broughtUp (hg : computeTarget (broughtUp strap T s) = g) :
    retarget (broughtUp strap T s) = aimed g (broughtUp strap T s) := by
  have hrank := hg ▸ computeTarget_broughtUp strap T s
  have hpresent : (broughtUp strap T s).enm.present = .el4 := rfl
  cases g with
  | ela => exact absurd hrank (by decide)
  | el0 => exact absurd hrank (by decide)
  | el1 => exact absurd hrank (by decide)
  | el2 =>
    rw [retarget_raises rfl hg (by rw [hpresent]; decide), startRaise, followRailMode_of_same rfl]
    rfl
  | el3 =>
    rw [retarget_raises rfl hg (by rw [hpresent]; decide), startRaise, followRailMode_of_same rfl]
    rfl
  | el4 =>
    rw [retarget_stays rfl hg hpresent.symm]
    rfl
  | el5 =>
    rw [retarget_lowers rfl hg (by rw [hpresent]; decide), startLowering_unset rfl rfl rfl]
    rfl

theorem probeReady_aimed : probeReady (aimed g (broughtUp strap T s)) = firstProbed s := by
  have hdue : (fun a => (panelAt (aimed g (broughtUp strap T s)) a).probeDue) =
      fun a => (s.bdc.profiles.get a).isPresent := by
    funext a
    have ha : panelAt (aimed g (broughtUp strap T s)) a = panelAt (broughtUp strap T s) a := rfl
    rw [ha, panelAt_broughtUp]
    cases (s.bdc.profiles.get a).isPresent <;> rfl
  unfold probeReady
  rw [if_pos ⟨rfl, nofun⟩, hdue]
  rfl

theorem coldNow_aimed : coldNow (aimed g (broughtUp strap T s)) = (aimed g (broughtUp strap T s)).plc.cold := by
  refine coldNow_of_links fun a => ?_
  have ha : panelAt (aimed g (broughtUp strap T s)) a = panelAt (broughtUp strap T s) a := rfl
  rw [ha, panelAt_broughtUp]
  split
  · exact .inl rfl
  · exact .inr rfl

/-- A probe of a panel whose rail is switched on for it (R143). -/
theorem startProbe_off {t : State} {a : Addr} (hr : t.plc.rail = .off) (hm : t.plc.mode ≠ .off) : startProbe a t = { t with
    plc.panels := t.plc.panels.set a { panelAt t a with probeDue := false }
    plc.line := some ⟨a, .probe, .settle, false⟩
    plc.rail := .settling 250
    plc.idle := none } := by
  unfold startProbe beginTransaction
  dsimp only
  rw [if_neg fun h => by rw [setPanel_plc_rail, hr] at h; exact absurd h.1 nofun, if_pos ⟨hr, hm⟩]
  rfl

theorem restartPresent_of_some {t : State} {a : Addr} (hf : firstProbed t = some a) : restartPresent g t = .el4 := by
  rw [restartPresent, if_neg fun h => by rw [hf] at h; exact absurd h.2 nofun]

theorem restartPresent_of_ne {t : State} (h5 : g ≠ .el5) : restartPresent g t = .el4 := if_neg fun h => h5 h.1

/-- Where the present level stays at EL4, the part aimed at its target is moving to it. -/
theorem aimed_eq_movingTo {t : State} (ht : restartPresent g t = .el4) (hp : t.enm.present = .el4)
    (hv : t.enm.previous = none) (hd : t.enm.draw = (t.enm.table.get .el4).draw) : aimed g t =
      { movingTo g t with
        enm.draw := (t.enm.table.get (railLevelOf (movingTo g t))).draw
        plc.railLevel := railLevelOf (movingTo g t) } := by
  have hmove : movingTo g t = { t with
      enm.target := g
      enm.transition := if g = .el4 then .none else if g = .el5 then .lowering .el5 else .raising g t.enm.raiseSettle } := by
    unfold movingTo restartTransition
    rw [ht, if_pos rfl, ← hp, ← hv]
  rw [hmove, aimed]
  by_cases h4 : g = .el4
  · subst h4
    simp [railLevelOf, hp, levelEntry]
  · by_cases h5 : g = .el5
    · subst h5
      simp [railLevelOf, hp, hd]
    · simp [railLevelOf, h4, h5, levelEntry]

theorem railLevelOf_movingTo {t : State} (ht : restartPresent g t = .el4) : railLevelOf (movingTo g t) ≠ .el5 := by
  unfold railLevelOf movingTo restartTransition
  rw [ht]
  by_cases h4 : g = .el4
  · subst h4
    exact nofun
  · by_cases h5 : g = .el5
    · subst h5
      exact nofun
    · simp [h4, h5]

/-- Where the present level stays at EL4, the part that comes up is the one aimed at its target, with the first probe on the
line. -/
theorem cameUp_resting (hp : restartPresent g (broughtUp strap T s) = .el4) : cameUp g (broughtUp strap T s) =
    { aimed g (broughtUp strap T s) with
      plc.panels := probedPanels (firstProbed s) (broughtUp strap T s).plc.panels
      plc.line := (firstProbed s).map fun a => ⟨a, .probe, .settle, false⟩
      plc.rail := if (firstProbed s).isSome then .settling 250 else .off } := by
  have hentry : presentEntry (movingTo g (broughtUp strap T s)) = s.enm.table.get .el4 :=
    congrArg s.enm.table.get hp
  rw [aimed_eq_movingTo hp rfl rfl rfl]
  unfold cameUp
  dsimp only
  rw [hentry, if_neg (railLevelOf_movingTo hp), hp]
  rfl

/-- With a PRESENT panel the first probe takes the line, and the part has come up. -/
theorem startProbe_aimed {a : Addr} (hf : firstProbed s = some a) :
    startProbe a (aimed g (broughtUp strap T s)) = cameUp g (broughtUp strap T s) := by
  have hrecord : panelAt (aimed g (broughtUp strap T s)) a = unknownPanel none := by
    have ha : panelAt (aimed g (broughtUp strap T s)) a = panelAt (broughtUp strap T s) a := rfl
    rw [ha, panelAt_broughtUp, if_pos (firstProbed_present hf)]
  rw [startProbe_off rfl (show RailMode.gated ≠ .off from nofun), hrecord, cameUp_resting (restartPresent_of_some hf), hf]
  rfl

/-- With none, and a target above EL5, the part has come up at once. -/
theorem aimed_eq_cameUp (hf : firstProbed s = none) (h5 : g ≠ .el5) :
    aimed g (broughtUp strap T s) = cameUp g (broughtUp strap T s) := by
  rw [cameUp_resting (restartPresent_of_ne h5), hf]
  rfl

/-- The Board Composer takes the settings of a level under a lit lamp and without a rotation. -/
theorem takeLoadSettings_lit {t : State} (hl : t.enm.present = .ela ∨ t.clock = none ∨ t.tts.current = none)
    (hr : rotates t = false) : takeLoadSettings t = { t with
      bdc.credit := min t.bdc.credit (presentEntry t).depth
      bdc.accrual := accrualPeriod (presentEntry t).rate
      bdc.rotation := none
      bdc.lamp := (presentEntry t).lamp } := by
  have hrotates : rotates { t with
      bdc.credit := min t.bdc.credit (presentEntry t).depth
      bdc.accrual := accrualPeriod (presentEntry t).rate } = false := hr
  have hlamp := lampDuty_lit (s := { t with
    bdc.credit := min t.bdc.credit (presentEntry t).depth
    bdc.accrual := accrualPeriod (presentEntry t).rate
    bdc.rotation := none }) hl
  unfold takeLoadSettings restartRotation setLamp
  rw [if_neg (by rw [hrotates]; exact Bool.false_ne_true)]
  rw [lampDuty] at hlamp
  rw [hlamp]
  rfl

/-- The rail of a free line is switched off with mode OFF (R143). -/
theorem followRailMode_off {t : State} (hm : railModeFor t.plc.railLevel t.awu.brief = .off) (hne : t.plc.mode ≠ .off)
    (hl : t.plc.line = none) : followRailMode t =
      { t with plc.mode := .off, plc.idle := none, plc.rail := .off } := by
  unfold followRailMode
  dsimp only
  rw [hm, if_neg hne.symm, hl]
  rfl

theorem dormantCredit_of_ne {t : State} {l : Level} (h : l ≠ .el5) : dormantCredit l t = t := if_neg fun hl => h hl.1

/-- Without an urgent entry no brief episode starts. -/
theorem judgeBriefStart_of_none {t : State} (h : t.awu.urgent = false) : judgeBriefStart t = t := by
  unfold judgeBriefStart briefStarts
  simp [h]

/-- With none, and the target EL5, the lowering completes. -/
theorem completeLowering_aimed (hf : firstProbed s = none) (hg : computeTarget (broughtUp strap T s) = .el5) :
    completeLowering .el5 (aimed .el5 (broughtUp strap T s)) = cameUp .el5 (broughtUp strap T s) := by
  have hp : restartPresent .el5 (broughtUp strap T s) = .el5 := if_pos ⟨rfl, hf⟩
  have hleft : (aimed .el5 (broughtUp strap T s)).enm.present ≠ .el5 := show Level.el4 ≠ .el5 from nofun
  unfold completeLowering completeAt
  rw [followRailMode_off rfl (show RailMode.gated ≠ .off from nofun) rfl]
  dsimp only
  rw [takeLoadSettings_lit (.inr (.inl rfl)) (rotates_of_empty rfl rfl),
    dormantCredit_of_ne hleft, decideSales_of_same (head_salesReasons_unset rfl), if_pos rfl,
    judgeBriefStart_of_none rfl]
  refine (retarget_stays rfl (by exact hg) rfl).trans ?_
  unfold cameUp movingTo restartTransition
  dsimp only
  rw [hp, show firstProbed (broughtUp strap T s) = none from hf,
    show (aimed .el5 (broughtUp strap T s)).bdc.credit = 0 from rfl, Nat.zero_min]
  rfl

/-- What stands after the target is computed comes about, and no more. -/
theorem settle_retarget_broughtUp (hg : computeTarget (broughtUp strap T s) = g) :
    settle (retarget (broughtUp strap T s)) = cameUp g (broughtUp strap T s) := by
  rw [retarget_broughtUp hg]
  cases hf : firstProbed s with
  | some a =>
    rw [settle_of_react (react_probe rfl coldNow_aimed (probeReady_aimed.trans hf)), startProbe_aimed hf,
      settle_of_quiet quiet_cameUp]
  | none =>
    by_cases h5 : g = .el5
    · subst h5
      rw [settle_of_react (react_drain rfl coldNow_aimed (probeReady_aimed.trans hf) rfl rfl rfl),
        completeLowering_aimed hf hg, settle_of_quiet quiet_cameUp]
    · rw [aimed_eq_cameUp hf h5, settle_of_quiet quiet_cameUp]

end Sys2Proof.Machine
end

section
/-! SUPPORT. What a restart leaves, as the statement says it: the settings, the restart values and the sale concluded (R30, R49,
R92, R108, R176, R182). -/

namespace Sys2Proof.Machine

section
variable {strap : Bool} {T : Tts} {s : State} {g : Level}

/-! ### The restart values -/

theorem freeCount_cameUp : freeCount (cameUp g (broughtUp strap T s)) = restartFree s := by
  have hr : (cameUp g (broughtUp strap T s)).sjn.reserved = false := convertedJournal_reserved _ _
  unfold freeCount
  rw [hr]
  rfl

theorem low_cameUp : (cameUp g (broughtUp strap T s)).sjn.low = s.sjn.low := convertedJournal_low _ _

theorem noticeIn_clearedNotices (l : List Notice) (n : Nat) :
    (noticeIn (clearedNotices l) n).pending = false ∧ (noticeIn (clearedNotices l) n).seen = false := by
  simp only [noticeIn, clearedNotices, List.getD_eq_getElem?_getD, List.getElem?_map]
  cases l[n]? <;> exact ⟨rfl, rfl⟩

theorem notices_cameUp : (cameUp g (broughtUp strap T s)).hlk.notices =
    raisedIf (decide (restartPresent g (broughtUp strap T s) = .el5)) 10 (restartNotices s) := rfl

theorem length_notices_cameUp : (cameUp g (broughtUp strap T s)).hlk.notices.length = s.hlk.notices.length := by
  rw [notices_cameUp, restartNotices]
  simp only [length_raisedIf, clearedNotices, List.length_map]

theorem seen_cameUp (n : Nat) : (noticeAt (cameUp g (broughtUp strap T s)) n).seen = false := by
  rw [noticeAt_eq, notices_cameUp]
  exact seen_raisedIf (seen_raisedIf (seen_raisedIf (seen_raisedIf (seen_raisedIf (seen_raisedIf
    (noticeIn_clearedNotices _ n).2)))))

/-- The notices that are pending: those of the restart, and LEVEL-CHANGED where it has reached EL5 (R182). -/
theorem pending_cameUp (hl : s.hlk.notices.length = sourceCount) (n : Nat) :
    (noticeAt (cameUp g (broughtUp strap T s)) n).pending = true ↔
      n = 12 ∨ (n = 2 ∧ slotState s.slc.slot = .printing) ∨ (n = 3 ∧ restartFree s = 0) ∨
        (n = 5 ∧ restartFree s ≤ s.sjn.low) ∨ (n = 10 ∧ restartPresent g (broughtUp strap T s) = .el5) ∨
          (n = 15 ∧ s.tts.current = none) := by
  have hlen : (clearedNotices s.hlk.notices).length = 16 := (List.length_map _).trans hl
  rw [noticeAt_eq, notices_cameUp, restartNotices]
  simp only [pending_raisedIf, length_raisedIf, hlen, (noticeIn_clearedNotices _ n).1, decide_eq_true_eq, beq_iff_eq,
    Option.isNone_iff_eq_none, Bool.false_eq_true, or_false, true_and, Nat.reduceLT]
  tauto

/-- A restart leaves every state that is not retained at its restart value. -/
theorem fresh_cameUp (hg : computeTarget (broughtUp strap T s) = g) (hT : T.current = none ↔ s.tts.current = none) :
    Fresh s (cameUp g (broughtUp strap T s)) := by
  constructor
  case reserved => exact convertedJournal_reserved _ _
  case glass =>
    intro a
    rw [panelAt_cameUp]
    split
    · rfl
    · split <;> rfl
  case due => exact due_cameUp
  case probeTimer =>
    intro a
    rw [panelAt_cameUp]
    split
    · rfl
    · split <;> rfl
  case link => exact link_cameUp
  case attempts =>
    intro a
    rw [panelAt_cameUp]
    split
    · rfl
    · split <;> rfl
  case lowArmed =>
    rw [freeCount_cameUp, low_cameUp]
    rfl
  case fullArmed =>
    rw [freeCount_cameUp]
    rfl
  case target => exact hg.symm
  case seen => exact seen_cameUp
  case notices =>
    intro hl n
    rw [length_notices_cameUp] at hl
    rw [pending_cameUp hl, freeCount_cameUp, low_cameUp, show (cameUp g (broughtUp strap T s)).tts.current = none ↔ _ from hT]
    rfl
  all_goals rfl

/-! ### The settings -/

theorem retained_soldTables (date : Date) (number quantity : Nat) (t : Tts) :
    (soldTables date number quantity t).retained = t.retained := by
  simp only [Tts.retained, soldTables, Option.map_map, Function.comp_def, List.map_map]

theorem retained_lostTables (t : Tts) : (lostTables t).retained = t.retained := by
  simp only [Tts.retained, lostTables, Option.map_map, Function.comp_def, List.map_map]
  rfl

theorem retained_convertedTables (slot : Slot) (t : Tts) : (convertedTables slot t).retained = t.retained := by
  cases slot with
  | idle => rfl
  | quoted q n => rfl
  | printing x n =>
    rw [convertedTables_printing]
    cases x.quote.bound with
    | none => rfl
    | some b => exact retained_soldTables _ _ _ t

/-- A restart keeps every setting. -/
theorem settingsKept_cameUp (hT : T = convertedTables s.slc.slot (lostTables s.tts)) :
    SettingsKept s (cameUp g (broughtUp strap T s)) := by
  have hj : (convertedJournal s.slc.slot s.sjn).next = s.sjn.next ∧
      (convertedJournal s.slc.slot s.sjn).released = s.sjn.released ∧
      (convertedJournal s.slc.slot s.sjn).handedBack = s.sjn.handedBack := by
    cases s.slc.slot <;> exact ⟨rfl, rfl, rfl⟩
  constructor
  case tts =>
    have ht : (cameUp g (broughtUp strap T s)).tts = T := rfl
    rw [ht, hT, retained_convertedTables, retained_lostTables]
  case next => exact hj.1
  case released => exact hj.2.1
  case handedBack => exact hj.2.2
  case low => exact low_cameUp
  case notices =>
    rw [notices_cameUp, restartNotices]
    simp only [config_raisedIf, clearedNotices_config]
  all_goals rfl

end

/-! ### The whole restart -/

/-- A power-on without RESETN held restarts the part, and one that is still powered too. -/
theorem powerUp_restarts {strap : Bool} {s : State} (h : resetLow s.power = false) : powerUp strap s = restartAt strap s := by
  unfold powerUp
  split
  next hp =>
    rw [hp] at h
    cases h
  next hp =>
    rw [hp] at h
    cases h
  · rfl
  · rfl

/-- A restart as one state. -/
theorem restartAt_eq (strap : Bool) (s : State) : ∃ T,
    restartAt strap s = cameUp (computeTarget (broughtUp strap T s)) (broughtUp strap T s) ∧
      MovedBy (convertedTables s.slc.slot) (lostTables s.tts) T := by
  obtain ⟨T, hT, hm⟩ := broughtUp_of_lostAt strap s
  refine ⟨T, ?_, hm⟩
  rw [← settle_retarget_broughtUp rfl, ← hT]
  rfl

/-- The sold count of a service after a restart: the passengers of a sale concluded for it added (R49, R92). -/
def soldAtRestart (slot : Slot) (table : Date) (v : Service) : Nat :=
  match slot with
  | .printing x _ => x.quote.bound.elim v.sold fun b => soldWith x.date b.number x.quote.quantity table v
  | _ => v.sold

theorem soldAtRestart_printing (x : Sale) (n : Nat) (table : Date) (v : Service) :
    soldAtRestart (.printing x n) table v =
      if table = x.date ∧ x.quote.bound.map (·.number) = some v.plan.number then min 65535 (v.sold + x.quote.quantity)
      else v.sold := by
  simp only [soldAtRestart]
  cases x.quote.bound with
  | none => simp
  | some b => simp [soldWith, eq_comm]

/-- The current table after a restart: its services at their restart values. -/
theorem convertedTables_current (slot : Slot) {t : Tts} {c : CurrentTable} (hc : t.current = some c) :
    (convertedTables slot (lostTables t)).current = some ⟨c.header, c.services.map fun v =>
      ⟨v.plan, .scheduled, 0, v.plan.platform, false, none, false, soldAtRestart slot c.header.date v⟩⟩ := by
  have hlost : (lostTables t).current = some ⟨c.header, c.services.map restartService⟩ := by
    rw [lostTables, hc]
    rfl
  cases slot with
  | idle => exact hlost
  | quoted q n => exact hlost
  | printing x n =>
    rw [convertedTables_printing]
    simp only [soldAtRestart]
    cases x.quote.bound with
    | none => exact hlost
    | some b =>
      simp only [Option.elim_some, soldTables, hlost, Option.map_some, List.map_map]
      rfl

/-- Settles O3: the restart as one state, whose fields the statement lists. -/
theorem restartsKeepSettingsAndConcludeSales : Obligations.RestartsKeepSettingsAndConcludeSales := by
  refine ⟨fun strap s hp hd => ?_, fun strap s hp => ?_⟩
  · obtain ⟨T, hT, hm⟩ := restartAt_eq strap s
    have hempty : T.current = none ↔ s.tts.current = none := hm.empty.trans Option.map_eq_none_iff
    have htables : T = convertedTables s.slc.slot (lostTables s.tts) := hm.moved fun c hc => by
      obtain ⟨d, hd', rfl⟩ := Option.map_eq_some_iff.mp hc
      rw [List.map_map]
      exact hd.1 d hd'
    refine ⟨_, exec_of_supplyRule rfl s, ?_⟩
    rw [powerUp_restarts hp, hT]
    refine ⟨rfl, rfl, rfl, settingsKept_cameUp htables, fresh_cameUp rfl hempty, quiet_cameUp, rfl, rfl, hempty.mpr,
      fun c hc => ?_⟩
    have ht : (cameUp (computeTarget (broughtUp strap T s)) (broughtUp strap T s)).tts = T := rfl
    rw [ht, htables, convertedTables_current _ hc]
    cases s.slc.slot with
    | idle => rfl
    | quoted q n => rfl
    | printing x n =>
      refine congrArg (fun l => some (CurrentTable.mk c.header l)) (List.map_congr_left fun v _ => ?_)
      exact congrArg (Service.mk v.plan .scheduled 0 v.plan.platform false none false) (soldAtRestart_printing x n _ v)
  · obtain ⟨T, hT, hm⟩ := restartAt_eq strap s
    refine ⟨_, exec_of_supplyRule rfl s, ?_⟩
    rw [powerUp_restarts hp, hT]
    have hj : (cameUp (computeTarget (broughtUp strap T s)) (broughtUp strap T s)).sjn = restartJournal s := rfl
    rw [hj, restartJournal]
    refine ⟨fun x left hx hl => ?_, fun hx => ?_⟩
    · have hpending := (pending_cameUp (strap := strap) (T := T) (g := computeTarget (broughtUp strap T s)) hl 2).mpr
        (.inr (.inl ⟨rfl, by rw [hx]; rfl⟩))
      rw [hx, convertedJournal_printing]
      refine ⟨rfl, fun k => ?_, hpending⟩
      rw [PerPayment.get_set]
      split
      next hk => rw [hk]
      next => rw [Nat.add_zero]
    · rw [convertedJournal_unprinted hx]
      exact ⟨rfl, rfl⟩

end Sys2Proof.Machine
end

section
/-! SUPPORT. What the operations of CLEAR-RETAINED leave alone: the target of a part with an IDLE slot, the change event of cause
TABLE, and the panels that become ABSENT (R112, R119, R137, R155). -/

namespace Sys2Proof.Machine

/-! ### The target of a part with an IDLE slot -/

/-- No panel is PRESENT. -/
def NonePresent (s : State) : Prop := ∀ a, (s.bdc.profiles.get a).isPresent = false

/-- A transition in flight goes on, and the draw allowance moves with one that starts alone. -/
structure StartsOnly (e f : Enm) : Prop where
  goesOn : e.transition ≠ .none → f.transition = e.transition
  draw : f.transition = e.transition → f.draw = e.draw

theorem StartsOnly.trans {e f g : Enm} (h : StartsOnly e f) (k : StartsOnly f g) : StartsOnly e g where
  goesOn he := by
    have hf := h.goesOn he
    rw [k.goesOn (by rwa [hf]), hf]
  draw hg := by
    have hf : f.transition = e.transition := by
      by_cases he : e.transition = .none
      · by_contra hne
        exact hne ((k.goesOn (by rwa [he] at hne)).symm.trans hg)
      · exact h.goesOn he
    rw [k.draw (hg.trans hf.symm), h.draw hf]

/-- Between `s` and `t` only the target and a transition that starts have moved, with what a start brings about of the sales
event and of the rail: no panel's record, and of a part without a PRESENT panel no entry of the queue. -/
structure Shifted (s t : State) : Prop where
  state : t = { s with
    bdc.queue := t.bdc.queue
    bdc.sales := t.bdc.sales
    plc := t.plc
    enm.target := t.enm.target
    enm.transition := t.enm.transition
    enm.draw := t.enm.draw }
  panels : t.plc.panels = s.plc.panels
  queue : NonePresent s → t.bdc.queue = s.bdc.queue
  starts : StartsOnly s.enm t.enm

theorem requestRefresh_state (u : Bool) (s : State) (a : Addr) :
    requestRefresh u s a = { s with bdc.queue := (requestRefresh u s a).bdc.queue } := by
  unfold requestRefresh
  split <;> rfl

/-- Requests move the queue alone, and of PRESENT panels alone (R120, R121). -/
theorem requestEach_state (want : Profile → Option Bool) (s : State) :
    requestEach want s = { s with bdc.queue := (requestEach want s).bdc.queue } := by
  have step : ∀ (l : List Addr) (s : State) (f : State → Addr → State),
      (∀ s a, f s a = { s with bdc.queue := (f s a).bdc.queue }) →
      l.foldl f s = { s with bdc.queue := (l.foldl f s).bdc.queue } := fun l => by
    induction l with
    | nil => exact fun _ _ _ => rfl
    | cons a l ih =>
      intro s f hf
      exact (ih (f s a) f hf).trans (congrArg (fun v : State => { v with
        bdc.queue := (l.foldl f (f s a)).bdc.queue }) (hf s a))
  refine step _ _ _ fun s a => ?_
  split
  · exact requestRefresh_state _ s a
  · rfl

theorem requestEach_of_nonePresent (want : Profile → Option Bool) {s : State} (h : NonePresent s) :
    requestEach want s = s := by
  unfold requestEach
  refine List.foldlRecOn (motive := fun t => t = s) _ _ rfl fun t ht a _ => ?_
  subst ht
  split
  · exact if_neg (by rw [h a]; exact Bool.false_ne_true)
  · rfl

theorem shifted_decideSales (s : State) : Shifted s (decideSales s) := by
  unfold decideSales
  dsimp only
  split
  · exact ⟨rfl, rfl, fun _ => rfl, fun _ => rfl, fun _ => rfl⟩
  · unfold requestKind
    have h := requestEach_state (fun p => if p.kind = .sales then
      some ((salesReasons s).head?.isNone != s.bdc.sales.isNone) else none) { s with bdc.sales := (salesReasons s).head? }
    have hq := requestEach_of_nonePresent (fun p => if p.kind = .sales then
      some ((salesReasons s).head?.isNone != s.bdc.sales.isNone) else none)
      (s := { s with bdc.sales := (salesReasons s).head? })
    generalize requestEach _ { s with bdc.sales := (salesReasons s).head? } = t at h hq ⊢
    refine ⟨?_, ?_, fun hn => by rw [hq hn], ?_, ?_⟩
    · rw [h]
    · rw [h]
    · rw [h]; exact fun _ => rfl
    · rw [h]; exact fun _ => rfl

theorem shifted_followRailMode {s t : State} (h : Shifted s t) : Shifted s (followRailMode t) := by
  have hf : ∃ p : Plc, followRailMode t = { t with plc := p } ∧ p.panels = t.plc.panels := by
    unfold followRailMode
    dsimp only
    split
    · exact ⟨t.plc, rfl, rfl⟩
    · split <;> exact ⟨_, rfl, rfl⟩
  obtain ⟨p, hp, hpanels⟩ := hf
  rw [hp]
  exact ⟨congrArg (fun v : State => { v with plc := p }) h.state, hpanels.trans h.panels, h.queue, h.starts⟩

theorem shifted_startLowering {s : State} (l : Level) (hs : s.slc.slot = .idle) (ht : s.enm.transition = .none) :
    Shifted s (startLowering l s) := by
  have hd := shifted_decideSales { s with enm.transition := .lowering l }
  have hidle : (decideSales { s with enm.transition := .lowering l }).slc.slot = .idle := by
    rw [hd.state]
    exact hs
  unfold startLowering
  dsimp only
  rw [withdraw_of_idle hidle]
  split
  · refine ⟨hd.state, hd.panels, hd.queue, fun h => absurd ht h, fun h => ?_⟩
    have hl : (decideSales { s with enm.transition := .lowering l }).enm.transition = .lowering l := hd.starts.goesOn nofun
    rw [hl, ht] at h
    cases h
  · exact ⟨rfl, rfl, fun _ => rfl, fun h => absurd ht h, fun _ => rfl⟩

theorem shifted_startRaise {s : State} (l : Level) (ht : s.enm.transition = .none) : Shifted s (startRaise l s) := by
  refine shifted_followRailMode ⟨rfl, rfl, fun _ => rfl, fun h => absurd ht h, fun h => ?_⟩
  rw [ht] at h
  cases h

theorem Shifted.of_target {s t : State} {l : Level} (h : Shifted { s with enm.target := l } t) : Shifted s t :=
  ⟨h.state, h.panels, h.queue, h.starts.goesOn, h.starts.draw⟩

/-- The target computed again of a part with an IDLE slot. -/
theorem shifted_retarget {s : State} (hs : s.slc.slot = .idle) : Shifted s (retarget s) := by
  unfold retarget
  dsimp only
  split
  next ht =>
    split
    · exact ⟨rfl, rfl, fun _ => rfl, fun _ => rfl, fun _ => rfl⟩
    · split
      · exact (shifted_startRaise (s := { s with enm.target := computeTarget s }) _ ht).of_target
      · exact (shifted_startLowering (s := { s with enm.target := computeTarget s }) _ hs ht).of_target
  · exact ⟨rfl, rfl, fun _ => rfl, fun _ => rfl, fun _ => rfl⟩

theorem enm_decideSales (s : State) : (decideSales s).enm = s.enm := by
  unfold decideSales requestKind
  dsimp only
  split
  · rfl
  · rw [requestEach_state]

/-- The target is the one computed. -/
theorem retarget_target {s : State} (hs : s.slc.slot = .idle) : (retarget s).enm.target = computeTarget s := by
  have lowers (t : State) (l : Level) (h : t.slc.slot = .idle) : (startLowering l t).enm.target = t.enm.target := by
    have hd := shifted_decideSales { t with enm.transition := .lowering l }
    have hidle : (decideSales { t with enm.transition := .lowering l }).slc.slot = .idle := by
      rw [hd.state]
      exact h
    unfold startLowering
    dsimp only
    rw [withdraw_of_idle hidle]
    split
    · rw [enm_decideSales]
    · rfl
  unfold retarget
  dsimp only
  split
  · split
    · rfl
    · split
      · exact congrArg Enm.target (followRailMode_enm_bdc _).1
      · exact lowers { s with enm.target := computeTarget s } _ hs
  · rfl

/-- What moves leaves the computed target alone. -/
theorem Shifted.computeTarget_eq {s t : State} (h : Shifted s t) : computeTarget t = computeTarget s := by
  rw [h.state]
  rfl

/-! ### The change event of cause TABLE, and what comes before the energy settings -/

/-- What the tables, the sales and the profiles of CLEAR-RETAINED leave between `s` and `t`: the clock, the wake unit, the
host link, the host list, the credit, the slot and, but for the target and a transition that starts, the energy settings. -/
structure Eased (s t : State) : Prop where
  clock : t.clock = s.clock
  awu : t.awu = s.awu
  hlk : t.hlk = s.hlk
  host : t.bdc.host = s.bdc.host
  credit : t.bdc.credit = s.bdc.credit
  auto : s.bdc.auto = [] → t.bdc.auto = []
  slot : t.slc.slot = s.slc.slot
  enm : t.enm = { s.enm with target := t.enm.target, transition := t.enm.transition, draw := t.enm.draw }
  starts : StartsOnly s.enm t.enm

theorem Eased.trans {s t u : State} (h : Eased s t) (k : Eased t u) : Eased s u where
  clock := k.clock.trans h.clock
  awu := k.awu.trans h.awu
  hlk := k.hlk.trans h.hlk
  host := k.host.trans h.host
  credit := k.credit.trans h.credit
  auto := k.auto ∘ h.auto
  slot := k.slot.trans h.slot
  enm := k.enm.trans (congrArg (fun e : Enm => { e with
    target := u.enm.target, transition := u.enm.transition, draw := u.enm.draw }) h.enm)
  starts := h.starts.trans k.starts

theorem Shifted.eased {s t : State} (h : Shifted s t) : Eased s t := by
  have starts := h.starts
  have state := h.state
  generalize ht : t.enm.target = target at state
  refine ⟨?_, ?_, ?_, ?_, ?_, ?_, ?_, ?_, starts⟩ <;> rw [state]
  exact id

theorem eased_tableEvent (s : State) : Eased s (tableEvent s) := by
  obtain ⟨p, hp⟩ := keepMessages_eq (fun _ => true) (fun _ => false) (requestEach (wantTables (!s.bdc.auto.isEmpty)) s)
  unfold tableEvent setLamp
  dsimp only
  rw [hp, requestEach_state, List.filter_true, List.filter_false]
  exact ⟨rfl, rfl, rfl, rfl, rfl, fun _ => rfl, rfl, rfl, fun _ => rfl, fun _ => rfl⟩

/-! ### Panels that become ABSENT (R112) -/

theorem discardTransaction_state (a : Addr) (s : State) :
    discardTransaction a s = { s with plc := (discardTransaction a s).plc } ∧
      (discardTransaction a s).plc.panels = s.plc.panels := by
  unfold discardTransaction
  split
  · split
    · exact ⟨rfl, rfl⟩
    · split
      · exact ⟨rfl, rfl⟩
      · unfold endTransaction
        dsimp only
        split
        · exact ⟨rfl, rfl⟩
        · split <;> exact ⟨rfl, rfl⟩
        · exact ⟨rfl, rfl⟩
  · exact ⟨rfl, rfl⟩

/-- A PRESENT panel takes the default profile: it becomes ABSENT, its entry and its composed page gone. -/
theorem changeProfile_default_present {a : Addr} {s : State} (h : (s.bdc.profiles.get a).isPresent = true) :
    ∃ p : Plc, changeProfile a defaultProfile s = { s with
      bdc.profiles := s.bdc.profiles.set a defaultProfile
      bdc.queue := s.bdc.queue.filter fun e => !(e.panel == a)
      bdc.composed := s.bdc.composed.set a none
      plc := p } ∧ p.panels = s.plc.panels.set a absentPanel := by
  unfold changeProfile
  dsimp only
  rw [h]
  exact ⟨_, (discardTransaction_state a _).1, (discardTransaction_state a _).2⟩

theorem changeProfile_default_absent {a : Addr} {s : State} (h : (s.bdc.profiles.get a).isPresent = false) :
    changeProfile a defaultProfile s = { s with bdc.profiles := s.bdc.profiles.set a defaultProfile } := by
  unfold changeProfile
  dsimp only
  rw [h]
  rfl

/-- The panel is ABSENT, without an entry and without a composed page. -/
def Gone (a : Addr) (s : State) : Prop :=
  panelAt s a = absentPanel ∧ s.bdc.composed.get a = none ∧ ∀ e ∈ s.bdc.queue, e.panel ≠ a

theorem changeProfile_default_state (a : Addr) (s : State) : changeProfile a defaultProfile s = { s with
    bdc.profiles := s.bdc.profiles.set a defaultProfile
    bdc.queue := (changeProfile a defaultProfile s).bdc.queue
    bdc.composed := (changeProfile a defaultProfile s).bdc.composed
    plc := (changeProfile a defaultProfile s).plc } := by
  cases h : (s.bdc.profiles.get a).isPresent with
  | false => rw [changeProfile_default_absent h]
  | true =>
    obtain ⟨p, hp, -⟩ := changeProfile_default_present h
    rw [hp]

theorem gone_changeProfile_default {a : Addr} {s : State} (h : (s.bdc.profiles.get a).isPresent = true) :
    Gone a (changeProfile a defaultProfile s) := by
  obtain ⟨p, hp, hpanels⟩ := changeProfile_default_present h
  rw [hp]
  refine ⟨?_, ?_, fun e he => ?_⟩
  · show p.panels.get a = absentPanel
    rw [hpanels, Four.get_set, if_pos rfl]
  · show (s.bdc.composed.set a none).get a = none
    rw [Four.get_set, if_pos rfl]
  · simpa using (List.mem_filter.mp he).2

theorem Gone.changeProfile_default {a : Addr} {s : State} (h : Gone a s) (b : Addr) :
    Gone a (changeProfile b defaultProfile s) := by
  obtain ⟨hpanel, hcomposed, hqueue⟩ := h
  cases hb : (s.bdc.profiles.get b).isPresent with
  | false =>
    rw [changeProfile_default_absent hb]
    exact ⟨hpanel, hcomposed, hqueue⟩
  | true =>
    obtain ⟨p, hp, hpanels⟩ := changeProfile_default_present hb
    rw [hp]
    refine ⟨?_, ?_, fun e he => hqueue e (List.mem_filter.mp he).1⟩
    · show p.panels.get a = absentPanel
      rw [hpanels, Four.get_set]
      split
      · rfl
      · exact hpanel
    · show (s.bdc.composed.set b none).get a = none
      rw [Four.get_set]
      split
      · rfl
      · exact hcomposed

/-- The default profiles given to a list of panels. -/
def profilesCleared (l : List Addr) (s : State) : State := l.foldl (fun s a => changeProfile a defaultProfile s) s

theorem clearProfiles_eq (s : State) : clearProfiles s = profilesCleared allPanels s := rfl

theorem profilesCleared_state (l : List Addr) (s : State) : profilesCleared l s = { s with
    bdc.profiles := (profilesCleared l s).bdc.profiles
    bdc.queue := (profilesCleared l s).bdc.queue
    bdc.composed := (profilesCleared l s).bdc.composed
    plc := (profilesCleared l s).plc } := by
  induction l generalizing s with
  | nil => rfl
  | cons a l ih =>
    exact (ih _).trans (congrArg (fun v : State => { v with
      bdc.profiles := (profilesCleared (a :: l) s).bdc.profiles
      bdc.queue := (profilesCleared (a :: l) s).bdc.queue
      bdc.composed := (profilesCleared (a :: l) s).bdc.composed
      plc := (profilesCleared (a :: l) s).plc }) (changeProfile_default_state a s))

theorem eased_clearProfiles (s : State) : Eased s (clearProfiles s) := by
  rw [clearProfiles_eq, profilesCleared_state]
  exact ⟨rfl, rfl, rfl, rfl, rfl, id, rfl, rfl, fun _ => rfl, fun _ => rfl⟩

theorem profiles_clearProfiles (s : State) : (clearProfiles s).bdc.profiles = .all defaultProfile := by
  simp only [clearProfiles, allPanels, List.foldl_cons, List.foldl_nil]
  rw [changeProfile_default_state .p4, changeProfile_default_state .p3, changeProfile_default_state .p2,
    changeProfile_default_state .p1]
  rfl

theorem Gone.profilesCleared {a : Addr} {s : State} (h : Gone a s) (l : List Addr) : Gone a (profilesCleared l s) :=
  List.foldlRecOn (motive := Gone a) l _ h fun _ ht b _ => ht.changeProfile_default b

theorem gone_profilesCleared {a : Addr} {l : List Addr} (hl : a ∈ l) {s : State}
    (h : (s.bdc.profiles.get a).isPresent = true) : Gone a (profilesCleared l s) := by
  induction l generalizing s with
  | nil => cases hl
  | cons b l ih =>
    by_cases hb : a = b
    · subst hb
      exact (gone_changeProfile_default h).profilesCleared l
    · refine ih ((List.mem_cons.mp hl).resolve_left hb) ?_
      show ((changeProfile b defaultProfile s).bdc.profiles.get a).isPresent = true
      rw [changeProfile_default_state]
      show ((s.bdc.profiles.set b defaultProfile).get a).isPresent = true
      rwa [Four.get_set, if_neg hb]

theorem gone_clearProfiles {a : Addr} {s : State} (h : (s.bdc.profiles.get a).isPresent = true) :
    Gone a (clearProfiles s) := gone_profilesCleared (by cases a <;> decide) h

end Sys2Proof.Machine
end

section
/-! SUPPORT. What CLEAR-RETAINED makes of the energy settings and of the notice configuration (R163, R175, R181, R184). -/

namespace Sys2Proof.Machine

/-! ### The energy settings (R149, R163) -/

theorem rotates_of_nonePresent {s : State} (h : NonePresent s) : rotates s = false := by
  have hany : (allPanels.any fun a => (s.bdc.profiles.get a).isPresent && (s.bdc.profiles.get a).kind == .messages) = false :=
    List.any_eq_false.mpr fun a _ => by simp [h a]
  rw [rotates, hany, Bool.and_false]

/-- The default energy settings with the ceiling they give, EL1, and what a change to it does to the demand. -/
def ceilingCleared (s : State) : State := { defaultEnergy s with
  enm.effective := .el1
  awu.demand := if s.enm.effective = .el1 then s.awu.demand else .el1
  awu.timer := if s.enm.effective = .el1 ∨ s.awu.timer = .held then s.awu.timer else .running 300000 }

theorem followCeiling_default (s : State) : followCeiling (defaultEnergy s) = ceilingCleared s := by
  have hceiling : ceilingNow (defaultEnergy s) = .el1 := rfl
  have hfresh : freshDemandTimer { defaultEnergy s with enm.effective := .el1, awu.demand := .el1 } = .running 300000 := rfl
  unfold followCeiling ceilingCleared
  dsimp only
  rw [hceiling]
  by_cases he : s.enm.effective = .el1
  · rw [if_pos (show Level.el1 = (defaultEnergy s).enm.effective from he.symm), if_pos he, if_pos (.inl he), ← he]
    rfl
  · rw [if_neg (show Level.el1 ≠ (defaultEnergy s).enm.effective from fun h => he h.symm), if_neg he, restartDemandTimer]
    by_cases ht : s.awu.timer = .held
    · rw [if_pos (show (defaultEnergy s).awu.timer = .held from ht), if_pos (.inr ht)]
      rfl
    · rw [if_neg (show (defaultEnergy s).awu.timer ≠ .held from ht), if_neg (not_or.mpr ⟨he, ht⟩), hfresh]

/-- The energy settings cleared, the present level's default load settings taken, and the notice of a limit that goes
raised, before the target is computed. -/
def energyCleared (s : State) : State := { ceilingCleared s with
  enm.quietLimit := none
  bdc.credit := min s.bdc.credit (defaultLevelTable.get s.enm.present).depth
  bdc.accrual := accrualPeriod (defaultLevelTable.get s.enm.present).rate
  bdc.rotation := none
  bdc.lamp := (defaultLevelTable.get s.enm.present).lamp
  hlk.notices := raisedIf (s.enm.hostLimit.isSome || s.enm.quietLimit.isSome) 11 s.hlk.notices }

/-- A window that begins and ends with one minute holds none. -/
theorem quietNow_ceilingCleared (s : State) : quietNow (ceilingCleared s) = none := by
  unfold quietNow
  split
  · rfl
  · rfl

theorem clearEnergy_eq {s : State} (ht : s.tts.current = none) (hn : NonePresent s) :
    clearEnergy s = retarget (energyCleared s) := by
  unfold clearEnergy
  dsimp only
  rw [followCeiling_default, quietNow_ceilingCleared,
    takeLoadSettings_lit (t := { ceilingCleared s with enm.quietLimit := none }) (.inr (.inr ht)) (rotates_of_nonePresent hn)]
  refine congrArg retarget ?_
  cases hh : s.enm.hostLimit with
  | none =>
    cases hq : s.enm.quietLimit with
    | none =>
      rw [if_pos ⟨rfl, rfl⟩, energyCleared, hh, hq]
      rfl
    | some q =>
      rw [if_neg nofun, energyCleared, hh, hq]
      rfl
  | some l =>
    rw [if_neg nofun, energyCleared, hh]
    rfl

/-! ### The notice configuration (R184) -/

/-- The notices after the configuration is cleared. -/
def configCleared (l : List Notice) : List Notice :=
  List.zipWith (fun n d => { n with enable := d.enable, priority := d.priority }) l defaultNotices

theorem config_configCleared {l : List Notice} (hl : l.length = sourceCount) : (configCleared l).map Notice.config =
    List.replicate 5 (true, .high) ++ List.replicate 11 (true, .low) := by
  have hd : defaultNotices.map Notice.config = List.replicate 5 (true, .high) ++ List.replicate 11 (true, .low) := by decide
  have hlen : defaultNotices.length = 16 := rfl
  rw [← hd]
  refine List.ext_getElem ?_ fun i _ _ => ?_
  · simp only [configCleared, List.length_map, List.length_zipWith, hl, hlen, sourceCount, Nat.min_self]
  · simp only [configCleared, List.getElem_map, List.getElem_zipWith, Notice.config]

/-- The flags stay. -/
theorem pending_configCleared {l : List Notice} (hl : l.length = sourceCount) (n : Nat) :
    (noticeIn (configCleared l) n).pending = (noticeIn l n).pending := by
  have hl : l.length = 16 := hl
  have hlen : defaultNotices.length = 16 := rfl
  unfold noticeIn configCleared
  by_cases hn : n < 16
  · rw [List.getD_eq_getElem _ _ (by rwa [List.length_zipWith, hl, hlen]), List.getD_eq_getElem _ _ (by rwa [hl]),
      List.getElem_zipWith]
  · rw [List.getD_eq_default _ _ (by rw [List.length_zipWith, hl, hlen]; exact Nat.le_of_not_lt hn),
      List.getD_eq_default _ _ (by rw [hl]; exact Nat.le_of_not_lt hn)]

end Sys2Proof.Machine
end

section
/-! SUPPORT. CLEAR-RETAINED: what stands before the energy settings are cleared, and the state after all (R31, R93, R109,
R112, R163, R175, R181). -/

namespace Sys2Proof.Machine

/-! ### Before the energy settings -/

/-- The sale settings, the tariffs and the journal's settings at their defaults. -/
def salesCleared (s : State) : State := { s with
  tfe := ⟨none, none⟩
  slc.kinds := ⟨true, true, true⟩
  slc.types := ⟨true, true, true, true⟩
  slc.hostClosed := false
  slc.lastReason := none
  sjn := { s.sjn with
    next := 1, released := 0, lifetime := ⟨0, 0, 0⟩, handedBack := ⟨0, 0, 0⟩, low := 64, lowArmed := true
    fullArmed := true } }

theorem clearSales_eq (s : State) : clearSales s = decideSales (salesCleared s) := rfl

/-- The state when the energy settings come. -/
def boardsCleared (s : State) : State := clearProfiles (clearSales (clearTables s))

/-- What the clearing of the energy settings finds. -/
structure StoresCleared (s t : State) : Prop extends Eased s t where
  tts : t.tts = ⟨none, none, 5, 4, 2⟩
  tfe : t.tfe = ⟨none, none⟩
  slc : t.slc = ⟨s.slc.slot, ⟨true, true, true⟩, ⟨true, true, true, true⟩, false, none⟩
  sjn : t.sjn = ⟨s.sjn.records, s.sjn.reserved, 1, 0, ⟨0, 0, 0⟩, ⟨0, 0, 0⟩, 64, true, true⟩
  profiles : t.bdc.profiles = .all defaultProfile
  noAuto : t.bdc.auto = []
  gone : ∀ a, (s.bdc.profiles.get a).isPresent = true → Gone a t

theorem eased_clearTables {s : State} (hs : s.slc.slot = .idle) : Eased s (clearTables s) := by
  have hw : Eased s { s with tts := ⟨none, none, 5, 4, 2⟩ } :=
    ⟨rfl, rfl, rfl, rfl, rfl, id, rfl, rfl, fun _ => rfl, fun _ => rfl⟩
  have hr := (shifted_retarget (s := { s with tts := ⟨none, none, 5, 4, 2⟩ }) hs).eased
  exact (hw.trans hr).trans (eased_tableEvent _)

theorem eased_clearSales (s : State) : Eased s (clearSales s) := by
  have hw : Eased s (salesCleared s) := ⟨rfl, rfl, rfl, rfl, rfl, id, rfl, rfl, fun _ => rfl, fun _ => rfl⟩
  exact hw.trans (shifted_decideSales _).eased

theorem profiles_clearTables (s : State) : (clearTables s).bdc.profiles = s.bdc.profiles :=
  (tableEvent_profiles _).trans (reacted_retarget _).profiles

theorem profiles_clearSales (s : State) : (clearSales s).bdc.profiles = s.bdc.profiles := (reacted_decideSales _).profiles

theorem storesCleared_boardsCleared {s : State} (hs : s.slc.slot = .idle) : StoresCleared s (boardsCleared s) := by
  have hkept := kept_placeCurrent none { s with tts := ⟨none, none, 5, 4, 2⟩ }
  have htables := eased_clearTables hs
  have hauto : (clearTables s).bdc.auto = [] := (tableEvent_lists _).2
  have hsales : clearSales (clearTables s) = _ := (shifted_decideSales (salesCleared (clearTables s))).state
  have hboards : boardsCleared s = _ := profilesCleared_state allPanels (clearSales (clearTables s))
  have hrest := (eased_clearSales (clearTables s)).trans (eased_clearProfiles _)
  have htts : (clearTables s).tts = ⟨none, none, 5, 4, 2⟩ := hkept.tts
  have hsjn : (clearTables s).sjn = s.sjn := hkept.sjn
  refine ⟨htables.trans hrest, ?_, ?_, ?_, ?_, profiles_clearProfiles _, hrest.auto hauto, fun a ha => ?_⟩
  · rw [hboards, hsales]
    exact htts
  · rw [hboards, hsales]
    rfl
  · rw [hboards, hsales, ← htables.slot]
    rfl
  · rw [hboards, hsales, ← hsjn]
    rfl
  · exact gone_clearProfiles (by rwa [profiles_clearSales, profiles_clearTables])

/-! ### The state after all -/

theorem clearAll_eq (s : State) : clearAll s = clearNotices (clearWakes (clearEnergy (boardsCleared s))) := rfl

/-- The settings of the host link and of the wake unit at their defaults. -/
def linkCleared (s : State) : State := { s with
  awu.config := defaultWakeConfig, awu.lock := none
  hlk.notices := configCleared s.hlk.notices, hlk.doorSense := .edge }

theorem clearNotices_clearWakes (s : State) : clearNotices (clearWakes s) = linkCleared s := rfl

theorem StoresCleared.nonePresent {s t : State} (h : StoresCleared s t) : NonePresent t := fun a => by
  rw [h.profiles, Four.get_all]
  rfl

/-- All that CLEAR-RETAINED leaves, but for the target, with a transition that starts, the sales event and the rail. -/
theorem clearAll_shifted {s : State} (hs : s.slc.slot = .idle) : ∃ v t, StoresCleared s v ∧
    clearAll s = linkCleared t ∧ Shifted (energyCleared v) t ∧ t.enm.target = computeTarget t := by
  have h := storesCleared_boardsCleared hs
  have hslot : (energyCleared (boardsCleared s)).slc.slot = .idle := h.slot.trans hs
  have hshifted := shifted_retarget hslot
  refine ⟨boardsCleared s, retarget (energyCleared (boardsCleared s)), h, ?_, hshifted, ?_⟩
  · rw [clearAll_eq, clearNotices_clearWakes, clearEnergy_eq (by rw [h.tts]) h.nonePresent]
  · rw [retarget_target hslot, hshifted.computeTarget_eq]

section
variable {w : State} (hs : w.slc.slot = .idle)
include hs

theorem clearAll_stores : (clearAll w).clock = w.clock ∧ (clearAll w).tts = ⟨none, none, 5, 4, 2⟩ ∧
    (clearAll w).tfe = ⟨none, none⟩ ∧
    (clearAll w).slc = ⟨.idle, ⟨true, true, true⟩, ⟨true, true, true, true⟩, false, none⟩ ∧
    (clearAll w).sjn = ⟨w.sjn.records, w.sjn.reserved, 1, 0, ⟨0, 0, 0⟩, ⟨0, 0, 0⟩, 64, true, true⟩ := by
  obtain ⟨v, t, h, hall, ht, -⟩ := clearAll_shifted hs
  rw [hall, ht.state]
  exact ⟨h.clock, h.tts, h.tfe, h.slc.trans (by rw [hs]), h.sjn⟩

/-- The boards with the default load settings of the present level. -/
theorem clearAll_bdc : (clearAll w).bdc = { (clearAll w).bdc with
    profiles := .all defaultProfile
    host := w.bdc.host
    auto := []
    credit := min w.bdc.credit (defaultLevelTable.get w.enm.present).depth
    accrual := accrualPeriod (defaultLevelTable.get w.enm.present).rate
    rotation := none
    lamp := (defaultLevelTable.get w.enm.present).lamp } := by
  obtain ⟨v, t, h, hall, ht, -⟩ := clearAll_shifted hs
  have hpresent : v.enm.present = w.enm.present := by rw [h.enm]
  rw [hall, ht.state, ← h.profiles, ← h.host, ← h.credit, ← h.noAuto, ← hpresent]
  rfl

theorem clearAll_gone {a : Addr} (ha : (w.bdc.profiles.get a).isPresent = true) : Gone a (clearAll w) := by
  obtain ⟨v, t, h, hall, ht, -⟩ := clearAll_shifted hs
  obtain ⟨hpanel, hcomposed, hqueue⟩ := h.gone a ha
  have hkept : t.bdc.queue = v.bdc.queue := ht.queue h.nonePresent
  rw [hall]
  refine ⟨?_, ?_, ?_⟩
  · show t.plc.panels.get a = absentPanel
    rw [ht.panels]
    exact hpanel
  · show t.bdc.composed.get a = none
    rw [ht.state]
    exact hcomposed
  · show ∀ e ∈ t.bdc.queue, e.panel ≠ a
    rwa [hkept]

theorem clearAll_enm : (clearAll w).enm = { w.enm with
    table := defaultLevelTable, capacity := 5000, ceiling := .el1, effective := .el1, hostLimit := none, quietLimit := none
    quietStart := 0, quietEnd := 0, raiseSettle := 200, dormantSettle := 800
    target := (clearAll w).enm.target, transition := (clearAll w).enm.transition, draw := (clearAll w).enm.draw } := by
  obtain ⟨v, t, h, hall, ht, -⟩ := clearAll_shifted hs
  rw [hall, ht.state]
  exact congrArg (fun e : Enm => { e with
    table := defaultLevelTable, capacity := 5000, ceiling := .el1, effective := .el1, hostLimit := none, quietLimit := none
    quietStart := 0, quietEnd := 0, raiseSettle := 200, dormantSettle := 800
    target := t.enm.target, transition := t.enm.transition, draw := t.enm.draw }) h.enm

theorem clearAll_target : (clearAll w).enm.target = computeTarget (clearAll w) := by
  obtain ⟨-, t, -, hall, -, htarget⟩ := clearAll_shifted hs
  rw [hall]
  exact htarget

theorem clearAll_starts : StartsOnly w.enm (clearAll w).enm := by
  obtain ⟨v, t, h, hall, ht, -⟩ := clearAll_shifted hs
  have hx : StartsOnly v.enm (energyCleared v).enm := ⟨fun _ => rfl, fun _ => rfl⟩
  rw [hall]
  exact (h.starts.trans hx).trans ht.starts

theorem clearAll_awu : (clearAll w).awu = { w.awu with
    demand := if w.enm.effective = .el1 then w.awu.demand else .el1
    timer := if w.enm.effective = .el1 ∨ w.awu.timer = .held then w.awu.timer else .running 300000
    config := defaultWakeConfig
    lock := none } := by
  obtain ⟨v, t, h, hall, ht, -⟩ := clearAll_shifted hs
  have heffective : v.enm.effective = w.enm.effective := by rw [h.enm]
  rw [hall, ht.state, ← h.awu, ← heffective]
  rfl

theorem clearAll_hlk : (clearAll w).hlk = { w.hlk with
    notices := configCleared (raisedIf (w.enm.hostLimit.isSome || w.enm.quietLimit.isSome) 11 w.hlk.notices)
    doorSense := .edge } := by
  obtain ⟨v, t, h, hall, ht, -⟩ := clearAll_shifted hs
  have hhost : v.enm.hostLimit = w.enm.hostLimit := by rw [h.enm]
  have hquiet : v.enm.quietLimit = w.enm.quietLimit := by rw [h.enm]
  rw [hall, ht.state, ← h.hlk, ← hhost, ← hquiet]
  rfl

end

/-! ### The request -/

theorem slot_of_slotState {slot : Slot} (h : slotState slot = .idle) : slot = .idle := by
  cases slot with
  | idle => rfl
  | quoted => cases h
  | printing => cases h

theorem clearRetainedRule_busy {s : State}
    (h : s.sjn.records ≠ [] ∨ s.sjn.reserved = true ∨ slotState s.slc.slot ≠ .idle) : clearRetainedRule s =
      (s, ⟨.busy, .none, .clearBusy s.sjn.records.length s.sjn.reserved (slotState s.slc.slot)⟩) := by
  refine if_neg fun hall => ?_
  simp only [Bool.and_eq_true, List.isEmpty_iff, Bool.not_eq_true', beq_iff_eq] at hall
  obtain ⟨⟨hrecords, hreserved⟩, hslot⟩ := hall
  obtain hne | hne | hne := h
  · exact hne hrecords
  · rw [hreserved] at hne
    cases hne
  · exact hne hslot

theorem clearRetainedRule_clears {s : State} (hr : s.sjn.records = []) (hv : s.sjn.reserved = false)
    (hs : slotState s.slc.slot = .idle) : clearRetainedRule s = (clearAll s, done .nothing) :=
  if_pos (by rw [hr, hv, hs]; rfl)

/-- Settles O11: the tables, the sales and the profiles leave the energy settings but the target, which is computed last, of
a part without a PRESENT panel. -/
theorem clearRetainedClears : Obligations.ClearRetainedClears := by
  intro s hl
  refine ⟨fun h => does_of_rule hl rfl rfl rfl (clearRetainedRule_busy h), fun hr hv hs hlen => ?_⟩
  refine ⟨does_of_rule hl rfl rfl rfl (clearRetainedRule_clears hr hv hs), ?_⟩
  have hlen : (atOwner s).hlk.notices.length = sourceCount := by rwa [atOwner_notices_length]
  generalize atOwner s = w at hr hv hs hlen ⊢
  have hslot := slot_of_slotState hs
  obtain ⟨hclock, htts, htfe, hslc, hsjn⟩ := clearAll_stores hslot
  have hbdc := clearAll_bdc hslot
  have henm := clearAll_enm hslot
  have hawu := clearAll_awu hslot
  have hhlk := clearAll_hlk hslot
  have hpending (n : Nat) : (noticeAt (clearAll w) n).pending = true ↔
      ((w.enm.hostLimit.isSome || w.enm.quietLimit.isSome) = true ∧ n = 11) ∨ (noticeAt w n).pending = true := by
    rw [noticeAt_eq, hhlk]
    refine Bool.eq_iff_iff.mp (pending_configCleared (by rwa [length_raisedIf]) n) |>.trans ?_
    exact pending_raisedIf (by rw [hlen]; decide)
  refine ⟨htts, htfe, congrArg Slc.kinds hslc, congrArg Slc.types hslc, congrArg Slc.hostClosed hslc,
    congrArg Slc.lastReason hslc, by rw [hsjn, hr, hv], by rw [hbdc], by rw [hbdc],
    by rw [hbdc], fun a ha => clearAll_gone hslot ha,
    ⟨by rw [hbdc], by rw [hbdc], by rw [hbdc], by rw [hbdc]; rfl⟩,
    by rw [henm], by rw [henm], by rw [henm], by rw [henm],
    by rw [henm], by rw [henm], by rw [henm], by rw [henm],
    by rw [henm], by rw [henm], by rw [henm], by rw [henm],
    by rw [henm], by rw [henm], clearAll_target hslot, (clearAll_starts hslot).draw,
    fun he => ?_, fun he => ?_, congrArg Awu.config hawu, congrArg Awu.lock hawu, congrArg Hlk.doorSense hhlk, ?_,
    fun n hn => ?_, ?_, hclock⟩
  · rw [hawu]
    exact ⟨if_pos he, if_pos (.inl he)⟩
  · rw [hawu]
    exact ⟨if_neg he, fun ht => if_neg (not_or.mpr ⟨he, ht⟩), fun ht => (if_pos (.inr ht)).trans ht⟩
  · rw [hhlk]
    exact config_configCleared (by rwa [length_raisedIf])
  · rw [Bool.eq_iff_iff, hpending]
    exact or_iff_right fun h => hn h.2
  · rw [Bool.eq_iff_iff, hpending]
    simp only [and_true, Bool.or_eq_true]
    exact or_comm.trans or_assoc.symm

end Sys2Proof.Machine
end

section
/-! SUPPORT. Running messages: what each kind and the evaluation do to a service, the ranges of their fields, and the rule by the
case of the state that a message meets (R33 to R43). -/

namespace Sys2Proof.Machine

/-! ### Each kind of message (R36 to R40) -/

section
variable {arg : Int} {grace win now : Nat} {v : Service}

theorem applyKind_delay_running (h : v.status.isRunning = true) : applyKind .delay arg grace now v =
    { v with delay := delayOf arg, status := runningStatus (delayOf arg) } := by
  unfold applyKind
  split <;> simp_all [Status.isRunning]

theorem applyKind_delay_lapsed (h : v.status = .lapsed) : applyKind .delay arg grace now v =
    if now < v.plan.minute + delayOf arg + grace then { v with delay := delayOf arg, status := runningStatus (delayOf arg) }
    else { v with delay := delayOf arg } := by
  simp only [applyKind, h]

theorem applyKind_delay_cancelled (h : v.status = .cancelled) :
    applyKind .delay arg grace now v = { v with delay := delayOf arg } := by
  simp only [applyKind, h]

theorem applyKind_cancel_cancelled (h : v.status = .cancelled) : applyKind .cancel arg grace now v = v := by
  simp only [applyKind, h]

theorem applyKind_cancel (h : v.status ≠ .cancelled) :
    applyKind .cancel arg grace now v = { v with status := .cancelled, approach := false } := by
  unfold applyKind
  split <;> simp_all

theorem applyKind_reinstate_cancelled (h : v.status = .cancelled) :
    applyKind .reinstate arg grace now v = { v with status := runningStatus v.delay } := by
  simp only [applyKind, h]

theorem applyKind_reinstate (h : v.status ≠ .cancelled) : applyKind .reinstate arg grace now v = v := by
  unfold applyKind
  split <;> simp_all

theorem applyKind_platform : applyKind .platform arg grace now v =
    { v with platform := arg.toNat, altered := decide (arg.toNat ≠ v.plan.platform) } := by
  simp only [applyKind, decide_not, bne, beq_eq_decide]

/-! ### The evaluation (R42, R43) -/

theorem evaluateService_stopped (h : v.status.isRunning = false) : evaluateService grace win now v = v := by
  rw [evaluateService, h]
  rfl

theorem evaluateService_lapses (h : v.status.isRunning = true) (he : expectedMinute v + grace ≤ now) :
    evaluateService grace win now v = { v with status := .lapsed, approach := false } := by
  rw [evaluateService, if_pos h, if_pos he]

theorem evaluateService_runs (h : v.status.isRunning = true) (he : now < expectedMinute v + grace) :
    evaluateService grace win now v =
      { v with approach := v.approach || decide (expectedMinute v ≤ now + win) } := by
  rw [evaluateService, if_pos h, if_neg (by omega)]
  split
  next hw => simp [hw]
  next hw => simp [hw]

end

/-- Settles O26: each kind by the status that it meets, then the evaluation by whether the service runs and has lapsed. -/
theorem messageKindsApply : Obligations.MessageKindsApply := by
  intro arg grace win now v
  refine ⟨applyKind_delay_running, applyKind_delay_lapsed, fun h => ⟨applyKind_delay_cancelled h,
    applyKind_cancel_cancelled h, applyKind_reinstate_cancelled h⟩, fun h => ⟨applyKind_cancel h, applyKind_reinstate h⟩,
    applyKind_platform, rfl, evaluateService_stopped, evaluateService_lapses, evaluateService_runs⟩

/-! ### The fields of a message (R34) -/

theorem runningInRange_iff (number stamp : Nat) (k : RunKind) (arg : Int) :
    runningInRange number stamp (.named k) arg = true ↔ 1 ≤ number ∧ number ≤ 9999 ∧ stamp ≤ 97199 ∧
      (k = .delay → -60 ≤ arg ∧ arg ≤ 999) ∧ (k = .platform → 1 ≤ arg ∧ arg ≤ 3) := by
  cases k <;> simp [runningInRange, within, and_assoc]

/-! ### The rule, case by case (R34, R35, R41) -/

theorem nowMinute_set {s : State} {c : ClockSetting} (h : s.clock = some c) : nowMinute s = some (c.tod / 60) := by
  rw [nowMinute, h]
  rfl

section
variable {number stamp : Nat} {k : RunKind} {arg : Int} {s : State}

theorem runningRule_range (h : runningInRange number stamp (.named k) arg = false) :
    runningRule number stamp (.named k) arg s = (s, refuse .range .field) := by
  simp only [runningRule, h, Bool.not_false, if_true]

variable (hr : runningInRange number stamp (.named k) arg = true)
include hr

theorem runningRule_unset (hc : s.clock = none) :
    runningRule number stamp (.named k) arg s = (s, refuse .notReady .none) := by
  simp only [runningRule, hr, nowMinute, hc, Option.map_none, Bool.not_true, Bool.false_eq_true, if_false]

variable {c : ClockSetting} (hc : s.clock = some c)
include hc

theorem runningRule_unknown (hv : currentService s number = none) :
    runningRule number stamp (.named k) arg s = (s, refuse .unknown .none) := by
  simp only [runningRule, hr, nowMinute_set hc, hv, Bool.not_true, Bool.false_eq_true, if_false]

/-- With the service found, a message is judged by its status and then by its stamp. -/
theorem runningRule_judged {v : Service} (hv : currentService s number = some v) :
    runningRule number stamp (.named k) arg s =
      if v.status = .departed then (s, runningAnswer .final k arg v)
      else if v.stamp.any fun old => decide (stamp < old) then (s, runningAnswer .stale k arg v)
      else
        let x := messageResult k arg stamp (c.tod / 60) s v
        (handOn [(v, x)] (replaceService x s), runningAnswer .applied k arg x) := by
  simp only [runningRule, hr, nowMinute_set hc, hv, Bool.not_true, Bool.false_eq_true, if_false]

end

theorem messageResult_atOwner (k : RunKind) (arg : Int) (stamp now : Nat) (s : State) (v : Service) :
    messageResult k arg stamp now (atOwner s) v = messageResult k arg stamp now s v := by
  simp [messageResult]

theorem messageResult_plan (k : RunKind) (arg : Int) (stamp now : Nat) (s : State) (v : Service) :
    (messageResult k arg stamp now s v).plan = v.plan := by
  rw [messageResult, evaluateService_plan]
  exact applyKind_plan k arg s.tts.grace now v

/-- The service found has the number asked for. -/
theorem currentService_number {s : State} {number : Nat} {v : Service} (h : currentService s number = some v) :
    v.plan.number = number := by
  obtain ⟨t, -, hv⟩ := Option.bind_eq_some_iff.mp h
  simpa using List.find?_some hv

/-- The current table of a request's state with the service of a number replaced. -/
theorem replaceService_atOwner {x : Service} {number : Nat} (h : x.plan.number = number) (s : State) :
    replaceService x (atOwner s) = { atOwner s with tts.current := s.tts.current.map fun t =>
      ({ t with services := t.services.map fun y => if y.plan.number = number then x else y } : CurrentTable) } := by
  have hcurrent : (atOwner s).tts.current = s.tts.current := congrArg Tts.current (atOwner_tts s)
  rw [replaceService, hcurrent, h]

/-- No stamp of a service is above a message's. -/
theorem stampAbove_eq_false {stamp : Nat} {o : Option Nat} (h : ∀ old, o = some old → old ≤ stamp) :
    (o.any fun old => decide (stamp < old)) = false := by
  cases o with
  | none => rfl
  | some old => exact decide_eq_false (Nat.not_lt.mpr (h old rfl))

/-- A message that is applied: the service as it leaves it in the place of the old one, and what that hands on. -/
theorem does_running_applied {number stamp : Nat} {k : RunKind} {arg : Int} {s : State} {c : ClockSetting} {v x : Service}
    (hl : Listens s) (hr : runningInRange number stamp (.named k) arg = true) (hc : s.clock = some c)
    (hv : currentService s number = some v) (hd : v.status ≠ .departed) (ho : ∀ old, v.stamp = some old → old ≤ stamp)
    (hx : messageResult k arg stamp (c.tod / 60) s v = x) :
    Does (.running number stamp (.named k) arg) s 0xA7#8 (runningAnswer .applied k arg x)
      (handOn [(v, x)] (replaceService x (atOwner s))) := by
  have hrule := runningRule_judged (stamp := stamp) hr (s := atOwner s) (by rwa [atOwner_clock])
    (by rwa [currentService_atOwner])
  rw [if_neg hd, stampAbove_eq_false ho, if_neg Bool.false_ne_true, messageResult_atOwner, hx] at hrule
  exact does_of_rule hl rfl rfl rfl hrule

/-- Settles O25: the checks in their order, and of the part only what an applied message hands on, which leaves clock,
tables and tariffs alone. -/
theorem runningMessagesJudged : Obligations.RunningMessagesJudged := by
  intro number stamp k arg s hl
  refine ⟨runningInRange_iff number stamp k arg, fun hr => does_of_rule hl rfl rfl rfl (runningRule_range hr),
    fun hr => ⟨fun hc => ?_, fun c hc => ⟨fun hv => ?_, fun v hv => ?_⟩⟩⟩
  · exact does_of_rule hl rfl rfl rfl (runningRule_unset hr (by rwa [atOwner_clock]))
  · exact does_of_rule hl rfl rfl rfl
      (runningRule_unknown hr (by rwa [atOwner_clock]) (by rwa [currentService_atOwner]))
  · have hrule := runningRule_judged (stamp := stamp) hr (s := atOwner s) (by rwa [atOwner_clock])
      (by rwa [currentService_atOwner])
    refine ⟨fun hd => ?_, fun hd ⟨old, ho, hlt⟩ => ?_, fun hd ho => ?_⟩
    · exact does_of_rule hl rfl rfl rfl (by rw [hrule, if_pos hd])
    · exact does_of_rule hl rfl rfl rfl (by rw [hrule, if_neg hd, ho, Option.any_some, decide_eq_true hlt, if_pos rfl])
    · intro x
      have hx : messageResult k arg stamp (c.tod / 60) s v = x := rfl
      have hnumber : x.plan.number = number := by rw [← hx, messageResult_plan, currentService_number hv]
      have hk := kept_handOn [(v, x)] (replaceService x (atOwner s))
      refine ⟨_, does_running_applied hl hr hc hv hd ho hx, ?_, hk.clock.trans (atOwner_clock s),
        hk.tfe.trans (atOwner_tfe s), hk.sjn.trans (atOwner_sjn s)⟩
      rw [hk.tts, replaceService_atOwner hnumber]
      simp only [atOwner_tts]

end Sys2Proof.Machine
end

section
/-! SUPPORT. What requests leave in the refresh queue: the queue after them as a fold of its own, the urgent entries that stay
urgent, and the entries of a panel that no request names (R120, R121). -/

namespace Sys2Proof.Machine

/-! ### The queue after the requests of an event -/

/-- The class of refresh that an event asks of a panel; none for an ABSENT one (R120). -/
def requested (want : Profile → Option Bool) (profiles : Four Profile) (a : Addr) : Option Bool :=
  if (profiles.get a).isPresent then want (profiles.get a) else none

/-- The queue after the request of a class for a panel, if there is one. -/
def enqueueOf (q : List QueueEntry) (a : Addr) (asked : Option Bool) : List QueueEntry :=
  asked.elim q fun urgent => enqueue a urgent q

/-- Operations that each leave the profiles alone and do the same to the queue do the same one after another. -/
theorem foldl_queue {f : State → Addr → State} {g : List QueueEntry → Addr → List QueueEntry} {p : Four Profile}
    (hf : ∀ s a, s.bdc.profiles = p → (f s a).bdc.profiles = p ∧ (f s a).bdc.queue = g s.bdc.queue a) (l : List Addr)
    (s : State) (hs : s.bdc.profiles = p) : (l.foldl f s).bdc.queue = l.foldl g s.bdc.queue := by
  induction l generalizing s with
  | nil => rfl
  | cons a l ih =>
    obtain ⟨hp, hq⟩ := hf s a hs
    rw [List.foldl_cons, List.foldl_cons, ih _ hp, hq]

/-- One event's requests fill the queue panel by panel (R120, R121). -/
theorem requestEach_queue (want : Profile → Option Bool) (s : State) : (requestEach want s).bdc.queue =
    allPanels.foldl (fun q a => enqueueOf q a (requested want s.bdc.profiles a)) s.bdc.queue := by
  unfold requestEach
  refine foldl_queue (p := s.bdc.profiles) (fun t a ht => ?_) _ s rfl
  rw [← ht]
  split
  next urgent hw =>
    unfold requestRefresh requested
    split
    next hp => exact ⟨rfl, by rw [hw]; rfl⟩
    next hp => exact ⟨rfl, rfl⟩
  next hw =>
    unfold requested
    rw [hw, ite_self]
    exact ⟨rfl, rfl⟩

/-! ### Urgent entries -/

/-- The panels with an urgent entry. -/
def urgentPanels (q : List QueueEntry) : List Addr := (q.filter (·.urgent)).map (·.panel)

theorem mem_urgentPanels {q : List QueueEntry} {a : Addr} :
    a ∈ urgentPanels q ↔ ∃ e ∈ q, e.panel = a ∧ e.urgent = true := by
  simp only [urgentPanels, List.mem_map, List.mem_filter]
  exact ⟨fun ⟨e, ⟨he, hu⟩, ha⟩ => ⟨e, he, ha, hu⟩, fun ⟨e, he, ha, hu⟩ => ⟨e, ⟨he, hu⟩, ha⟩⟩

/-- An urgent request makes its panel's entry urgent, and no request makes one ordinary (R120). -/
theorem mem_urgentPanels_enqueue (a b : Addr) (urgent : Bool) (q : List QueueEntry) :
    b ∈ urgentPanels (enqueue a urgent q) ↔ (urgent = true ∧ b = a) ∨ b ∈ urgentPanels q := by
  have hordinary (p : QueueEntry → Bool) : (q.filter fun x => !x.urgent && p x).filter (·.urgent) = [] := by
    simp only [List.filter_filter, List.filter_eq_nil_iff]
    intro e _
    cases e.urgent <;> simp
  have hnone := hordinary fun _ => true
  simp only [Bool.and_true] at hnone
  unfold enqueue
  split
  · cases urgent <;> simp [urgentPanels, hnone, or_comm]
  next e he =>
    have ha : e.panel = a := by simpa using List.find?_some he
    split
    next hu =>
      simp [urgentPanels, hordinary, (Bool.and_eq_true_iff.mp hu).1, or_comm]
    next hu =>
      refine ⟨.inr, fun h => h.elim (fun ⟨hurgent, hb⟩ => ?_) id⟩
      have heu : e.urgent = true := by simpa [hurgent] using hu
      exact mem_urgentPanels.mpr ⟨e, List.mem_of_find?_eq_some he, ha.trans hb.symm, heu⟩

theorem mem_urgentPanels_enqueueOf (a b : Addr) (asked : Option Bool) (q : List QueueEntry) :
    b ∈ urgentPanels (enqueueOf q a asked) ↔ (b = a ∧ asked = some true) ∨ b ∈ urgentPanels q := by
  cases asked with
  | none => simp [enqueueOf]
  | some urgent => simp [enqueueOf, mem_urgentPanels_enqueue, and_comm]

/-- After the requests of an event the panels with an urgent entry are those of its urgent requests and those before. -/
theorem mem_urgentPanels_foldl (c : Addr → Option Bool) (b : Addr) (l : List Addr) (q : List QueueEntry) :
    b ∈ urgentPanels (l.foldl (fun q a => enqueueOf q a (c a)) q) ↔ (b ∈ l ∧ c b = some true) ∨ b ∈ urgentPanels q := by
  induction l generalizing q with
  | nil => simp
  | cons a l ih =>
    rw [List.foldl_cons, ih, mem_urgentPanels_enqueueOf, List.mem_cons]
    grind

/-- A PRESENT panel of which an event asks a refresh has an entry after it, an urgent one where it asks an urgent one. -/
theorem entry_requestEach {want : Profile → Option Bool} {s : State} {a : Addr} {urgent : Bool}
    (hp : (s.bdc.profiles.get a).isPresent = true) (hw : want (s.bdc.profiles.get a) = some urgent) :
    ∃ e ∈ (requestEach want s).bdc.queue, e.panel = a ∧ (urgent = true → e.urgent = true) := by
  cases urgent with
  | false =>
    obtain ⟨e, he, hea⟩ := mem_waitingPanels.mp (mem_waitingPanels_requestEach hp hw)
    exact ⟨e, he, hea, nofun⟩
  | true =>
    have hr : requested want s.bdc.profiles a = some true := by rw [requested, if_pos hp, hw]
    have hm := (mem_urgentPanels_foldl (requested want s.bdc.profiles) a allPanels s.bdc.queue).mpr
      (.inl ⟨by cases a <;> decide, hr⟩)
    rw [← requestEach_queue] at hm
    obtain ⟨e, he, hea, hu⟩ := mem_urgentPanels.mp hm
    exact ⟨e, he, hea, fun _ => hu⟩

/-! ### The entries of one panel -/

/-- The entries of a panel. -/
def entriesOf (a : Addr) (q : List QueueEntry) : List QueueEntry := q.filter fun e => e.panel == a

/-- A queue with each panel at most once has at most one entry of a panel. -/
theorem length_entriesOf {s : State} (h : QueueOrdered s) (a : Addr) : (entriesOf a s.bdc.queue).length ≤ 1 := by
  have hc := List.nodup_iff_count_le_one.mp h.1 a
  rwa [List.count_eq_countP, List.countP_map, List.countP_eq_length_filter] at hc

/-- At most one entry, urgent or not, is not moved by putting the urgent ones first. -/
theorem filter_urgent_append {l : List QueueEntry} (h : l.length ≤ 1) :
    l.filter (·.urgent) ++ l.filter (!·.urgent) = l := by
  match l, h with
  | [], _ => rfl
  | [e], _ => cases he : e.urgent <;> simp [he]

/-- A request leaves the one entry of another panel alone (R120). -/
theorem entriesOf_enqueue {a b : Addr} (hb : b ≠ a) (urgent : Bool) {q : List QueueEntry}
    (h : (entriesOf b q).length ≤ 1) : entriesOf b (enqueue a urgent q) = entriesOf b q := by
  have hnew (u : Bool) (l : List QueueEntry) : entriesOf b (⟨a, u⟩ :: l) = entriesOf b l := by
    simp [entriesOf, Ne.symm hb]
  have hurgent : entriesOf b (q.filter (·.urgent)) = (entriesOf b q).filter (·.urgent) := List.filter_comm ..
  have hother : entriesOf b (q.filter (!·.urgent)) = (entriesOf b q).filter (!·.urgent) := List.filter_comm ..
  have hrest : entriesOf b (q.filter fun x => !x.urgent && !(x.panel == a)) = (entriesOf b q).filter (!·.urgent) := by
    rw [← hother]
    simp only [entriesOf, List.filter_filter]
    refine List.filter_congr fun e _ => ?_
    by_cases he : e.panel = b
    · simp [he, hb]
    · rw [beq_false_of_ne he]; simp only [Bool.false_and]
  have happend (l m : List QueueEntry) : entriesOf b (l ++ m) = entriesOf b l ++ entriesOf b m := List.filter_append ..
  unfold enqueue
  split
  · split
    · rw [happend, hnew, hurgent, hother, filter_urgent_append h]
    · rw [happend, hnew, entriesOf, entriesOf, List.filter_nil, List.append_nil]
  · split
    · rw [happend, hnew, hurgent, hrest, filter_urgent_append h]
    · rfl

/-- The requests of an event leave the one entry of a panel alone of which it asks nothing. -/
theorem entriesOf_foldl {c : Addr → Option Bool} {a : Addr} (ha : c a = none) (l : List Addr) {q : List QueueEntry}
    (h : (entriesOf a q).length ≤ 1) :
    entriesOf a (l.foldl (fun q b => enqueueOf q b (c b)) q) = entriesOf a q := by
  induction l generalizing q with
  | nil => rfl
  | cons b l ih =>
    have hb : entriesOf a (enqueueOf q b (c b)) = entriesOf a q := by
      cases hc : c b with
      | none => rfl
      | some u => exact entriesOf_enqueue (fun hab => by rw [← hab, ha] at hc; cases hc) u h
    rw [List.foldl_cons, ih (by rwa [hb]), hb]

theorem entriesOf_requestEach {want : Profile → Option Bool} {s : State} {a : Addr}
    (hw : want (s.bdc.profiles.get a) = none) (h : (entriesOf a s.bdc.queue).length ≤ 1) :
    entriesOf a (requestEach want s).bdc.queue = entriesOf a s.bdc.queue := by
  rw [requestEach_queue]
  exact entriesOf_foldl (by rw [requested, hw, ite_self]) _ h

end Sys2Proof.Machine
end

section
/-! SUPPORT. What an evaluation hands on, event by event: the causes and classes of Table 3-5, the change events with the automatic
list, the status event and the approach start (R45 to R48, R117, R121). -/

namespace Sys2Proof.Machine

/-! ### The causes and their classes (Table 3-5, R46, R47) -/

theorem givesCause_iff (old new : Service) :
    (givesCause old new .cancel = true ↔ old.status ≠ .cancelled ∧ new.status = .cancelled) ∧
    (givesCause old new .reinstate = true ↔
      old.status = .cancelled ∧ new.status ≠ .cancelled ∧ new.status ≠ .departed) ∧
    (givesCause old new .platform = true ↔ old.platform ≠ new.platform) ∧
    (givesCause old new .approach = true ↔ old.approach = false ∧ new.approach = true) ∧
    (givesCause old new .revival = true ↔
      old.status = .lapsed ∧ (new.status = .scheduled ∨ new.status = .delayed)) ∧
    (givesCause old new .delay = true ↔ old.delay ≠ new.delay ∧ old.status ≠ .lapsed ∧ new.status ≠ .lapsed) ∧
    (givesCause old new .lapse = true ↔
      (old.status = .scheduled ∨ old.status = .delayed) ∧ new.status = .lapsed) ∧
    (givesCause old new .departed = true ↔ old.status ≠ .departed ∧ new.status = .departed) := by
  simp only [givesCause, Bool.and_eq_true, decide_eq_true_eq, Bool.not_eq_true', isRunning_iff, and_assoc, and_self]

theorem givesCause_approach (old new : Service) :
    givesCause old new .approach = true ↔ old.approach = false ∧ new.approach = true := by
  simp only [givesCause, Bool.and_eq_true, Bool.not_eq_true']

/-- The rank of a status text of a departures row, as the statement numbers them. -/
def StatusText.rank : StatusText → Nat
  | .approaching => 0
  | .cancelled => 1
  | .expected => 2
  | .onTime => 3

theorem rank_statusText (n : Nat) (v : Service) : (statusText n v).rank =
    if v.approach then 0 else if v.status = .cancelled then 1 else if n ≤ v.delay then 2 else 3 := by
  unfold statusText
  split_ifs <;> rfl

theorem textUrgent_iff (a b : StatusText) : textUrgent a b = true ↔ (a.rank = 3 ∧ b.rank = 2) ∨
    (a.rank = 2 ∧ b.rank = 3) ∨ (a.rank = 1 ∧ b.rank ≠ 1) ∨ (a.rank ≠ 1 ∧ b.rank = 1) := by
  cases a <;> cases b <;> decide

/-- A change event is URGENT by its cause, but for DELAY, which the texts that a panel shows before and after decide. -/
theorem causeUrgent_iff (old new : Service) (c : ChangeCause) (p : Profile) : causeUrgent old new c p = true ↔
    c ∈ [ChangeCause.cancel, .reinstate, .platform, .approach, .revival] ∨
      (c = .delay ∧ p.isPresent = true ∧ p.kind = .departures ∧
        textUrgent (statusText p.threshold old) (statusText p.threshold new) = true) := by
  cases c
  case delay => simp [causeUrgent, delayUrgent, and_assoc]
  all_goals simp [causeUrgent]

theorem passes_eq (d : DirFilter) (way : Direction) :
    passes d way = decide (d = .all ∨ (d = .up ∧ way = .up) ∨ (d = .down ∧ way = .down)) := by
  cases d <;> cases way <;> decide

/-! ### The requests of a change event (R121) -/

/-- A change event is requests of its class for the DEPARTURES panels that its service passes, and for the MESSAGES panels as
it asks, after what CANCEL and REINSTATE do to the lists. -/
theorem changeEvent_requests (old new : Service) (s : State) (c : ChangeCause) : ∃ messages v,
    changeEvent old new s c =
      requestEach (wantForService new.plan.direction (causeUrgent old new c) messages) v ∧
    v.bdc.profiles = s.bdc.profiles ∧ v.bdc.queue = s.bdc.queue ∧ (c ≠ .cancel → c ≠ .reinstate → v = s) := by
  cases c
  case cancel =>
    unfold changeEvent
    dsimp only
    split
    · exact ⟨some true, _, rfl, rfl, rfl, fun h => absurd rfl h⟩
    · exact ⟨none, s, rfl, rfl, rfl, fun _ _ => rfl⟩
  case reinstate =>
    obtain ⟨p, hp⟩ := keepMessages_eq (fun _ => true) (fun e => decide (e.service ≠ new.plan.number)) s
    exact ⟨_, _, rfl, by rw [hp], by rw [hp], fun _ h => absurd rfl h⟩
  all_goals exact ⟨none, s, rfl, rfl, rfl, fun _ _ => rfl⟩

/-- A DEPARTURES panel that the service passes has an entry after the event, an urgent one where the event is URGENT for it. -/
theorem entry_changeEvent {old new : Service} {s : State} {c : ChangeCause} {a : Addr}
    (hp : (s.bdc.profiles.get a).isPresent = true) (hk : (s.bdc.profiles.get a).kind = .departures)
    (hd : passes (s.bdc.profiles.get a).filter new.plan.direction = true) :
    ∃ e ∈ (changeEvent old new s c).bdc.queue, e.panel = a ∧
      (causeUrgent old new c (s.bdc.profiles.get a) = true → e.urgent = true) := by
  obtain ⟨messages, v, he, hprofiles, -, -⟩ := changeEvent_requests old new s c
  rw [he]
  rw [← hprofiles] at hp hk hd ⊢
  exact entry_requestEach hp (by simp only [wantForService, hk, hd, if_true])

/-- The entry of a DEPARTURES panel that the service does not pass stays as it is. -/
theorem entriesOf_changeEvent {old new : Service} {s : State} {c : ChangeCause} {a : Addr}
    (hk : (s.bdc.profiles.get a).kind = .departures)
    (hd : passes (s.bdc.profiles.get a).filter new.plan.direction = false) (hq : QueueOrdered s) :
    entriesOf a (changeEvent old new s c).bdc.queue = entriesOf a s.bdc.queue := by
  obtain ⟨messages, v, he, hprofiles, hqueue, -⟩ := changeEvent_requests old new s c
  have hone := length_entriesOf hq a
  rw [he, ← hqueue]
  rw [← hprofiles] at hk hd
  rw [← hqueue] at hone
  exact entriesOf_requestEach (by simp only [wantForService, hk, hd, Bool.false_eq_true, if_false]) hone

/-- Every cause but CANCEL and REINSTATE leaves the automatic list alone. -/
theorem changeEvent_auto {old new : Service} {s : State} {c : ChangeCause} (hc : c ≠ .cancel) (hr : c ≠ .reinstate) :
    (changeEvent old new s c).bdc.auto = s.bdc.auto := by
  obtain ⟨messages, v, he, -, -, hv⟩ := changeEvent_requests old new s c
  rw [he, (reacted_requestEach _ v).auto, hv hc hr]

/-! ### The automatic list (R117) -/

theorem hasAuto_iff (s : State) (n : Nat) : hasAuto s n = true ↔ ∃ x ∈ s.bdc.auto, x.service = n := by
  simp only [hasAuto, List.any_eq_true, beq_iff_eq]

theorem hasAuto_eq_false (s : State) (n : Nat) : hasAuto s n = false ↔ ∀ x ∈ s.bdc.auto, x.service ≠ n := by
  simp only [← Bool.not_eq_true, hasAuto_iff, not_exists, not_and, ne_eq]

theorem leastOf_eq_min? (l : List Nat) : leastOf l = l.min? := by
  induction l with
  | nil => rfl
  | cons a l ih =>
    rw [leastOf, ih, List.min?_cons]
    cases l.min? with
    | none => rfl
    | some b => simp only [Option.elim_some]; congr 1; split <;> omega

/-- An added entry has the next arrival number; of a list of 4 the entry with the lowest one leaves. -/
theorem autoAdded_putAuto (v : Service) (s : State) :
    AutoAdded v s (putAuto v.plan.number v.plan.minute (terminus v) s) := by
  refine ⟨rfl, fun hlt => ?_, fun x hx hlen hle => ?_⟩
  · rw [putAuto, if_pos hlt]
    rfl
  · have hleast : leastOf (s.bdc.auto.map (·.arrival)) = some x.arrival := by
      rw [leastOf_eq_min?, List.min?_eq_some_iff]
      exact ⟨List.mem_map_of_mem hx, by simpa using hle⟩
    rw [putAuto, if_neg (Nat.not_lt.mpr hlen), hleast]
    simp only [Option.some.injEq, decide_not, ← beq_eq_decide]
    rfl

/-- What is added to the lists stands in every state with the same ones. -/
theorem AutoAdded.of_lists {v : Service} {s t u w : State} (h : AutoAdded v t u) (hs : t.bdc.auto = s.bdc.auto)
    (ha : t.bdc.arrivals = s.bdc.arrivals) (hw : w.bdc.auto = u.bdc.auto) (hr : w.bdc.arrivals = u.bdc.arrivals) :
    AutoAdded v s w := by
  unfold AutoAdded at h ⊢
  rwa [hw, hr, ← hs, ← ha]

theorem autoAdded_requested (v : Service) (want : Profile → Option Bool) (s : State) :
    AutoAdded v s (requestEach want (putAuto v.plan.number v.plan.minute (terminus v) s)) :=
  (autoAdded_putAuto v s).of_lists rfl rfl (reacted_requestEach _ _).auto (reacted_requestEach _ _).arrivals

/-- Urgent requests for the panels of a kind leave each PRESENT one with an urgent entry. -/
theorem queuedUrgent_requestEach {want : Profile → Option Bool} {k : PanelKind} (h : ∀ p, p.kind = k → want p = some true)
    (s : State) : QueuedUrgent k (requestEach want s) := by
  intro a hp hk
  rw [(reacted_requestEach want s).profiles] at hp hk
  obtain ⟨e, he, ha, hu⟩ := entry_requestEach hp (h _ hk)
  exact ⟨e, he, ha, hu rfl⟩

/-- A cancellation adds an entry where tickets are sold and none stands for the service; else the list stays. -/
theorem changeEvent_cancel (old new : Service) (s : State) :
    (new.sold = 0 ∨ (∃ x ∈ s.bdc.auto, x.service = new.plan.number) →
      (changeEvent old new s .cancel).bdc.auto = s.bdc.auto) ∧
    (0 < new.sold → (∀ x ∈ s.bdc.auto, x.service ≠ new.plan.number) →
      AutoAdded new s (changeEvent old new s .cancel) ∧ QueuedUrgent .messages (changeEvent old new s .cancel)) := by
  unfold changeEvent
  refine ⟨fun h => ?_, fun hsold hno => ?_⟩
  · dsimp only
    rw [if_neg, (reacted_requestEach _ s).auto]
    rw [← hasAuto_iff] at h
    rcases h with h | h <;> simp [h]
  · dsimp only
    rw [(hasAuto_eq_false _ _).mpr hno, decide_eq_true hsold, if_pos (by decide)]
    exact ⟨autoAdded_requested new _ s, queuedUrgent_requestEach (fun p hp => by simp only [wantForService, hp]) _⟩

/-- A reinstatement takes the entry of the service from the list, and asks the MESSAGES panels where there was one. -/
theorem changeEvent_reinstate (old new : Service) (s : State) :
    (changeEvent old new s .reinstate).bdc.auto = s.bdc.auto.filter (fun x => decide (x.service ≠ new.plan.number)) ∧
    ((∃ x ∈ s.bdc.auto, x.service = new.plan.number) → Queued .messages (changeEvent old new s .reinstate)) ∧
    ((∀ x ∈ s.bdc.auto, x.service ≠ new.plan.number) → QueueOrdered s → ∀ a, (s.bdc.profiles.get a).kind = .messages →
      entriesOf a (changeEvent old new s .reinstate).bdc.queue = entriesOf a s.bdc.queue) := by
  obtain ⟨p, hp⟩ := keepMessages_eq (fun _ => true) (fun e => decide (e.service ≠ new.plan.number)) s
  unfold changeEvent
  dsimp only
  rw [hp]
  refine ⟨(reacted_requestEach _ _).auto, fun h a hpresent hk => ?_, fun h hq a hk => ?_⟩
  · rw [(reacted_requestEach _ _).profiles] at hpresent hk
    obtain ⟨e, he, ha, -⟩ := entry_requestEach (urgent := false) hpresent
      (want := wantForService new.plan.direction (fun _ => true) (if hasAuto s new.plan.number then some false else none))
      (by simp only [wantForService, hk, (hasAuto_iff _ _).mpr h, if_true])
    exact ⟨e, he, ha⟩
  · refine entriesOf_requestEach ?_ (length_entriesOf hq a)
    simp only [wantForService, hk, (hasAuto_eq_false _ _).mpr h, Bool.false_eq_true, if_false]

/-! ### The status event (R48) -/

/-- A quote withdrawn (R79): the slot IDLE, the reason recorded, QUOTE-WITHDRAWN pending and the demand timer restarted. -/
theorem withdraw_quoted {s : State} {q : Quote} {left : Nat} (why : Withdrawal) (h : s.slc.slot = .quoted q left) :
    withdraw why s = { s with
      slc.slot := .idle, slc.lastReason := some why
      awu.timer := demandTimerOf (s.enm.table.get s.awu.demand), hlk.notices := raisedAt 6 s.hlk.notices } := by
  simp only [withdraw, putSlot, h]
  rfl

theorem withdraw_unquoted {s : State} (why : Withdrawal) (h : slotState s.slc.slot ≠ .quoted) : withdraw why s = s := by
  unfold withdraw
  split
  next q left hq => exact absurd (by rw [hq]; rfl) h
  next => rfl

theorem statusEvent_unquoted (old new : Service) {s : State} (h : slotState s.slc.slot ≠ .quoted) :
    statusEvent s (old, new) = s := by
  unfold statusEvent
  split
  · split
    next q left hq => exact absurd (by rw [hq]; rfl) h
    next => rfl
  · rfl

/-- A QUOTED sale is withdrawn where its service leaves SCHEDULED and DELAYED. -/
theorem statusEvent_quoted (old new : Service) {s : State} {q : Quote} {left : Nat} (h : s.slc.slot = .quoted q left) :
    statusEvent s (old, new) =
      if (old.status = .scheduled ∨ old.status = .delayed) ∧ ¬(new.status = .scheduled ∨ new.status = .delayed) ∧
          q.bound.map (·.number) = some new.plan.number then withdraw .service s
      else s := by
  simp only [statusEvent, h, Bool.and_eq_true, Bool.not_eq_true', ← Bool.not_eq_true, isRunning_iff]
  split_ifs <;> simp_all

/-! ### The approach start (R45) -/

theorem approachStart_none {old new : Service} {s : State} (h : ¬(old.approach = false ∧ new.approach = true)) :
    approachStart s (old, new) = s := by
  rw [← givesCause_approach] at h
  exact if_neg h

/-- Activity, and at EL4 and EL5 a wake where APPROACH's wake flag is set (R170). -/
theorem approachStart_starts {old new : Service} {s : State} (ho : old.approach = false) (hn : new.approach = true) :
    approachStart s (old, new) =
      if (activity s).awu.config.approach = true ∧ resting (activity s).enm.present = true then
        wake .approach none (activity s)
      else activity s := by
  have h := (givesCause_approach old new).mpr ⟨ho, hn⟩
  simp only [approachStart, h, if_true, internalEvent, Bool.and_eq_true]

end Sys2Proof.Machine
end

section
/-! SUPPORT. A sale concluded: the sold count offered to its service with what the Board Composer is told of it, and the journal
record with its completion time (R49, R83 to R86, R117). -/

namespace Sys2Proof.Machine

/-! ### A sold count offered (R49) -/

/-- A service with the passengers of a sale added to its sold count. -/
def carrying (quantity : Nat) (v : Service) : Service := { v with sold := min 65535 (v.sold + quantity) }

section
variable {date : Date} {number quantity : Nat} {s : State}

theorem offerSold_empty (h : s.tts.current = none) : offerSold date number quantity s = s := by
  simp only [offerSold, h]

variable {t : CurrentTable} (ht : s.tts.current = some t)
include ht

theorem offerSold_otherDate (hd : t.header.date ≠ date) : offerSold date number quantity s = s := by
  simp only [offerSold, ht, if_pos hd]

theorem offerSold_unknown (hv : currentService s number = none) : offerSold date number quantity s = s := by
  simp only [offerSold, ht, hv, ite_self]

/-- On the table's date the service of the number takes the passengers, and a CANCELLED one whose count has risen tells the
Board Composer. -/
theorem offerSold_found (hd : t.header.date = date) {v : Service} (hv : currentService s number = some v) :
    offerSold date number quantity s =
      if v.status = .cancelled ∧ min 65535 (v.sold + quantity) ≠ v.sold then
        soldEvent (carrying quantity v) (replaceService (carrying quantity v) s)
      else replaceService (carrying quantity v) s := by
  simp only [offerSold, ht, hv, hd, ne_eq, not_true_eq_false, if_false]
  rfl

end

/-- A sold event moves the boards alone. -/
theorem soldEvent_state (v : Service) (s : State) : soldEvent v s = { s with bdc := (soldEvent v s).bdc } := by
  unfold soldEvent requestKind
  split
  · rw [requestEach_state]
    rfl
  · rfl

/-- An offered sold count moves the current table and the boards alone. -/
theorem offerSold_state (date : Date) (number quantity : Nat) (s : State) : offerSold date number quantity s =
    { s with tts := (offerSold date number quantity s).tts, bdc := (offerSold date number quantity s).bdc } := by
  cases ht : s.tts.current with
  | none => rw [offerSold_empty ht]
  | some t =>
    by_cases hd : t.header.date = date
    · cases hv : currentService s number with
      | none => rw [offerSold_unknown ht hv]
      | some v =>
        rw [offerSold_found ht hd hv]
        split
        · rw [soldEvent_state]
          rfl
        · rfl
    · rw [offerSold_otherDate ht hd]

/-- Where no two services share a number, the service of the number alone has the passengers added. -/
theorem offerSold_tts {date : Date} {number quantity : Nat} {s : State} (h : NumbersDistinct s) :
    (offerSold date number quantity s).tts = soldTables date number quantity s.tts := by
  cases ht : s.tts.current with
  | none => rw [offerSold_empty ht, soldTables_of_none fun c hc => by simp [ht] at hc]
  | some t =>
    by_cases hd : t.header.date = date
    · cases hv : currentService s number with
      | none =>
        rw [offerSold_unknown ht hv, soldTables_of_none fun c hc _ v hvc => ?_]
        rw [currentService, ht] at hv
        rw [ht] at hc
        cases hc
        simpa using List.find?_eq_none.mp hv v hvc
      | some v =>
        rw [offerSold_found ht hd hv, ← replaceService_sold ht hd hv (h.1 t ht)]
        split
        · rw [soldEvent_state]
          rfl
        · rfl
    · rw [offerSold_otherDate ht hd, soldTables_of_none fun c hc he => ?_]
      rw [ht] at hc
      cases hc
      exact absurd he hd

theorem soldTables_of_date {date : Date} {number quantity : Nat} {t : Tts} {c : CurrentTable} (hc : t.current = some c)
    (hd : c.header.date = date) : soldTables date number quantity t =
      { t with current := some { c with services := c.services.map fun y =>
        if y.plan.number = number then { y with sold := min 65535 (y.sold + quantity) } else y } } := by
  have hsame : ∀ y ∈ c.services, { y with sold := soldWith date number quantity c.header.date y } =
      if y.plan.number = number then { y with sold := min 65535 (y.sold + quantity) } else y := fun y _ => by
    by_cases hn : y.plan.number = number <;> simp [soldWith, hd, hn]
  rw [soldTables, hc, Option.map_some, List.map_congr_left hsame]

theorem soldTables_otherDate {date : Date} {number quantity : Nat} {t : Tts} {c : CurrentTable} (hc : t.current = some c)
    (hd : c.header.date ≠ date) : soldTables date number quantity t = t :=
  soldTables_of_none fun c' hc' he => by
    rw [hc] at hc'
    cases hc'
    exact absurd he hd

/-! ### What the Board Composer is told (R117) -/

/-- A count that has risen is above 0: an entry is added where none stands for the service. -/
theorem soldEvent_adds {v : Service} {s : State} (hsold : 0 < v.sold) (hno : ∀ x ∈ s.bdc.auto, x.service ≠ v.plan.number) :
    AutoAdded v s (soldEvent v s) ∧ QueuedUrgent .messages (soldEvent v s) := by
  unfold soldEvent
  rw [(hasAuto_eq_false _ _).mpr hno, decide_eq_true hsold, if_pos (by decide)]
  exact ⟨autoAdded_requested v _ s, queuedUrgent_requestEach (fun p hp => if_pos hp) _⟩

theorem soldEvent_listed {v : Service} {s : State} (h : ∃ x ∈ s.bdc.auto, x.service = v.plan.number) :
    soldEvent v s = s := by
  unfold soldEvent
  rw [(hasAuto_iff _ _).mpr h, Bool.not_true, Bool.and_false, if_neg Bool.false_ne_true]

/-- Where no two services share a number, the service found by it is the one of the table. -/
theorem currentService_of_mem {s : State} {t : CurrentTable} {v : Service} (h : NumbersDistinct s)
    (ht : s.tts.current = some t) (hv : v ∈ t.services) : currentService s v.plan.number = some v := by
  obtain ⟨w, hw⟩ := Option.isSome_iff_exists.mp
    (List.find?_isSome (p := fun y : Service => y.plan.number == v.plan.number).mpr ⟨v, hv, beq_self_eq_true _⟩)
  have hnumber : w.plan.number = v.plan.number := by simpa using List.find?_some hw
  have hwv : w = v := List.inj_on_of_nodup_map (h.1 t ht) (List.mem_of_find?_eq_some hw) hv hnumber
  rw [currentService, ht, Option.bind_some, hw, hwv]

/-- An offered sold count tells the Board Composer what R49 and R117 have it told. -/
theorem soldTold_offerSold {x : Sale} {number : Nat} {s : State} (h : NumbersDistinct s) :
    SoldTold x number s (offerSold x.date number x.quote.quantity s) := by
  refine ⟨fun t v ht hd hv hn hr => ?_, fun hno => ?_⟩
  · obtain ⟨hcancelled, hrisen, hnone⟩ := hr
    subst hn
    rw [offerSold_found ht hd (currentService_of_mem h ht hv), if_pos ⟨hcancelled, hrisen⟩]
    have hsold : 0 < min 65535 (v.sold + x.quote.quantity) := by omega
    exact soldEvent_adds (v := carrying x.quote.quantity v) (s := replaceService (carrying x.quote.quantity v) s)
      hsold hnone
  · cases ht : s.tts.current with
    | none => rw [offerSold_empty ht]; exact ⟨rfl, rfl⟩
    | some t =>
      by_cases hd : t.header.date = x.date
      · cases hv : currentService s number with
        | none => rw [offerSold_unknown ht hv]; exact ⟨rfl, rfl⟩
        | some v =>
          have hn := currentService_number hv
          have hvt : v ∈ t.services := by
            rw [currentService, ht] at hv
            exact List.mem_of_find?_eq_some hv
          rw [offerSold_found ht hd hv]
          split
          next hr =>
            have hlisted : ∃ e ∈ s.bdc.auto, e.service = v.plan.number := by
              by_contra hne
              exact hno t v ht hd hvt hn ⟨hr.1, hr.2, fun e he hs => hne ⟨e, he, hs.trans hn.symm⟩⟩
            rw [soldEvent_listed (v := carrying x.quote.quantity v) (s := replaceService (carrying x.quote.quantity v) s) hlisted]
            exact ⟨rfl, rfl⟩
          next => exact ⟨rfl, rfl⟩
      · rw [offerSold_otherDate ht hd]
        exact ⟨rfl, rfl⟩

/-- What is told reads of the part the current table and the boards alone. -/
theorem SoldTold.of_same {x : Sale} {number : Nat} {s t u w : State} (h : SoldTold x number t u)
    (hc : t.tts.current = s.tts.current) (hb : t.bdc = s.bdc) (hw : w.bdc = u.bdc) : SoldTold x number s w := by
  unfold SoldTold AutoAdded QueuedUrgent at h ⊢
  rwa [hw, ← hc, ← hb]

/-! ### The completion time (R86) -/

theorem dateBefore_nextDate (d : Date) : dateBefore d (nextDate d) = true := by
  rw [dateBefore_iff]
  unfold nextDate
  split_ifs <;> dsimp only <;> omega

theorem dateBefore_trans {a b c : Date} (h : dateBefore a b = true) (k : dateBefore b c = true) :
    dateBefore a c = true := by
  rw [dateBefore_iff] at h k ⊢
  omega

section
variable {date : Date} {s : State}

theorem completionTime_unset (h : s.clock = none) : completionTime date s = none := by
  rw [completionTime, h]
  rfl

variable {c : ClockSetting} (hc : s.clock = some c)
include hc

theorem completionTime_set : completionTime date s =
    if c.date = date then some c.tod
    else if c.date = nextDate date ∧ 86400 + c.tod ≤ 97199 then some (86400 + c.tod)
    else if dateBefore c.date date then (Config.openCompletion date c.date c.tod).filter fun n => decide (n < 86400)
    else none := by
  rw [completionTime, hc]
  rfl

/-- On the next date the time runs on up to 97,199. -/
theorem completionTime_next (h : c.date = nextDate date) :
    completionTime date s = if 86400 + c.tod ≤ 97199 then some (86400 + c.tod) else none := by
  have hlater := dateBefore_nextDate date
  rw [completionTime_set hc, h, if_neg (ne_of_dateBefore hlater).symm, dateBefore_asymm hlater]
  simp only [true_and, Bool.false_eq_true, if_false]

theorem completionTime_later (h : dateBefore (nextDate date) c.date = true) : completionTime date s = none := by
  have hlater := dateBefore_trans (dateBefore_nextDate date) h
  rw [completionTime_set hc, if_neg (ne_of_dateBefore hlater).symm, if_neg fun hn => (ne_of_dateBefore h) hn.1.symm,
    dateBefore_asymm hlater, if_neg Bool.false_ne_true]

theorem completionTime_earlier (h : dateBefore c.date date = true) {n : Nat} (hn : completionTime date s = some n) :
    n < 86400 := by
  have hnext := dateBefore_trans h (dateBefore_nextDate date)
  rw [completionTime_set hc, if_neg (ne_of_dateBefore h), if_neg fun k => (ne_of_dateBefore hnext) k.1, if_pos h,
    Option.filter_eq_some_iff] at hn
  exact of_decide_eq_true hn.2

end

theorem completionTime_atSales (date : Date) (s : State) : completionTime date (atSales s) = completionTime date s := by
  rw [completionTime, atSales_clock, completionTime]

/-! ### The conclusion (R86, R98) -/

/-- The slot's next state moves of the part the slot and the demand timer alone. -/
theorem putSlot_state (slot : Slot) (s : State) : ∃ timer, putSlot slot s =
    { s with slc.slot := slot, awu.timer := timer } := by
  unfold putSlot
  split <;> exact ⟨_, rfl⟩

/-- The journal after a record of a sale: appended, the reservation consumed and a counted total taken in. -/
def concludedJournal (x : Sale) (kind : RecordKind) (completion : Option Nat) (j : Sjn) : Sjn :=
  { j with
    records := j.records ++ [recordOf x kind completion]
    reserved := false
    lifetime :=
      if counted kind then j.lifetime.set x.payment (j.lifetime.get x.payment + x.quote.total) else j.lifetime }

theorem concludedJournal_lifetime (x : Sale) (kind : RecordKind) (completion : Option Nat) (j : Sjn) (k : Payment) :
    (concludedJournal x kind completion j).lifetime.get k =
      j.lifetime.get k + if k = x.payment ∧ counted kind = true then x.quote.total else 0 := by
  unfold concludedJournal
  cases counted kind with
  | false => simp
  | true =>
    by_cases hk : k = x.payment
    · subst hk
      simp
    · simp [hk]

/-- What every conclusion does to slot and journal, and the clock and the tariffs that it leaves alone. -/
theorem conclude_stores (x : Sale) (kind : RecordKind) (s : State) : (conclude x kind s).slc.slot = .idle ∧
    (conclude x kind s).sjn = concludedJournal x kind (completionTime x.date s) s.sjn ∧
    (conclude x kind s).clock = s.clock ∧ (conclude x kind s).tfe = s.tfe ∧
    (conclude x kind s).hlk = s.hlk := by
  have offered (u : State) (hu : ∃ T B, u = { append (recordOf x kind (completionTime x.date s)) s with tts := T, bdc := B }) :
      (putSlot .idle u).slc.slot = .idle ∧
      (putSlot .idle u).sjn = concludedJournal x kind (completionTime x.date s) s.sjn ∧
      (putSlot .idle u).clock = s.clock ∧ (putSlot .idle u).tfe = s.tfe ∧ (putSlot .idle u).hlk = s.hlk := by
    obtain ⟨T, B, rfl⟩ := hu
    obtain ⟨timer, hput⟩ := putSlot_state .idle
      { append (recordOf x kind (completionTime x.date s)) s with tts := T, bdc := B }
    rw [hput]
    exact ⟨rfl, rfl, rfl, rfl, rfl⟩
  refine offered _ ?_
  split
  · split
    · exact ⟨_, _, offerSold_state _ _ _ _⟩
    · exact ⟨_, _, rfl⟩
  · exact ⟨_, _, rfl⟩

/-- Of the tables and the boards a conclusion moves what the sold count offered for a counted bound sale does. -/
theorem conclude_bound {x : Sale} {kind : RecordKind} {b : Bound} (hb : x.quote.bound = some b) (hk : counted kind = true)
    (s : State) :
    let u := offerSold x.date b.number x.quote.quantity (append (recordOf x kind (completionTime x.date s)) s)
    (conclude x kind s).tts = u.tts ∧ (conclude x kind s).bdc = u.bdc := by
  have hc : conclude x kind s = putSlot .idle
      (offerSold x.date b.number x.quote.quantity (append (recordOf x kind (completionTime x.date s)) s)) := by
    simp only [conclude, hb, hk, if_true]
  obtain ⟨timer, hput⟩ := putSlot_state .idle
    (offerSold x.date b.number x.quote.quantity (append (recordOf x kind (completionTime x.date s)) s))
  rw [hc, hput]
  exact ⟨rfl, rfl⟩

/-- A sale without a service, a SPOILED one, and any without a current table leave tables and boards alone. -/
theorem conclude_uncounted {x : Sale} {kind : RecordKind} {s : State}
    (h : x.quote.bound = none ∨ counted kind = false ∨ s.tts.current = none) :
    (conclude x kind s).tts = s.tts ∧ (conclude x kind s).bdc = s.bdc := by
  have hc : conclude x kind s = putSlot .idle (append (recordOf x kind (completionTime x.date s)) s) := by
    unfold conclude
    dsimp only
    split
    next b hb =>
      split
      next hk =>
        rw [offerSold_empty]
        rcases h with h | h | h
        · rw [h] at hb; cases hb
        · rw [h] at hk; cases hk
        · exact h
      next => rfl
    next => rfl
  obtain ⟨timer, hput⟩ := putSlot_state .idle (append (recordOf x kind (completionTime x.date s)) s)
  rw [hc, hput]
  exact ⟨rfl, rfl⟩

/-- What a counted bound sale does to the current table, and what of it the Board Composer is told (R49, R117). -/
theorem conclude_counts {x : Sale} {kind : RecordKind} {b : Bound} {t : CurrentTable} {s : State}
    (hb : x.quote.bound = some b) (hk : counted kind = true) (ht : s.tts.current = some t) (h : NumbersDistinct s) :
    SoldTold x b.number s (conclude x kind s) ∧
    (t.header.date ≠ x.date → (conclude x kind s).tts = s.tts) ∧
    (t.header.date = x.date → (conclude x kind s).tts =
      { s.tts with current := some { t with services := t.services.map fun y =>
        if y.plan.number = b.number then { y with sold := min 65535 (y.sold + x.quote.quantity) } else y } }) := by
  obtain ⟨htts, hbdc⟩ := conclude_bound hb hk s
  have hn : NumbersDistinct (append (recordOf x kind (completionTime x.date s)) s) := h
  rw [offerSold_tts hn] at htts
  refine ⟨(soldTold_offerSold hn).of_same rfl rfl hbdc, fun hd => htts.trans (soldTables_otherDate ht hd),
    fun hd => htts.trans (soldTables_of_date ht hd)⟩

end Sys2Proof.Machine
end

section
/-! SUPPORT. What messages and print results hand on, the print result by the serial and the slot that it meets, and the timers of
the sale slot (R44 to R49, R78, R83 to R86, R117). -/

namespace Sys2Proof.Machine

/-! ### SALE-PRINTED (R83, R84) -/

section
variable {serial : Nat} {o : PrintOutcome} {s : State}

theorem within_serial_iff : within 1 lastSerial serial = true ↔ 1 ≤ serial ∧ serial ≤ 16777215 := by
  rw [within, Bool.and_eq_true, decide_eq_true_eq, decide_eq_true_eq]
  rfl

theorem salePrintedRule_range (h : serial = 0 ∨ 16777215 < serial) :
    salePrintedRule serial (.named o) s = (s, refuse .range .field) := by
  have hbad : within 1 lastSerial serial = false := by
    rw [← Bool.not_eq_true, within_serial_iff]
    omega
  simp only [salePrintedRule, hbad, Bool.not_false, if_true]

variable (h : 1 ≤ serial) (h' : serial ≤ 16777215)
include h h'

theorem salePrintedRule_held {x : Sale} {left : Nat} (hs : s.slc.slot = .printing x left) (hx : x.serial = serial) :
    salePrintedRule serial (.named o) s =
      (conclude x (resultKind o) s, done (.concluded serial (resultKind o))) := by
  simp only [salePrintedRule, within_serial_iff.mpr ⟨h, h'⟩, hs, hx, Bool.not_true, Bool.false_eq_true, if_false, if_true]

theorem salePrintedRule_other (hs : ∀ x left, s.slc.slot = .printing x left → x.serial ≠ serial) :
    salePrintedRule serial (.named o) s = (s, lateAnswer serial s) := by
  simp only [salePrintedRule, within_serial_iff.mpr ⟨h, h'⟩, Bool.not_true, Bool.false_eq_true, if_false]
  split
  next x left hslot => exact if_neg (hs x left hslot)
  next => rfl

end

/-- The first record of a serial gives its standing. -/
theorem standingOf_held {serial : Nat} {s : State} {before after : List JRecord} {r : JRecord}
    (hr : s.sjn.records = before ++ r :: after) (hs : r.serial = serial) (hb : ∀ y ∈ before, y.serial ≠ serial) :
    standingOf serial s = some (.kind r.kind) := by
  have hfind : s.sjn.records.find? (fun r => r.serial == serial) = some r :=
    List.find?_eq_some_iff_append.mpr ⟨by simpa using hs, before, after, hr, fun y hy => by simpa using hb y hy⟩
  rw [standingOf, hfind]

theorem standingOf_released {serial : Nat} {s : State} (hr : ∀ r ∈ s.sjn.records, r.serial ≠ serial)
    (hs : serial ≤ s.sjn.released) : standingOf serial s = some .released := by
  have hfind : s.sjn.records.find? (fun r => r.serial == serial) = none :=
    List.find?_eq_none.mpr fun r h => by simpa using hr r h
  rw [standingOf, hfind]
  exact if_pos hs

/-- A SALE-* request does what its rule says of the state after its own activity (R165). -/
theorem does_of_saleRule {c : Instr} {s u : State} {kind reply : Byte} {a : Answer} {rule : State → State × Answer}
    (hl : Listens s) (hc : exec c s = request c s) (hk : kindOf c = some kind) (ho : ownerRule c = some (saleRule rule))
    (hr : rule (atSales s) = (u, a)) (hb : reply = kind ||| 0x80#8 := by rfl) : Does c s reply a u :=
  does_of_rule hl hc hk ho hr hb

/-- Settles O33: the held serial concludes the sale, another one is judged by the next serial and by its standing. -/
theorem printResultsConcludeOrAreLate : Obligations.PrintResultsConcludeOrAreLate := by
  refine ⟨fun serial o x left s hl => ?_, fun serial o s hl => ?_, fun serial o s hl h => ?_, fun date s => ?_⟩
  · intro w hslot hx h h' kind
    have hkind : kind = resultKind o := by cases o <;> rfl
    obtain ⟨hidle, hsjn, hclock, htfe, -⟩ := conclude_stores x (resultKind o) w
    rw [completionTime_atSales, atSales_sjn] at hsjn
    rw [hkind]
    refine ⟨_, does_of_saleRule hl rfl rfl rfl (salePrintedRule_held h h' hslot hx), hidle, by rw [hsjn]; rfl,
      by rw [hsjn]; rfl, by rw [hsjn]; rfl, fun k => ?_, hclock.trans (atSales_clock s), htfe.trans (atSales_tfe s),
      fun hn => ?_⟩
    · rw [hsjn, concludedJournal_lifetime]
      cases o <;> simp [counted, resultKind]
    · have huncounted : x.quote.bound = none ∨ counted (resultKind o) = false ∨ w.tts.current = none :=
        hn.elim (fun ho => .inr (.inl (by rw [ho]; rfl))) .inl
      exact (conclude_uncounted huncounted).1.trans (atSales_tts s)
  · intro w h h' hother
    have hrule := salePrintedRule_other (o := o) h h' hother
    unfold lateAnswer at hrule
    refine ⟨fun hn => ?_, fun hn => ⟨fun before r after hr hs hb => ?_, fun hr hs => ?_⟩⟩
    · exact does_of_saleRule hl rfl rfl rfl (by rw [hrule, atSales_sjn, if_pos hn])
    · exact does_of_saleRule hl rfl rfl rfl
        (by rw [hrule, atSales_sjn, if_neg (Nat.not_le.mpr hn), standingOf_atSales, standingOf_held hr hs hb])
    · exact does_of_saleRule hl rfl rfl rfl
        (by rw [hrule, atSales_sjn, if_neg (Nat.not_le.mpr hn), standingOf_atSales, standingOf_released hr hs])
  · exact does_of_saleRule hl rfl rfl rfl (salePrintedRule_range h)
  · exact ⟨completionTime_unset, fun c hc => ⟨fun hd => by rw [completionTime_set hc, if_pos hd], completionTime_next hc,
      completionTime_later hc, fun hd n hn => completionTime_earlier hc hd hn⟩⟩

/-! ### What messages and print results hand on -/

/-- The evaluation of one service hands on what that service gives, in the order of log 7. -/
theorem handOn_single (old new : Service) (s : State) : handOn [(old, new)] s =
    changeEvents (statusEvent (approachStart (retarget s) (old, new)) (old, new)) (old, new) := rfl

/-- Settles O27: a message hands on what its one service gives; then each event by itself, and a print result by the sold count
that its conclusion offers. -/
theorem changesHandedOn : Obligations.ChangesHandedOn := by
  refine ⟨fun number stamp k arg c v s hl hc hr hv hd ho => ?_, fun old new s => ?_, fun old new q left s _ hslot => ?_,
    fun old new s => statusEvent_unquoted old new, fun old new s => ⟨approachStart_none, approachStart_starts⟩,
    fun x left b t s hl hn => ?_⟩
  · intro w x placed
    have hx : messageResult k arg stamp (c.tod / 60) s v = x := rfl
    have hnumber : x.plan.number = number := by rw [← hx, messageResult_plan, currentService_number hv]
    have hdoes := does_running_applied hl hr hc hv hd ho hx
    rwa [handOn_single, replaceService_atOwner hnumber] at hdoes
  · obtain ⟨hcancel, hreinstate, hplatform, happroach, hrevival, hdelay, hlapse, hdeparted⟩ := givesCause_iff old new
    refine ⟨hcancel, hreinstate, hplatform, happroach, hrevival, hdelay, hlapse, hdeparted, fun c p => ?_, rfl,
      fun c => ⟨fun a hp hk => ⟨entry_changeEvent hp hk, entriesOf_changeEvent hk⟩, changeEvent_auto⟩,
      fun d => passes_eq d _, changeEvent_cancel old new s, changeEvent_reinstate old new s⟩
    rw [causeUrgent_iff, textUrgent_iff]
    simp only [rank_statusText]
  · have he := statusEvent_quoted old new hslot
    rw [withdraw_quoted .service hslot] at he
    exact ⟨fun h => he.trans (if_pos h), fun h => he.trans (if_neg h)⟩
  · intro w hslot h h' hb ht u
    have hcurrent : w.tts.current = some t := by rw [atSales_tts, ht]
    obtain ⟨htold, hother, hsame⟩ := conclude_counts (kind := .issued) hb rfl hcurrent
      (numbersDistinct_of_eq (atSales_tts s) hn)
    rw [atSales_tts] at hother hsame
    exact ⟨does_of_saleRule hl rfl rfl rfl (salePrintedRule_held (o := .printed) h h' hslot rfl), htold, hother, hsame⟩

/-! ### The timers of the slot (R78, R85) -/

theorem printExpiry_printing {s : State} {x : Sale} {left : Nat} (h : s.slc.slot = .printing x left) :
    printExpiry s = raiseNotice .printTimeout (conclude x .unconfirmed s) := by
  simp only [printExpiry, h]

theorem printExpiry_unprinted {s : State} (h : slotState s.slc.slot ≠ .printing) : printExpiry s = s := by
  unfold printExpiry
  split
  next x left hslot => exact absurd (by rw [hslot]; rfl) h
  next => rfl

/-- Settles O36: the quote is withdrawn, the sale concluded UNCONFIRMED; a slot in another state is let be. -/
theorem saleTimersExpire : Obligations.SaleTimersExpire := by
  intro s hp hlen
  have quoteTimer : Happens .quoteTimerExpiry s (quoteExpiry s) := happens_of_event hp rfl
  have printTimer : Happens .printTimerExpiry s (printExpiry s) := happens_of_event hp rfl
  refine ⟨fun q left hslot => ?_, fun h => ?_, fun x left hslot => ?_, fun h => ?_⟩
  · have hw : quoteExpiry s = _ := withdraw_quoted .expiry hslot
    refine ⟨_, quoteTimer, by rw [hw], by rw [hw], ?_, by rw [hw]⟩
    rw [hw]
    exact (raiseNotice_raises (src := .quoteWithdrawn) (s := s) (by rw [hlen]; decide)).1
  · rwa [quoteExpiry, withdraw_unquoted .expiry h] at quoteTimer
  · obtain ⟨hidle, hsjn, -, -, hhlk⟩ := conclude_stores x .unconfirmed s
    refine ⟨printTimer, ?_⟩
    rw [printExpiry_printing hslot]
    refine ⟨hidle, by rw [raiseNotice_sjn, hsjn]; rfl, by rw [raiseNotice_sjn, hsjn]; rfl,
      (raiseNotice_raises (by rw [hhlk, hlen]; decide)).1, fun k => ?_, fun h => ?_, fun b t hb ht hn => ?_⟩
    · rw [raiseNotice_sjn, hsjn, concludedJournal_lifetime]
      simp [counted]
    · exact conclude_uncounted (h.elim .inl fun hnone => .inr (.inr hnone))
    · obtain ⟨htold, htables⟩ := conclude_counts (kind := .unconfirmed) hb rfl ht hn
      exact ⟨htold.of_same rfl rfl rfl, htables⟩
  · rwa [printExpiry_unprinted h] at printTimer

end Sys2Proof.Machine
end

section
/-! SUPPORT. Loading a tariff: what Table 4-6 refuses of a set of rules, the place of a station in code order, and each request
by the case of the pending tariff that it meets (R52 to R58). -/

namespace Sys2Proof.Machine

/-! ### The rules of a tariff (Table 4-6) -/

theorem ascending_iff (l : List Nat) : ascending l = true ↔ l.Pairwise (· < ·) := by
  rw [← List.isChain_iff_pairwise]
  induction l with
  | nil => simp [ascending]
  | cons a l ih =>
    cases l with
    | nil => simp [ascending]
    | cons b l => simp [ascending, ih]

theorem rulesInRange_iff (r : Rules) : rulesInRange r = true ↔
    1 ≤ r.bands.length ∧ r.bands.length ≤ 4 ∧ (∀ b ∈ r.bands, 1 ≤ b.1 ∧ b.1 ≤ 4000 ∧ b.2 ≤ 65535) ∧
      r.boarding ≤ 5000 ∧ 1 ≤ r.fMin ∧ r.fMin ≤ 99990 ∧ 1 ≤ r.fMax ∧ r.fMax ≤ 99990 ∧ 1 ≤ r.cMax ∧ r.cMax ≤ 99990 ∧
      r.step ∈ [1, 2, 5, 10, 20, 50, 100] ∧ 100 ≤ r.returnFactor ∧ r.returnFactor ≤ 250 ∧ 100 ≤ r.openSingleFactor ∧
      r.openSingleFactor ≤ 150 ∧ 100 ≤ r.openReturnFactor ∧ r.openReturnFactor ≤ 300 ∧
      (∀ c, some c ∈ r.classes → c.discount ≤ 100) ∧ r.windows.length ≤ 4 ∧
      (∀ w ∈ r.windows, w.1 ≤ 1439 ∧ 1 ≤ w.2 ∧ w.2 ≤ 1440) ∧ r.surcharge ≤ 100 := by
  have hclasses : (r.classes.all fun c => c.all fun k => decide (k.discount ≤ 100)) = true ↔
      ∀ c, some c ∈ r.classes → c.discount ≤ 100 := by
    simp only [List.all_eq_true, Option.all_eq_true, decide_eq_true_eq]
    exact ⟨fun h c hc => h _ hc c rfl, fun h o ho c hoc => h c (hoc ▸ ho)⟩
  simp only [rulesInRange, Bool.and_eq_true, hclasses, List.all_eq_true, within_iff, decide_eq_true_eq,
    List.contains_iff_mem, roundingSteps, and_assoc]

/-- The checks of Table 4-6 in their order. -/
theorem rulesRefusal_eq (r : Rules) : rulesRefusal r =
    if rulesInRange r = false then some .field
    else if ¬((r.bands.map (·.1)).Pairwise (· < ·) ∧ r.bands.getLast?.map (·.1) = some 4000) then some .bands
    else if r.fMax < r.fMin then some .floor
    else if r.cMax % r.step ≠ 0 then some .step
    else if r.cMax < r.fMin then some .ceiling
    else if ¬∀ w ∈ r.windows, w.1 < w.2 then some .window
    else none := by
  have hlimits : (!(ascending (r.bands.map (·.1)) && decide (r.bands.getLast?.map (·.1) = some 4000))) = true ↔
      ¬((r.bands.map (·.1)).Pairwise (· < ·) ∧ r.bands.getLast?.map (·.1) = some 4000) := by
    rw [Bool.not_eq_true', ← Bool.not_eq_true, Bool.and_eq_true, ascending_iff, decide_eq_true_eq]
  have hwindows : (!(r.windows.all fun w => decide (w.1 < w.2))) = true ↔ ¬∀ w ∈ r.windows, w.1 < w.2 := by
    rw [Bool.not_eq_true', ← Bool.not_eq_true, List.all_eq_true]
    simp only [decide_eq_true_eq]
  simp only [rulesRefusal, hlimits, hwindows, Bool.not_eq_true']

/-- Accepted rules pass every check. -/
theorem rulesRefusal_eq_none {r : Rules} (h : rulesRefusal r = none) : rulesInRange r = true ∧
    ((r.bands.map (·.1)).Pairwise (· < ·) ∧ r.bands.getLast?.map (·.1) = some 4000) ∧ r.fMin ≤ r.fMax ∧
      r.cMax % r.step = 0 ∧ r.fMin ≤ r.cMax ∧ ∀ w ∈ r.windows, w.1 < w.2 := by
  rw [rulesRefusal_eq] at h
  split_ifs at h with hr hl hf hs hc hw
  exact ⟨by simpa using hr, hl, by omega, not_not.mp hs, by omega, hw⟩

/-! ### The place of a station (R57) -/

theorem stationInRange_iff (code : Nat) (name : Text) (dist : Nat) (side : Coded Direction) :
    stationInRange code name dist side = true ↔
      1 ≤ code ∧ code ≤ 63 ∧ 1 ≤ name.length ∧ name.length ≤ 20 ∧ (∀ c ∈ name, 0x20 ≤ c.toNat ∧ c.toNat ≤ 0x7E) ∧
        1 ≤ dist ∧ dist ≤ 4000 ∧ ∃ d, side = .named d := by
  have hname : (!name.isEmpty) = true ↔ 1 ≤ name.length := by
    cases name <;> simp
  simp only [stationInRange, Bool.and_eq_true, within_iff, hname, displayText, List.all_eq_true, displayChar,
    decide_eq_true_eq, codedValue_isSome_iff, and_assoc]

/-- The stations of lower codes that stand first. -/
def stationsBefore (code : Nat) (l : List Station) : List Station := l.takeWhile fun y => decide (y.code < code)

/-- The others. -/
def stationsAfter (code : Nat) (l : List Station) : List Station := l.dropWhile fun y => decide (y.code < code)

theorem stationsBefore_append_stationsAfter (code : Nat) (l : List Station) :
    stationsBefore code l ++ stationsAfter code l = l := List.takeWhile_append_dropWhile

theorem code_lt_of_mem_stationsBefore {code : Nat} {l : List Station} {x : Station} (h : x ∈ stationsBefore code l) :
    x.code < code := by
  simpa using List.mem_takeWhile_imp h

theorem le_code_of_head_stationsAfter {code : Nat} {l : List Station} {x : Station}
    (h : (stationsAfter code l).head? = some x) : code ≤ x.code := by
  have hx := List.head?_dropWhile_not (fun y : Station => decide (y.code < code)) l
  unfold stationsAfter at h
  rw [h] at hx
  simpa using hx

/-- A station is inserted between the two. -/
theorem insertStation_eq (x : Station) (l : List Station) :
    insertStation x l = stationsBefore x.code l ++ x :: stationsAfter x.code l := by
  induction l with
  | nil => rfl
  | cons y l ih =>
    by_cases h : y.code < x.code
    · have hbefore : stationsBefore x.code (y :: l) = y :: stationsBefore x.code l :=
        List.takeWhile_cons_of_pos (decide_eq_true h)
      have hafter : stationsAfter x.code (y :: l) = stationsAfter x.code l :=
        List.dropWhile_cons_of_pos (decide_eq_true h)
      rw [insertStation, if_pos h, ih, hbefore, hafter, List.cons_append]
    · simp [insertStation, stationsBefore, stationsAfter, h]

/-! ### The requests by the pending tariff (R56 to R58) -/

theorem tariffOpenRule_eq (version : Nat) (date : Date) (s : State) : tariffOpenRule version date s =
    if 1 ≤ version ∧ version ≤ 65535 ∧ inSpan date = true then
      ({ s with tfe.pending := some ⟨false, version, date, [], none⟩ }, done (.heading version date))
    else (s, refuse .range .field) := by
  have hfields : (!(within 1 65535 version && inSpan date)) = true ↔
      ¬(1 ≤ version ∧ version ≤ 65535 ∧ inSpan date = true) := by
    rw [Bool.not_eq_true', ← Bool.not_eq_true, Bool.and_eq_true, within_iff, and_assoc]
  unfold tariffOpenRule
  simp only [hfields, ite_not]

section
variable {code dist : Nat} {name : Text} {side : Coded Direction} {d : Direction} {rules : Rules} {s : State}
  {p : PendingTariff}

theorem tariffStationRule_none (h : s.tfe.pending = none) :
    tariffStationRule code name dist side s = (s, refuse .notReady .none) := by
  simp only [tariffStationRule, h]

theorem tariffStationRule_ready (h : s.tfe.pending = some p) (hr : p.ready = true) :
    tariffStationRule code name dist side s = (s, refuse .busy .none) := by
  simp only [tariffStationRule, h, hr, if_true]

/-- For a tariff that is loading, the checks of a station in their order, and its place. -/
theorem tariffStationRule_loading (h : s.tfe.pending = some p) (hr : p.ready = false) :
    tariffStationRule code name dist (.named d) s =
      if stationInRange code name dist (.named d) = false then (s, refuse .range .field)
      else if ∃ x ∈ p.stations, x.code = code then (s, refuse .range .duplicate)
      else if 48 ≤ p.stations.length then (s, refuse .full .none)
      else
        ({ s with tfe.pending := some { p with
            stations := stationsBefore code p.stations ++ ⟨code, name, dist, d⟩ :: stationsAfter code p.stations } },
          done (.inserted (stationsBefore code p.stations).length (p.stations.length + 1))) := by
  have hany : (p.stations.any fun x => x.code == code) = true ↔ ∃ x ∈ p.stations, x.code = code := by simp
  simp only [tariffStationRule, h, hr, hany, insertStation_eq, stationCapacity, Bool.false_eq_true, if_false,
    Bool.not_eq_true']
  rfl

theorem tariffRulesRule_none (h : s.tfe.pending = none) : tariffRulesRule rules s = (s, refuse .notReady .none) := by
  simp only [tariffRulesRule, h]

theorem tariffRulesRule_ready (h : s.tfe.pending = some p) (hr : p.ready = true) :
    tariffRulesRule rules s = (s, refuse .busy .none) := by
  simp only [tariffRulesRule, h, hr, if_true]

theorem tariffRulesRule_refused {e : Detail} (h : s.tfe.pending = some p) (hr : p.ready = false)
    (he : rulesRefusal rules = some e) : tariffRulesRule rules s = (s, refuse .range e) := by
  simp only [tariffRulesRule, h, hr, he, Bool.false_eq_true, if_false]

theorem tariffRulesRule_accepted (h : s.tfe.pending = some p) (hr : p.ready = false) (he : rulesRefusal rules = none) :
    tariffRulesRule rules s = ({ s with tfe.pending := some { p with rules := some rules } }, done .nothing) := by
  simp only [tariffRulesRule, h, hr, he, Bool.false_eq_true, if_false]

end

/-- Settles O28: each request by the case of the pending tariff, a station by its checks and its place, and the checks of Table
4-6 one after another. -/
theorem tariffOpensAndLoads : Obligations.TariffOpensAndLoads := by
  refine ⟨fun version date s hl => ⟨fun h => ?_, fun h => ?_⟩,
    fun code name dist side rules s hl => ⟨fun hn => ?_, fun p hp => ?_⟩, stationInRange_iff, fun r => ?_⟩
  · exact does_of_rule hl rfl rfl rfl ((tariffOpenRule_eq version date _).trans (if_neg h))
  · exact does_of_rule hl rfl rfl rfl ((tariffOpenRule_eq version date _).trans (if_pos h))
  · have hw : (atOwner s).tfe.pending = none := by rw [atOwner_tfe, hn]
    exact ⟨does_of_rule hl rfl rfl rfl (tariffStationRule_none hw), does_of_rule hl rfl rfl rfl (tariffRulesRule_none hw)⟩
  · have hw : (atOwner s).tfe.pending = some p := by rw [atOwner_tfe, hp]
    have hstation (hr : p.ready = false) :=
      tariffStationRule_loading (code := code) (name := name) (dist := dist) (d := side) hw hr
    refine ⟨fun hr => ⟨?_, ?_⟩, fun hr hf => ?field, fun hr hf hd => ?duplicate, fun hr hf hd hfull => ?full,
      fun hr hf hd hfree => ?placed, fun hr => ⟨fun e he => ?refused, fun he => ?accepted⟩⟩
    · exact does_of_rule hl rfl rfl rfl (tariffStationRule_ready hw hr)
    · exact does_of_rule hl rfl rfl rfl (tariffRulesRule_ready hw hr)
    case field => exact does_of_rule hl rfl rfl rfl ((hstation hr).trans (if_pos hf))
    case duplicate =>
      exact does_of_rule hl rfl rfl rfl (by rw [hstation hr, if_neg (by simp [hf]), if_pos hd])
    case full =>
      have hnew : ¬∃ x ∈ p.stations, x.code = code := fun ⟨x, hx, hc⟩ => hd x hx hc
      exact does_of_rule hl rfl rfl rfl (by rw [hstation hr, if_neg (by simp [hf]), if_neg hnew, if_pos hfull])
    case placed =>
      have hnew : ¬∃ x ∈ p.stations, x.code = code := fun ⟨x, hx, hc⟩ => hd x hx hc
      refine ⟨stationsBefore code p.stations, stationsAfter code p.stations, (stationsBefore_append_stationsAfter _ _).symm,
        fun x => code_lt_of_mem_stationsBefore, fun x => le_code_of_head_stationsAfter, ?_⟩
      exact does_of_rule hl rfl rfl rfl (by rw [hstation hr, if_neg (by simp [hf]), if_neg hnew, if_neg (by omega)])
    case refused => exact does_of_rule hl rfl rfl rfl (tariffRulesRule_refused hw hr he)
    case accepted => exact does_of_rule hl rfl rfl rfl (tariffRulesRule_accepted hw hr he)
  · intro ranges limits windows
    rw [rulesRefusal_eq]
    refine ⟨fun hr => if_pos ?_, fun hr => ?_⟩
    · rwa [← Bool.not_eq_true, rulesInRange_iff]
    rw [if_neg (by simpa using (rulesInRange_iff r).mpr hr)]
    refine ⟨fun hl => if_pos hl, fun hl => ?_⟩
    rw [if_neg (not_not.mpr hl)]
    refine ⟨fun hf => if_pos hf, fun hf => ?_⟩
    rw [if_neg (Nat.not_lt.mpr hf)]
    refine ⟨fun hs => if_pos hs, fun hs => ?_⟩
    rw [if_neg (not_not.mpr hs)]
    refine ⟨fun hc => if_pos hc, fun hc => ?_⟩
    rw [if_neg (Nat.not_lt.mpr hc)]
    exact ⟨fun hw => if_pos hw, fun hw => if_neg (not_not.mpr hw)⟩

end Sys2Proof.Machine
end

section
/-! SUPPORT. The fare: its distance charge as a sum over the bands, its step, and what accepted rules make of its bounds; the
peak of a ticket (R65 to R71). -/

namespace Sys2Proof.Machine

/-! ### The stages (R66 to R70) -/

/-- From any lower edge, each band charges the part of the distance between the limit before it and its own (R66). -/
theorem distanceProduct_eq (d edge : Nat) (bands : List (Nat × Nat)) : distanceProduct d edge bands =
    ((bands.zip (edge :: bands.map (·.1))).map fun b => (min d b.1.1 - b.2) * b.1.2).sum := by
  induction bands generalizing edge with
  | nil => rfl
  | cons b l ih => simp [distanceProduct, ih]

/-- The base lies between floor and ceiling, the ceiling having the last word (R67). -/
theorem fareStages_base (r : Rules) (d : Nat) (k : TicketType) (c : ClassRule) (n pk : Nat) :
    let f := fareStages r d k c n pk
    f.base = min r.fMax (max r.fMin (r.boarding + f.charge)) ∧
      f.ceilingActed = decide (r.fMax < max r.fMin (r.boarding + f.charge)) := by
  intro f
  have hfloored : (if r.boarding + f.charge < r.fMin then r.fMin else r.boarding + f.charge) =
      max r.fMin (r.boarding + f.charge) := by split <;> omega
  refine ⟨?_, ?_⟩
  · change (if r.fMax < (if r.boarding + f.charge < r.fMin then r.fMin else r.boarding + f.charge) then r.fMax
      else if r.boarding + f.charge < r.fMin then r.fMin else r.boarding + f.charge) = _
    rw [hfloored]
    split <;> omega
  · exact congrArg (fun x => decide (r.fMax < x)) hfloored

/-- Stage 5 lands on a multiple of the step (R70). -/
theorem dvd_toStep (q t : Nat) : q ∣ toStep q t := by
  unfold toStep
  have hdown : q ∣ t - t % q := Nat.dvd_sub_mod t
  split
  · exact hdown
  · exact hdown.add (dvd_refl q)

/-- The zero raise as a proposition (R70). -/
theorem fareStages_raised (r : Rules) (d : Nat) (k : TicketType) (c : ClassRule) (n pk : Nat) :
    let f := fareStages r d k c n pk
    f.zeroRaised = decide (toStep r.step f.discounted = 0 ∧ c.discount < 100) ∧
      f.stepped = if toStep r.step f.discounted = 0 ∧ c.discount < 100 then r.step else toStep r.step f.discounted := by
  intro f
  have hraised : (toStep r.step f.discounted == 0 && decide (c.discount < 100)) =
      decide (toStep r.step f.discounted = 0 ∧ c.discount < 100) := by
    rw [Bool.decide_and, beq_eq_decide]
  refine ⟨hraised, ?_⟩
  change (if (toStep r.step f.discounted == 0 && decide (c.discount < 100)) = true then r.step
    else toStep r.step f.discounted) = _
  simp only [hraised, decide_eq_true_eq]

/-! ### The fare under accepted rules (R71) -/

section
variable (r : Rules) (d : Nat) (k : TicketType) (c : ClassRule) (n pk : Nat)

theorem fareStages_fare : (fareStages r d k c n pk).fare = min (fareStages r d k c n pk).stepped r.cMax := by
  change (if r.cMax < (fareStages r d k c n pk).stepped then r.cMax else (fareStages r d k c n pk).stepped) = _
  split <;> omega

theorem fareStages_total : (fareStages r d k c n pk).total = n * (fareStages r d k c n pk).fare := rfl

theorem step_dvd_stepped : r.step ∣ (fareStages r d k c n pk).stepped := by
  rw [(fareStages_raised r d k c n pk).2]
  split
  · exact dvd_refl _
  · exact dvd_toStep _ _

/-- A ceiling on the step keeps the fare on it. -/
theorem step_dvd_fare (h : r.cMax % r.step = 0) : r.step ∣ (fareStages r d k c n pk).fare := by
  rw [fareStages_fare]
  rcases min_choice (fareStages r d k c n pk).stepped r.cMax with hmin | hmin
  · rw [hmin]
    exact step_dvd_stepped r d k c n pk
  · rw [hmin]
    exact Nat.dvd_of_mod_eq_zero h

/-- Below a discount of 100 percent a fare of nothing is raised to the step. -/
theorem fareStages_pos (hs : 0 < r.step) (hm : 0 < r.cMax) (hc : c.discount < 100) :
    0 < (fareStages r d k c n pk).fare := by
  have hstepped : 0 < (fareStages r d k c n pk).stepped := by
    rw [(fareStages_raised r d k c n pk).2]
    split <;> omega
  rw [fareStages_fare]
  omega

end

/-! ### The peak (R65) -/

theorem ticketInPeak_iff (s : State) (r : Rules) (m : Nat) : ticketInPeak s r m = true ↔
    ∃ t w, s.tts.current = some t ∧ t.header.dayType = .weekday ∧ w ∈ r.windows ∧ w.1 ≤ m ∧ m < w.2 := by
  simp only [ticketInPeak, inWindows, Bool.and_eq_true, Option.any_eq_true, List.any_eq_true, decide_eq_true_eq,
    beq_iff_eq]
  constructor
  · rintro ⟨⟨t, ht, hday⟩, w, hw, hfrom, hto⟩
    exact ⟨t, w, ht, hday, hw, hfrom, hto⟩
  · rintro ⟨t, w, ht, hday, hw, hfrom, hto⟩
    exact ⟨⟨t, ht, hday⟩, w, hw, hfrom, hto⟩

/-- Settles O30: each stage by its lemma; under accepted rules the step divides ceiling and fare, and both are positive. -/
theorem fareOnTheStepUnderTheCeiling : Obligations.FareOnTheStepUnderTheCeiling := by
  refine ⟨fun r d k c n pk => ?stages, fun r d k c n pk h hn => ?bounds, ticketInPeak_iff⟩
  case stages =>
    obtain ⟨hbase, hceiling⟩ := fareStages_base r d k c n pk
    obtain ⟨hraised, hstepped⟩ := fareStages_raised r d k c n pk
    exact ⟨distanceProduct_eq d 0 r.bands, rfl, hbase, rfl, hceiling, by cases k <;> rfl, rfl, hstepped, hraised, rfl⟩
  case bounds =>
    intro f
    obtain ⟨hrange, -, -, hgrid, -, -⟩ := rulesRefusal_eq_none h
    obtain ⟨-, -, -, -, -, -, -, -, hpos, hmax, hstep, -⟩ := (rulesInRange_iff r).mp hrange
    have hstep : 0 < r.step := by
      simp only [List.mem_cons, List.not_mem_nil, or_false] at hstep
      omega
    have hfare : f.fare = min f.stepped r.cMax := fareStages_fare r d k c n pk
    have hle : f.fare ≤ 99990 := by omega
    have htotal : f.total = n * f.fare := fareStages_total r d k c n pk
    refine ⟨hfare, htotal, Nat.mod_eq_zero_of_dvd (step_dvd_fare r d k c n pk hgrid), by omega, fun hzero => ?_, hle, ?_⟩
    · by_contra hc
      exact absurd hzero (fareStages_pos r d k c n pk hstep hpos (not_le.mp hc)).ne'
    · calc f.total = n * f.fare := htotal
        _ ≤ 9 * 99990 := Nat.mul_le_mul hn hle

end Sys2Proof.Machine
end

section
/-! SUPPORT. TARIFF-CLOSE by the case of the pending tariff, and what an activation leaves of the slot and asks of the panels
(R59, R60, R121). -/

namespace Sys2Proof.Machine

/-! ### Activation (R60) -/

/-- The names event queues the panels that it wants refreshed. -/
theorem queued_namesEvent {s : State} {k : PanelKind}
    (hk : ∀ p : Profile, p.kind = k → wantTables (!s.bdc.auto.isEmpty) p = some false) : Queued k (namesEvent s) := by
  intro a hp ha
  rw [(reacted_namesEvent s).profiles] at hp ha
  exact mem_waitingPanels.mp (mem_waitingPanels_requestEach hp (hk _ ha))

/-- No quote stands after a withdrawal. -/
theorem slotState_withdraw_ne_quoted (why : Withdrawal) (s : State) : slotState (withdraw why s).slc.slot ≠ .quoted := by
  cases hs : s.slc.slot with
  | quoted q left =>
    rw [withdraw_quoted why hs]
    nofun
  | idle =>
    rw [withdraw_unquoted why (by rw [hs]; nofun), hs]
    nofun
  | printing x left =>
    rw [withdraw_unquoted why (by rw [hs]; nofun), hs]
    nofun

/-- A reaction forms no quote. -/
theorem Reacted.unquoted {s t : State} (h : Reacted s t) (hs : slotState s.slc.slot ≠ .quoted) :
    slotState t.slc.slot ≠ .quoted := by
  obtain ⟨hslot, -⟩ | ⟨hquoted, -⟩ := h.slot
  · rwa [hslot]
  · exact absurd hquoted hs

/-- The state in which the names event of an activation is taken. -/
def tariffTaken (t : Tariff) (s : State) : State :=
  decideSales (withdraw .tariff { s with tfe.active := some t, tfe.pending := none })

theorem activate_eq (t : Tariff) (s : State) : activate t s = namesEvent (tariffTaken t s) := rfl

theorem reacted_tariffTaken (t : Tariff) (s : State) :
    Reacted { s with tfe.active := some t, tfe.pending := none } (tariffTaken t s) :=
  (reacted_withdraw _ _).trans (reacted_decideSales _)

theorem reacted_activate (t : Tariff) (s : State) :
    Reacted { s with tfe.active := some t, tfe.pending := none } (activate t s) :=
  (reacted_tariffTaken t s).trans (reacted_namesEvent _)

theorem activate_unquoted (t : Tariff) (s : State) : slotState (activate t s).slc.slot ≠ .quoted :=
  ((reacted_decideSales _).trans (reacted_namesEvent _)).unquoted (slotState_withdraw_ne_quoted _ _)

theorem queued_activate_departures (t : Tariff) (s : State) : Queued .departures (activate t s) :=
  queued_namesEvent fun p hp => by simp only [wantTables, hp]

theorem queued_activate_messages (t : Tariff) {s : State} (h : s.bdc.auto ≠ []) : Queued .messages (activate t s) := by
  have hne : (tariffTaken t s).bdc.auto ≠ [] := by rwa [(reacted_tariffTaken t s).auto]
  rw [activate_eq]
  exact queued_namesEvent fun p hp => by simp [wantTables, hp, hne]

/-! ### TARIFF-CLOSE (R59) -/

section
variable {s : State} {p : PendingTariff}

theorem tariffCloseRule_none (h : s.tfe.pending = none) : tariffCloseRule s = (s, refuse .notReady .none) := by
  simp only [tariffCloseRule, h]

theorem tariffCloseRule_noStations (h : s.tfe.pending = some p) (hs : p.stations = []) :
    tariffCloseRule s = (s, refuse .notReady .stations) := by
  simp only [tariffCloseRule, h, hs, List.isEmpty_nil, if_true]

variable (h : s.tfe.pending = some p) (hs : p.stations ≠ [])
include h hs

theorem tariffCloseRule_noRules (hr : p.rules = none) : tariffCloseRule s = (s, refuse .notReady .rules) := by
  simp only [tariffCloseRule, h, List.isEmpty_eq_false_iff.mpr hs, pendingTariff, hr, Option.map_none, Bool.false_eq_true,
    if_false]

/-- A complete tariff is active at once where its date has come, else READY. -/
theorem tariffCloseRule_complete {r : Rules} (hr : p.rules = some r) : tariffCloseRule s =
    if ∃ c, s.clock = some c ∧ dateBefore c.date p.effective = false then
      (activate ⟨p.version, p.effective, p.stations, r⟩ s, done (.tariffClosed true p.version none p.stations.length))
    else
      ({ s with tfe.pending := some { p with ready := true } },
        done (.tariffClosed false p.version (some p.effective) p.stations.length)) := by
  have hdue : (s.clock.any fun c => dateUpTo p.effective c.date) = true ↔
      ∃ c, s.clock = some c ∧ dateBefore c.date p.effective = false := by
    simp only [Option.any_eq_true, dateUpTo, Bool.not_eq_true']
  simp only [tariffCloseRule, h, List.isEmpty_eq_false_iff.mpr hs, pendingTariff, hr, Option.map_some, Bool.false_eq_true,
    if_false, hdue]

end

/-- Settles O29: the refusals, then a complete tariff by whether its date has come; what its activation leaves is what its
events do. -/
theorem tariffClosesAndActivates : Obligations.TariffClosesAndActivates := by
  intro s hl w
  refine ⟨fun hn => ?none, fun p hp => ?_⟩
  case none => exact does_of_rule hl rfl rfl rfl (tariffCloseRule_none (by rw [atOwner_tfe, hn]))
  have hw : w.tfe.pending = some p := by rw [atOwner_tfe, hp]
  refine ⟨fun hs => ?noStations, fun hs hr => ?noRules, fun r hs hr => ⟨fun hc => ?ready, fun c hc hd => ?active⟩⟩
  case noStations => exact does_of_rule hl rfl rfl rfl (tariffCloseRule_noStations hw hs)
  case noRules => exact does_of_rule hl rfl rfl rfl (tariffCloseRule_noRules hw hs hr)
  case ready =>
    have hnot : ¬∃ c, w.clock = some c ∧ dateBefore c.date p.effective = false := by
      rintro ⟨c, hclock, hdate⟩
      rw [hc c (by rwa [atOwner_clock] at hclock)] at hdate
      cases hdate
    exact does_of_rule hl rfl rfl rfl ((tariffCloseRule_complete hw hs hr).trans (if_neg hnot))
  case active =>
    intro u
    have hclock : w.clock = some c := by rw [atOwner_clock, hc]
    have hu := reacted_activate ⟨p.version, p.effective, p.stations, r⟩ w
    exact ⟨does_of_rule hl rfl rfl rfl ((tariffCloseRule_complete hw hs hr).trans (if_pos ⟨c, hclock, hd⟩)),
      queued_activate_departures _ w, queued_activate_messages _, hu.tfe, activate_unquoted _ w,
      hu.clock.trans (atOwner_clock s), hu.tts.trans (atOwner_tts s), hu.sjn.trans (atOwner_sjn s)⟩

end Sys2Proof.Machine
end

section
/-! SUPPORT. SALE-QUOTE: the ranges of its fields, its checks one after another, the binding and the quote (R76, R77). -/

namespace Sys2Proof.Machine

/-! ### The checks (R76, R87) -/

theorem quoteInRange_iff (code cls n : Nat) (k : Coded TicketType) (sel : Coded ServiceSel) (svc : Option Nat) :
    quoteInRange code k cls n sel svc = true ↔ 1 ≤ code ∧ code ≤ 63 ∧ (∃ x, k = .named x) ∧ cls ≤ 7 ∧ 1 ≤ n ∧ n ≤ 9 ∧
      (∃ x, sel = .named x) ∧ (sel = .named .number → ∃ m, svc = some m ∧ 1 ≤ m ∧ m ≤ 9999) := by
  cases sel with
  | other code => simp [quoteInRange]
  | named x =>
    cases x with
    | number => simp [quoteInRange, codedValue_isSome_iff, Option.any_eq_true, and_assoc]
    | next => simp [quoteInRange, codedValue_isSome_iff, and_assoc]
    | openTicket => simp [quoteInRange, codedValue_isSome_iff, and_assoc]

/-- The open selector goes with the open types alone. -/
theorem selectorFits_iff (sel : ServiceSel) (k : TicketType) :
    selectorFits sel k = true ↔ (sel = .openTicket ↔ (k = .openSingle ∨ k = .openReturn)) := by
  cases sel <;> cases k <;> decide

theorem selectorFits_eq_false_iff (sel : ServiceSel) (k : TicketType) :
    selectorFits sel k = false ↔ (sel ≠ .openTicket ↔ (k = .openSingle ∨ k = .openReturn)) := by
  rw [← Bool.not_eq_true, selectorFits_iff, not_iff]

/-- With sales open there is an active tariff. -/
theorem exists_active_of_salesOpen {s : State} (h : salesOpen s = true) : ∃ t, s.tfe.active = some t := by
  rw [salesOpen, List.isEmpty_iff, salesReasons, List.filter_eq_nil_iff] at h
  have htariff : ¬s.tfe.active.isNone = true := h .tariff (by simp)
  cases ha : s.tfe.active with
  | none => exact absurd (by rw [ha]; rfl) htariff
  | some t => exact ⟨t, rfl⟩

/-- A class has a rule where it is class 0 or in use (R54). -/
theorem classRule_eq_none_of {q : Rules} {cls : Nat}
    (h : ∀ c, ¬((cls = 0 ∧ c = ⟨0, false⟩) ∨ (0 < cls ∧ q.classes[cls - 1]? = some (some c)))) : classRule q cls = none := by
  have h0 : 0 < cls := Nat.pos_of_ne_zero fun hz => h ⟨0, false⟩ (.inl ⟨hz, rfl⟩)
  exact classRule_eq_none h0 fun c hc => h c (.inr ⟨h0, hc⟩)

section
variable {code cls n : Nat} {k : TicketType} {sel : ServiceSel} {svc : Option Nat} {s : State} {t : Tariff}

theorem saleQuoteRule_range (h : quoteInRange code (.named k) cls n (.named sel) svc = false) :
    saleQuoteRule code (.named k) cls n (.named sel) svc s = (s, refuse .range .field) := by
  simp only [saleQuoteRule, h, Bool.not_false, if_true]

theorem saleQuoteRule_closed (h : quoteInRange code (.named k) cls n (.named sel) svc = true) (ho : salesOpen s = false) :
    saleQuoteRule code (.named k) cls n (.named sel) svc s = (s, ⟨.closed, .none, .reasons (salesReasons s)⟩) := by
  simp only [saleQuoteRule, h, ho, Bool.not_true, Bool.not_false, Bool.false_eq_true, if_false, if_true]
  cases s.tfe.active <;> rfl

/-- With sales open, the checks before those of the tariff, in their order. -/
theorem saleQuoteRule_open (h : quoteInRange code (.named k) cls n (.named sel) svc = true) (ho : salesOpen s = true)
    (ht : s.tfe.active = some t) : saleQuoteRule code (.named k) cls n (.named sel) svc s =
      if slotState s.slc.slot = .printing then (s, refuse .busy .none)
      else if s.slc.types.get k = false then (s, refuse .range .ticketType)
      else if selectorFits sel k = false then (s, refuse .range .binding)
      else quoteFrom t code k cls n sel svc s := by
  simp only [saleQuoteRule, h, ho, ht, Bool.not_true, Bool.false_eq_true, if_false, Bool.not_eq_true']

/-! ### The tariff's checks and the binding (R76, R77) -/

/-- What SALE-QUOTE makes of a binding (R77). -/
def quoteBinding (t : Tariff) (code : Nat) (k : TicketType) (cls n : Nat) (s : State) : Binding → State × Answer
  | .unknown => (s, refuse .unknown .service)
  | .noneLeft => (s, refuse .noneLeft .none)
  | .unbound => quoteBound t code k cls n none s
  | .service v => quoteBound t code k cls n (some v) s

theorem quoteFrom_noStation (h : ∀ x ∈ t.stations, x.code ≠ code) :
    quoteFrom t code k cls n sel svc s = (s, refuse .unknown .station) := by
  have hany : (t.stations.any fun x => x.code == code) = false := by simpa using h
  simp only [quoteFrom, hany, Bool.not_false, if_true]

variable (hx : ∃ x ∈ t.stations, x.code = code)
include hx

theorem quoteFrom_noClass (hc : classRule t.rules cls = none) :
    quoteFrom t code k cls n sel svc s = (s, refuse .range .cls) := by
  have hany : (t.stations.any fun x => x.code == code) = true := by simpa using hx
  simp only [quoteFrom, hany, hc, Option.isNone_none, Bool.not_true, Bool.false_eq_true, if_false, if_true]

/-- With station and class found, what the binding comes to. -/
theorem quoteFrom_known {c : ClassRule} (hc : classRule t.rules cls = some c) : quoteFrom t code k cls n sel svc s =
    quoteBinding t code k cls n s (bindService sel svc code s) := by
  have hany : (t.stations.any fun x => x.code == code) = true := by simpa using hx
  simp only [quoteFrom, hany, hc, Option.isNone_some, Bool.not_true, Bool.false_eq_true, if_false]
  cases bindService sel svc code s <;> rfl

/-- A quote is formed for every binding that the selector comes to. -/
theorem quoteFrom_bound {c : ClassRule} {b : Option Service} (hc : classRule t.rules cls = some c)
    (hb : (sel = .openTicket ∧ b = none) ∨ (sel = .next ∧ b.isSome ∧ nextService code s = b) ∨
      (sel = .number ∧ ∃ m v, svc = some m ∧ b = some v ∧ namedService m code s = .found v)) :
    quoteFrom t code k cls n sel svc s = quoteBound t code k cls n b s := by
  rw [quoteFrom_known hx hc]
  obtain ⟨rfl, rfl⟩ | ⟨rfl, hsome, hnext⟩ | ⟨rfl, m, v, rfl, rfl, hnamed⟩ := hb
  · rfl
  · obtain ⟨v, rfl⟩ := Option.isSome_iff_exists.mp hsome
    simp only [bindService, hnext, Option.elim_some, quoteBinding]
  · simp only [bindService, Option.getD_some, hnamed, quoteBinding]

theorem quoteFrom_noneNext {c : ClassRule} (hc : classRule t.rules cls = some c) (hn : nextService code s = none) :
    quoteFrom t code k cls n .next svc s = (s, refuse .noneLeft .none) := by
  simp only [quoteFrom_known hx hc, bindService, hn, Option.elim_none, quoteBinding]

theorem quoteFrom_noneNamed {c : ClassRule} {m : Nat} (hc : classRule t.rules cls = some c)
    (hn : namedService m code s = .noneLeft) :
    quoteFrom t code k cls n .number (some m) s = (s, refuse .noneLeft .none) := by
  simp only [quoteFrom_known hx hc, bindService, Option.getD_some, hn, quoteBinding]

theorem quoteFrom_unknown {c : ClassRule} {m : Nat} (hc : classRule t.rules cls = some c)
    (hn : namedService m code s = .unknown) :
    quoteFrom t code k cls n .number (some m) s = (s, refuse .unknown .service) := by
  simp only [quoteFrom_known hx hc, bindService, Option.getD_some, hn, quoteBinding]

end

/-! ### The quote (R77, R166) -/

/-- A quote holds the demand timer, which a quote that it replaces holds already. -/
theorem putSlot_quoted (q : Quote) (left : Nat) (s : State) : putSlot (.quoted q left) s =
    { s with slc.slot := .quoted q left, awu.timer := if s.slc.slot = .idle then .held else s.awu.timer } := by
  cases hs : s.slc.slot <;> simp [putSlot, hs, slotState]

/-- The fare is worked at the minute of the bound service, or at the present one. -/
theorem quoteBound_quoted {t : Tariff} {code cls n : Nat} {k : TicketType} {s : State} {c : ClockSetting} {x : Station}
    {rule : ClassRule} (hx : t.stations.find? (fun y => y.code == code) = some x) (hr : classRule t.rules cls = some rule)
    (hc : s.clock = some c) (b : Option Service) :
    let peak := ticketInPeak s t.rules (b.elim (c.tod / 60) fun v => v.plan.minute) && !rule.exempt
    let f := fareStages t.rules x.distance k rule n (if peak then t.rules.surcharge else 0)
    let q : Quote := ⟨code, x.name, x.side, k, cls, n, b.map fun v => ⟨v.plan.number, v.plan.minute⟩, f.fare, f.total,
      peak, t.version⟩
    quoteBound t code k cls n b s =
      ({ s with slc.slot := .quoted q 120000, awu.timer := if s.slc.slot = .idle then .held else s.awu.timer },
        done (.quoted q 120 (b.map fun v => (v.plan.minute + v.delay, v.platform)))) := by
  intro peak f q
  rw [← putSlot_quoted]
  simp only [quoteBound, nowMinute_set hc, Option.getD_some, workFare_worked hx hr]
  rfl

/-- Settles O31: the checks in their order, then the quote for the service that the selector binds. -/
theorem quotesWhileOpenOnly : Obligations.QuotesWhileOpenOnly := by
  refine ⟨fun code cls n k sel svc s hl => ⟨fun h => ?range, fun h ho => ?closed⟩,
    fun code cls n k sel svc s hl => ?_, quoteInRange_iff⟩
  case range => exact does_of_saleRule hl rfl rfl rfl (saleQuoteRule_range h)
  case closed => exact does_of_saleRule hl rfl rfl rfl (saleQuoteRule_closed h ho)
  intro w ask h ho
  have htypes : w.slc.types = s.slc.types := atSales_slc_types s
  obtain ⟨t₀, ht₀⟩ := exists_active_of_salesOpen ho
  have hopen := saleQuoteRule_open h ho ht₀
  rw [htypes] at hopen
  refine ⟨fun hprint => ?busy, fun hfree htype => ?type, fun hfree htype hsel => ?binding,
    fun t c ht hc hfree htype hsel => ?_⟩
  case busy => exact does_of_saleRule hl rfl rfl rfl (hopen.trans (if_pos hprint))
  case type => exact does_of_saleRule hl rfl rfl rfl (by rw [hopen, if_neg hfree, if_pos htype])
  case binding =>
    have hmisfit := (selectorFits_eq_false_iff sel k).mpr hsel
    exact does_of_saleRule hl rfl rfl rfl (by rw [hopen, if_neg hfree, if_neg (by simp [htype]), if_pos hmisfit])
  have hactive : t₀ = t := by
    rw [atSales_tfe, ht] at ht₀
    exact (Option.some.inj ht₀).symm
  subst hactive
  have hfits := (selectorFits_iff sel k).mpr hsel
  rw [if_neg hfree, if_neg (by simp [htype]), if_neg (by simp [hfits])] at hopen
  have hclock : w.clock = some c := by rw [atSales_clock, hc]
  refine ⟨fun hno => ?station, fun hx hno => ?unused, fun x rule hx hrule => ?_⟩
  case station => exact does_of_saleRule hl rfl rfl rfl (hopen.trans (quoteFrom_noStation hno))
  case unused => exact does_of_saleRule hl rfl rfl rfl (hopen.trans (quoteFrom_noClass hx (classRule_eq_none_of hno)))
  have hknown : ∃ y ∈ t₀.stations, y.code = code :=
    ⟨x, List.mem_of_find?_eq_some hx, by simpa using List.find?_some hx⟩
  have hr := classRule_eq_some hrule
  refine ⟨fun hs hn => ?noneNext, fun m hs hm => ⟨fun hn => ?unknown, fun hn => ?noneNamed⟩, fun b hb => ?quoted⟩
  case noneNext =>
    subst hs
    exact does_of_saleRule hl rfl rfl rfl (hopen.trans (quoteFrom_noneNext hknown hr hn))
  case unknown =>
    subst hs hm
    exact does_of_saleRule hl rfl rfl rfl (hopen.trans (quoteFrom_unknown hknown hr hn))
  case noneNamed =>
    subst hs hm
    exact does_of_saleRule hl rfl rfl rfl (hopen.trans (quoteFrom_noneNamed hknown hr hn))
  case quoted =>
    exact does_of_saleRule hl rfl rfl rfl
      ((hopen.trans (quoteFrom_bound hknown hr hb)).trans (quoteBound_quoted hx hr hclock b))

end Sys2Proof.Machine
end

section
/-! SUPPORT. The sale slot of a resting part (R89): what the invariant speaks of, the operations that leave it alone, and those
that start or complete a transition. -/

namespace Sys2Proof.Machine

/-! ### What the invariant speaks of -/

/-- The supply, the sale slot, the present level and the transition. -/
def standing (s : State) : Power × Slot × Level × Transition := (s.power, s.slc.slot, s.enm.present, s.enm.transition)

/-- The slot of a resting part is IDLE after if it was before. -/
def Rests (s t : State) : Prop := RestingSlot s → RestingSlot t

theorem Rests.refl (s : State) : Rests s s := id

theorem Rests.trans {s t u : State} (h : Rests s t) (k : Rests t u) : Rests s u := k ∘ h

/-- A step that follows one. -/
theorem Rests.after {s t u : State} (k : Rests t u) (h : Rests s t) : Rests s u := h.trans k

theorem Rests.foldl {α : Type} {f : State → α → State} (hf : ∀ s a, Rests s (f s a)) (l : List α) (s : State) :
    Rests s (l.foldl f s) := by
  induction l generalizing s with
  | nil => exact .refl s
  | cons a l ih => exact (hf s a).trans (ih _)

/-- The invariant speaks of nothing else. -/
theorem Rests.of_standing {s t : State} (h : standing t = standing s) : Rests s t := by
  simp only [standing, Prod.mk.injEq] at h
  obtain ⟨hpower, hslot, hpresent, htransition⟩ := h
  unfold Rests RestingSlot RaiseRises
  rw [hpower, hslot, hpresent, htransition]
  exact id

/-- With the slot IDLE the invariant asks of a raise alone. -/
theorem restingSlot_of_idle {s : State} (hr : RaiseRises s) (hs : s.slc.slot = .idle) : RestingSlot s :=
  ⟨hr, fun _ => ⟨fun _ => hs, fun _ _ _ => by rw [hs]; nofun⟩⟩

/-! ### Operations that leave all of it alone -/

theorem standing_requestRefresh (urgent : Bool) (s : State) (a : Addr) :
    standing (requestRefresh urgent s a) = standing s := by rw [requestRefresh_state]; rfl

theorem standing_requestEach (want : Profile → Option Bool) (s : State) : standing (requestEach want s) = standing s := by
  rw [requestEach_state]; rfl

theorem standing_decideSales (s : State) : standing (decideSales s) = standing s := by
  rw [(shifted_decideSales s).state, enm_decideSales]; rfl

theorem standing_followRailMode (s : State) : standing (followRailMode s) = standing s := by
  unfold followRailMode
  dsimp only
  split
  · rfl
  · split <;> rfl

theorem standing_restartDemandTimer (s : State) : standing (restartDemandTimer s) = standing s := by
  unfold restartDemandTimer
  split <;> rfl

theorem standing_dormantCredit (l : Level) (s : State) : standing (dormantCredit l s) = standing s := by
  unfold dormantCredit
  split <;> rfl

theorem standing_followRotation (s : State) : standing (followRotation s) = standing s := by
  unfold followRotation
  split <;> rfl

theorem standing_beginTransaction (a : Addr) (w : Work) (p : LinePhase) (s : State) :
    standing (beginTransaction a w p s) = standing s := by
  unfold beginTransaction
  dsimp only
  split
  · rfl
  · split <;> rfl

theorem standing_endTransaction (s : State) : standing (endTransaction s) = standing s := by
  unfold endTransaction
  dsimp only
  split
  · rfl
  · split <;> rfl
  · rfl

theorem standing_startProbe (a : Addr) (s : State) : standing (startProbe a s) = standing s :=
  standing_beginTransaction _ _ _ _

theorem standing_startRefresh (a : Addr) (p : Page) (s : State) : standing (startRefresh a p s) = standing s := by
  unfold startRefresh
  dsimp only
  split
  · rfl
  · exact standing_beginTransaction _ _ _ _

theorem standing_serve (a : Addr) (s : State) : standing (serve a s) = standing s := by
  have hs : standing (if (s.bdc.profiles.get a).kind = .messages then settlePosition s else s) = standing s := by
    split <;> rfl
  unfold serve
  dsimp only
  generalize (if (s.bdc.profiles.get a).kind = .messages then settlePosition s else s) = u at hs ⊢
  split
  · exact hs
  · exact (standing_startRefresh _ _ _).trans hs

/-! ### The slot, the target and the start of a transition -/

theorem enm_withdraw (why : Withdrawal) (s : State) : (withdraw why s).enm = s.enm := by
  unfold withdraw putSlot
  split
  · split <;> rfl
  · rfl

theorem rests_withdraw (why : Withdrawal) (s : State) : Rests s (withdraw why s) := by
  cases hs : s.slc.slot with
  | quoted q left =>
    rw [withdraw_quoted why hs]
    exact fun h => restingSlot_of_idle h.1 rfl
  | idle =>
    rw [withdraw_of_idle hs]
    exact .refl s
  | printing x left =>
    rw [withdraw_unquoted why (by rw [hs]; nofun)]
    exact .refl s

theorem rests_startRaise {d : Level} {s : State} (h : levelRank d < levelRank s.enm.present) :
    Rests s (startRaise d s) := by
  refine Rests.after (.of_standing (standing_followRailMode _)) fun hs => ⟨fun x n hx => ?_, fun hp => ⟨(hs.2 hp).1, nofun⟩⟩
  cases hx
  exact h

/-- A lowering toward EL4 or EL5 withdraws the quote as it starts (R89, R158). -/
theorem rests_startLowering (d : Level) (s : State) : Rests s (startLowering d s) := by
  intro hs
  have hpower := (reacted_startLowering d s).power
  have hpresent := (stirred_startLowering d s).present
  have hslot := (reacted_startLowering d s).slot
  unfold startLowering at hpower hpresent hslot ⊢
  dsimp only at hpower hpresent hslot ⊢
  split
  next hrest =>
    rw [if_pos hrest] at hpower hpresent hslot
    have htransition : (withdraw .level (decideSales { s with enm.transition := .lowering d })).enm.transition = .lowering d := by
      rw [enm_withdraw, enm_decideSales]
    refine ⟨fun x n hx => ?_, fun hp => ⟨fun hr => ?_, fun _ _ _ => slotState_withdraw_ne_quoted _ _⟩⟩
    · rw [htransition] at hx
      cases hx
    · rw [hpower] at hp
      rw [hpresent] at hr
      obtain ⟨hsame, -⟩ | ⟨-, hidle⟩ := hslot
      · exact hsame.trans ((hs.2 hp).1 hr)
      · exact hidle
  next hrest =>
    refine ⟨nofun, fun hp => ⟨(hs.2 hp).1, fun x hx hr => ?_⟩⟩
    cases hx
    exact absurd hr hrest

theorem rests_retarget (s : State) : Rests s (retarget s) := by
  unfold retarget
  dsimp only
  split
  · split
    · exact .refl s
    · split
      next h => exact rests_startRaise (s := { s with enm.target := computeTarget s }) h
      next => exact rests_startLowering _ { s with enm.target := computeTarget s }
  · exact .refl s

/-! ### Brief episodes, activity and wakes -/

theorem rests_endBrief (s : State) : Rests s (endBrief s) :=
  (rests_retarget _).after (.of_standing (standing_followRailMode _))

theorem rests_judgeBriefStart (s : State) : Rests s (judgeBriefStart s) := by
  unfold judgeBriefStart startBrief
  split
  · exact (rests_retarget _).after (.of_standing (standing_followRailMode _))
  · exact .refl s

theorem rests_activity (s : State) : Rests s (activity s) := by
  have h : Rests s (restartDemandTimer { s with awu.demand := s.enm.effective }) :=
    .of_standing (standing_restartDemandTimer _)
  unfold activity
  dsimp only
  split
  · exact (rests_endBrief _).after h
  · exact (rests_retarget _).after h

theorem rests_wake (src : WokeSource) (e : Option Edge) (s : State) : Rests s (wake src e s) := by
  rw [wake_eq]
  unfold woken
  rw [← activity_eq]
  exact (rests_activity s).trans (.of_standing rfl)

theorem rests_internalEvent (flag : Bool) (src : WokeSource) (s : State) : Rests s (internalEvent flag src s) := by
  unfold internalEvent
  split
  · exact rests_wake _ _ s
  · exact .refl s

/-! ### The end of a transition, and the reactions -/

/-- A completion leaves a resting part with an IDLE slot where the slot was IDLE at a resting destination. -/
theorem restingSlot_completeAt {d : Level} {s : State}
    (h : s.power = .on → resting d = true → s.slc.slot = .idle) : RestingSlot (completeAt d s) := by
  have hc : RestingSlot (raiseNotice .levelChanged (decideSales (dormantCredit s.enm.present (takeLoadSettings
      { s with enm.present := d, enm.previous := some s.enm.present, enm.transition := .none })))) :=
    Rests.of_standing ((standing_decideSales _).trans (standing_dormantCredit _ _))
      (show RestingSlot { s with enm.present := d, enm.previous := some s.enm.present, enm.transition := .none } from
        ⟨nofun, fun hp => ⟨h hp, nofun⟩⟩)
  unfold completeAt
  dsimp only
  split
  · exact rests_retarget _ (rests_judgeBriefStart _ hc)
  · exact rests_retarget _ hc

/-- A raise leads to EL4 from EL5 alone (R157). -/
theorem rests_raiseSettled (s : State) : Rests s (raiseSettled s) := by
  unfold raiseSettled
  split
  next d n ht =>
    intro hs
    refine restingSlot_completeAt fun hp hd => (hs.2 hp).1 ?_
    have hlt := hs.1 d n ht
    cases hpres : s.enm.present <;> cases d <;> simp_all [levelRank, resting]
  next => exact .refl s

/-- A drained lowering toward EL4 or EL5 finds the slot IDLE: QUOTED it is not, and PRINTING holds the drain (R89, R159). -/
theorem rests_completeLowering {d : Level} {s : State} (h : drainReady s = some d) : Rests s (completeLowering d s) := by
  obtain ⟨x, hx, hd⟩ := Option.bind_eq_some_iff.mp h
  split at hd
  next hdrained =>
    cases hd
    have ht : s.enm.transition = .lowering d := by
      unfold loweringTo at hx
      split at hx
      next y hy => rw [hy, Option.some.inj hx]
      next => cases hx
    intro hs
    have hsame := standing_followRailMode { s with enm.draw := (levelEntry s d).draw, plc.railLevel := d }
    simp only [standing, Prod.mk.injEq] at hsame
    refine restingSlot_completeAt fun hp hrest => ?_
    rw [hsame.1] at hp
    rw [hsame.2.1]
    have hquoted := (hs.2 hp).2 d ht hrest
    cases hslot : s.slc.slot with
    | idle => rfl
    | quoted q left => exact absurd (by rw [hslot]; rfl) hquoted
    | printing y left => simp [drained, hslot, slotState, hrest] at hdrained
  next => cases hd

theorem rests_setCold (l : Option Level) (s : State) : Rests s (setCold l s) := by
  unfold setCold
  split
  · exact .refl s
  · exact (rests_retarget _).after (.of_standing rfl)

theorem rests_reportUrgent (s : State) : Rests s (reportUrgent s) := by
  have h : Rests s { s with awu.urgent := urgentWaiting s } := .of_standing rfl
  unfold reportUrgent
  dsimp only
  split
  · exact (rests_judgeBriefStart _).after h
  · exact h

theorem rests_react {s t : State} (h : react s = some t) : Rests s t := by
  unfold react at h
  split at h
  · cases h; exact rests_reportUrgent s
  split at h
  · cases h; exact (rests_setCold _ _).after (.of_standing rfl)
  split at h
  · cases h; exact .of_standing (standing_startProbe _ s)
  · cases h; exact .of_standing (standing_serve _ s)
  · split at h
    · cases h; exact rests_endBrief s
    · obtain ⟨d, hd, rfl⟩ := Option.map_eq_some_iff.mp h
      exact rests_completeLowering hd

theorem rests_settle (s : State) : Rests s (settle s) := by
  have hloop : ∀ n s, Rests s (settleLoop n s) := by
    intro n
    induction n with
    | zero => exact Rests.refl
    | succ n ih =>
      intro s
      unfold settleLoop
      cases h : react s with
      | none => exact .refl s
      | some t => exact (rests_react h).trans (ih t)
  exact (hloop _ s).trans (.of_standing (standing_followRotation _))

end Sys2Proof.Machine
end

section
/-! SUPPORT. The operations of the boards, of the panel line and of the requests that load, configure and read, which leave supply,
slot, present level and transition alone. -/

namespace Sys2Proof.Machine

/-! ### Message lists and refreshes -/

theorem standing_keepMessages (f : HostEntry → Bool) (g : AutoEntry → Bool) (s : State) :
    standing (keepMessages f g s) = standing s := by
  unfold keepMessages clearPosition
  split <;> rfl

theorem standing_removeHost (f : HostEntry → Bool) (s : State) : standing (removeHost f s) = standing s := by
  unfold removeHost
  dsimp only
  split
  · exact (standing_requestEach _ _).trans (standing_keepMessages _ _ s)
  · exact standing_keepMessages _ _ s

theorem standing_tableEvent (s : State) : standing (tableEvent s) = standing s :=
  (standing_keepMessages _ _ _).trans (standing_requestEach _ s)

theorem standing_boardsRollover (s : State) : standing (boardsRollover s) = standing s :=
  (standing_requestEach _ _).trans (standing_keepMessages _ _ s)

theorem standing_changeEvent (old new : Service) (s : State) (c : ChangeCause) :
    standing (changeEvent old new s c) = standing s := by
  cases c
  case cancel =>
    unfold changeEvent
    dsimp only
    split <;> exact standing_requestEach _ _
  case reinstate => exact (standing_requestEach _ _).trans (standing_keepMessages _ _ s)
  all_goals exact standing_requestEach _ s

theorem standing_offerSold (date : Date) (number quantity : Nat) (s : State) :
    standing (offerSold date number quantity s) = standing s := by rw [offerSold_state]; rfl

/-! ### The panel line -/

theorem standing_failAttempt (silent : Bool) (t : Transaction) (s : State) :
    standing (failAttempt silent t s) = standing s := by
  unfold failAttempt
  dsimp only
  split
  · rfl
  · split
    · exact standing_endTransaction _
    · exact (standing_requestRefresh _ _ _).trans (standing_endTransaction _)

theorem standing_probeAgain (silent : Bool) (t : Transaction) (r : Refresh) (left : Nat) (s : State) :
    standing (probeAgain silent t r left s) = standing s := by
  unfold probeAgain
  split
  · rfl
  · exact standing_failAttempt _ _ _

theorem standing_takeShow (t : Transaction) (r : Refresh) (s : State) : standing (takeShow t r s) = standing s := by
  unfold takeShow
  dsimp only
  split <;> rfl

theorem standing_takeDrawingState (t : Transaction) (r : Refresh) (left : Nat) (toggle busy : Bool) (s : State) :
    standing (takeDrawingState t r left toggle busy s) = standing s := by
  unfold takeDrawingState
  dsimp only
  split
  · exact standing_probeAgain _ _ _ _ s
  · split
    · exact standing_endTransaction _
    · exact standing_failAttempt _ _ _

theorem standing_resynchronise (a : Addr) (toggle : Bool) (t : Int) (s : State) :
    standing (resynchronise a toggle t s) = standing s := by
  unfold resynchronise
  dsimp only
  split <;> split
  · exact (standing_requestRefresh _ _ _).trans (standing_endTransaction _)
  · exact standing_endTransaction _
  · exact (standing_requestRefresh _ _ _).trans (standing_endTransaction _)
  · exact standing_endTransaction _

theorem standing_takeProbeState (a : Addr) (toggle : Bool) (t : Int) (s : State) :
    standing (takeProbeState a toggle t s) = standing s := by
  unfold takeProbeState
  split
  · exact standing_resynchronise a toggle t s
  · exact standing_resynchronise a toggle t s
  · unfold takeColdState
    dsimp only
    split
    · exact (standing_requestRefresh _ _ _).trans (standing_endTransaction _)
    · exact standing_endTransaction _
  · exact standing_endTransaction s

theorem standing_applyAnswer (t : Transaction) (answer : PanelAnswer) (s : State) :
    standing (applyAnswer t answer s) = standing s := by
  unfold applyAnswer
  split
  · rfl
  · exact standing_takeShow _ _ s
  · exact standing_endTransaction _
  · exact standing_failAttempt _ _ s
  · exact standing_takeDrawingState _ _ _ _ _ s
  · exact standing_takeProbeState _ _ _ s
  · rfl

theorem standing_takeAnswer (t : Transaction) (answer : PanelAnswer) (s : State) :
    standing (takeAnswer t answer s) = standing s := by
  unfold takeAnswer
  split
  · exact standing_endTransaction s
  · exact standing_applyAnswer _ _ _

theorem standing_refreshSilent (t : Transaction) (r : Refresh) (s : State) :
    standing (refreshSilent t r s) = standing s := by
  unfold refreshSilent
  split
  · exact standing_probeAgain _ _ _ _ s
  · exact standing_failAttempt _ _ s

theorem standing_takeSilence (t : Transaction) (s : State) : standing (takeSilence t s) = standing s := by
  unfold takeSilence
  dsimp only
  split
  · exact standing_endTransaction s
  · split
    · exact standing_endTransaction _
    · split
      · exact standing_endTransaction _
      · exact standing_refreshSilent _ _ _

theorem standing_replyWait (s : State) : standing (replyWait s) = standing s := by
  unfold replyWait
  split
  · split
    · exact standing_takeSilence _ s
    · rfl
  · rfl

theorem standing_panelReplied (source : Addr) (ok : Bool) (answer : PanelAnswer) (s : State) :
    standing (panelReplied source ok answer s) = standing s := by
  unfold panelReplied
  split
  · split
    · rfl
    · split
      · exact standing_takeAnswer _ _ s
      · exact standing_takeSilence _ s
  · rfl

theorem standing_drawingExpiry (s : State) : standing (drawingExpiry s) = standing s := by
  unfold drawingExpiry
  split <;> rfl

theorem standing_intervalExpiry (s : State) : standing (intervalExpiry s) = standing s := by
  unfold intervalExpiry
  split <;> rfl

theorem standing_retryExpiry (s : State) : standing (retryExpiry s) = standing s := by
  unfold retryExpiry
  split <;> rfl

theorem standing_firstFrame (t : Transaction) (s : State) : standing (firstFrame t s) = standing s := by
  unfold firstFrame
  split <;> rfl

theorem standing_railSettled (s : State) : standing (railSettled s) = standing s := by
  unfold railSettled
  split
  · dsimp only
    split
    · split
      · exact standing_firstFrame _ _
      · rfl
    · rfl
  · rfl

theorem standing_railIdleExpiry (s : State) : standing (railIdleExpiry s) = standing s := by
  unfold railIdleExpiry
  split <;> rfl

theorem standing_probeTimerExpiry (link : LinkState) (a : Addr) (s : State) :
    standing (probeTimerExpiry link a s) = standing s := by
  unfold probeTimerExpiry
  dsimp only
  split <;> rfl

theorem standing_panelAbsent (a : Addr) (s : State) : standing (panelAbsent a s) = standing s := by
  rw [panelAbsent, (discardTransaction_state a _).1]
  rfl

theorem standing_serveFirst (s : State) : standing (serveFirst s) = standing s := by
  unfold serveFirst
  split
  · exact standing_serve _ s
  · rfl

theorem standing_probeFirst (s : State) : standing (probeFirst s) = standing s := by
  unfold probeFirst
  cases probeReady s with
  | none => rfl
  | some a => exact standing_startProbe a s

theorem standing_panelResetRule (n : Nat) (s : State) : standing (panelResetRule n s).1 = standing s := by
  unfold panelResetRule
  split
  · rfl
  · dsimp only
    split
    · rfl
    · split <;> rfl

/-! ### Profiles, host messages and the boards' timers -/

theorem standing_changeProfile (a : Addr) (p : Profile) (s : State) : standing (changeProfile a p s) = standing s := by
  unfold changeProfile
  dsimp only
  split
  · exact standing_panelAbsent _ _
  · exact standing_requestRefresh _ _ _
  · split
    · rfl
    · exact standing_requestRefresh _ _ _
  · rfl

theorem standing_panelProfileRule (n : Nat) (presence : Option (Coded Bool)) (k : Option (Coded PanelKind)) (r : Option Nat)
    (f : Option (Coded DirFilter)) (th : Option Nat) (s : State) :
    standing (panelProfileRule n presence k r f th s).1 = standing s := by
  unfold panelProfileRule
  split
  · rfl
  · split
    · rfl
    · exact standing_changeProfile _ _ s

theorem standing_addHost (id : Nat) (p : MsgPriority) (lines : List Text) (expiry : Option Nat) (kept : List HostEntry)
    (s : State) : standing (addHost id p lines expiry kept s) = standing s := by
  unfold addHost requestKind
  rw [requestEach_state]
  rfl

theorem standing_placeHost (id : Nat) (p : MsgPriority) (lines : List Text) (expiry : Option Nat) (s : State) :
    standing (placeHost id p lines expiry s).1 = standing s := by
  unfold placeHost
  dsimp only
  split
  · rw [standing_addHost]
  · split
    · rw [standing_addHost]
    · split
      · rfl
      · rw [standing_addHost]

theorem standing_boardTextRule (id : Nat) (p : Coded MsgPriority) (lines : List Text) (expiry : Option Nat) (s : State) :
    standing (boardTextRule id p lines expiry s).1 = standing s := by
  unfold boardTextRule
  split
  · rfl
  · split
    · rfl
    · split
      · rfl
      · exact standing_placeHost _ _ _ _ s

theorem standing_boardTextDropRule (id : Option Nat) (s : State) : standing (boardTextDropRule id s).1 = standing s := by
  unfold boardTextDropRule
  dsimp only
  split
  · rfl
  · exact standing_removeHost _ s

theorem standing_boardRefreshRule (n : Option Nat) (u : Coded Bool) (s : State) :
    standing (boardRefreshRule n u s).1 = standing s := by
  unfold boardRefreshRule
  split
  · rfl
  · exact standing_requestEach _ s
  · split
    · rfl
    · split
      · exact standing_requestRefresh _ s _
      · rfl

theorem standing_accrualExpiry (s : State) : standing (accrualExpiry s) = standing s := by
  unfold accrualExpiry
  split <;> rfl

theorem standing_rotationExpiry (s : State) : standing (rotationExpiry s) = standing s := by
  unfold rotationExpiry
  split
  · exact standing_requestEach _ _
  · rfl

/-! ### Tables and tariffs loaded, and the journal -/

theorem standing_tableOpenRule (date : Date) (k : Coded DayType) (a b v : Nat) (s : State) :
    standing (tableOpenRule date k a b v s).1 = standing s := by
  unfold tableOpenRule
  split
  · rfl
  · split <;> rfl

theorem standing_tableAddRule (number : Nat) (d : Coded Direction) (minute platform : Nat) (calls : List Nat) (s : State) :
    standing (tableAddRule number d minute platform calls s).1 = standing s := by
  unfold tableAddRule
  repeat' split
  all_goals rfl

theorem standing_tableCloseRule (s : State) : standing (tableCloseRule s).1 = standing s := by
  unfold tableCloseRule
  split <;> rfl

theorem standing_tariffOpenRule (v : Nat) (date : Date) (s : State) : standing (tariffOpenRule v date s).1 = standing s := by
  unfold tariffOpenRule
  split <;> rfl

theorem standing_tariffStationRule (code : Nat) (name : Text) (distance : Nat) (side : Coded Direction) (s : State) :
    standing (tariffStationRule code name distance side s).1 = standing s := by
  unfold tariffStationRule
  repeat' split
  all_goals rfl

theorem standing_tariffRulesRule (r : Rules) (s : State) : standing (tariffRulesRule r s).1 = standing s := by
  unfold tariffRulesRule
  repeat' split
  all_goals rfl

theorem standing_evaluateThresholds (s : State) : standing (evaluateThresholds s) = standing s := by
  have hlow : standing (evaluateLow s) = standing s := by
    unfold evaluateLow
    split
    · rfl
    · split <;> rfl
  unfold evaluateThresholds evaluateFull
  split
  · exact hlow
  · split <;> exact hlow

theorem standing_reportFree (s : State) : standing (reportFree s) = standing s :=
  (standing_decideSales _).trans (standing_evaluateThresholds s)

theorem standing_journalSettingsRule (low : Option Nat) (s : State) :
    standing (journalSettingsRule low s).1 = standing s := by
  unfold journalSettingsRule
  dsimp only
  split
  · rfl
  · split
    · rfl
    · exact standing_evaluateThresholds _

theorem standing_journalReadRule (a b : Nat) (s : State) : standing (journalReadRule a b s).1 = standing s := by
  unfold journalReadRule
  dsimp only
  split
  · rfl
  · split <;> rfl

theorem standing_journalReleaseRule (n : Nat) (s : State) : standing (journalReleaseRule n s).1 = standing s := by
  unfold journalReleaseRule
  dsimp only
  split
  · rfl
  · split
    · rfl
    · split
      · rfl
      · split
        · rfl
        · exact standing_reportFree _

/-! ### Notices, settings and the field inputs' first taking -/

theorem standing_noticeClearRule (l : List Nat) (s : State) : standing (noticeClearRule l s).1 = standing s := by
  have hfold : ∀ (l : List Nat) (u : State), standing (l.foldl clearNotice u) = standing u := by
    intro l
    induction l with
    | nil => exact fun _ => rfl
    | cons n l ih => exact fun u => ih (clearNotice u n)
  unfold noticeClearRule
  dsimp only
  split
  · rfl
  · split <;> exact hfold _ s

theorem standing_noticeConfigRule (l : List NoticeField) (d : Option (Coded DoorSense)) (s : State) :
    standing (noticeConfigRule l d s).1 = standing s := by
  have hfold : ∀ (l : List NoticeField) (u : State), standing (l.foldl storeNotice u) = standing u := by
    intro l
    induction l with
    | nil => exact fun _ => rfl
    | cons f l ih => exact fun u => ih (storeNotice u f)
  unfold noticeConfigRule storeDoorSense
  dsimp only
  split
  · rfl
  · split <;> exact hfold l s

theorem standing_saleSettingsRule (k : Option (List (Coded Payment))) (t : Option (List (Coded TicketType))) (s : State) :
    standing (saleSettingsRule k t s).1 = standing s := by
  unfold saleSettingsRule
  split <;> rfl

theorem standing_wakeConfigRule (f : WakeFields) (s : State) : standing (wakeConfigRule f s).1 = standing s := by
  unfold wakeConfigRule
  dsimp only
  split <;> rfl

theorem standing_firstTaking (i : FieldInput) (high : Bool) (s : State) : standing (firstTaking i high s) = standing s := by
  unfold firstTaking
  dsimp only
  split
  · rfl
  · split <;> rfl

theorem standing_returnExpiry (s : State) : standing (returnExpiry s) = standing s := by
  unfold returnExpiry
  split <;> rfl

end Sys2Proof.Machine
end

section
/-! SUPPORT. What the events and requests that move the slot, the target or the level keep of the resting slot, up to the step
(R89). -/

namespace Sys2Proof.Machine

/-! ### The field inputs -/

theorem rests_inputEvent (i : FieldInput) (high : Bool) (s : State) : Rests s (inputEvent i high s) := by
  unfold inputEvent
  dsimp only
  split
  · have h := rests_wake (.field i) (some (if high then .rising else .falling)) s
    split
    · exact h.trans (.of_standing rfl)
    · exact h
  · split
    · exact rests_activity s
    · exact .refl s

theorem standing_doorChange (i : FieldInput) (high : Bool) (s : State) : standing (doorChange i high s) = standing s := by
  unfold doorChange
  split <;> rfl

theorem rests_inputEdge (i : FieldInput) (high : Bool) (s : State) : Rests s (inputEdge i high s) := by
  have hdoor : Rests s (doorChange i high { s with awu.filtered := fiveSet s.awu.filtered i (some high) }) :=
    .of_standing (standing_doorChange _ _ _)
  have hlock : ∀ u : State, Rests u (if i = .call then { u with awu.lock := passLock high u.awu.lock } else u) := fun u =>
    .of_standing (by split <;> rfl)
  unfold inputEdge
  dsimp only
  generalize doorChange i high { s with awu.filtered := fiveSet s.awu.filtered i (some high) } = u at hdoor ⊢
  have hu := (hlock u).after hdoor
  generalize (if i = .call then { u with awu.lock := passLock high u.awu.lock } else u) = v at hu ⊢
  split_ifs
  exacts [(rests_inputEvent i high v).after hu, hu, (rests_inputEvent i high v).after hu, hu]

theorem rests_filteredChange (i : FieldInput) (high : Bool) (s : State) : Rests s (filteredChange i high s) := by
  unfold filteredChange
  split
  · exact rests_inputEdge i high s
  · exact .refl s

/-! ### Services, tables and tariffs -/

theorem rests_changeEvents (s : State) (p : Service × Service) : Rests s (changeEvents s p) :=
  Rests.foldl (fun s c => .of_standing (standing_changeEvent p.1 p.2 s c)) _ s

theorem rests_statusEvent (s : State) (p : Service × Service) : Rests s (statusEvent s p) := by
  unfold statusEvent
  split
  · split
    · split
      · exact rests_withdraw _ s
      · exact .refl s
    · exact .refl s
  · exact .refl s

theorem rests_approachStart (s : State) (p : Service × Service) : Rests s (approachStart s p) := by
  unfold approachStart
  split
  · exact (rests_activity s).trans (rests_internalEvent _ _ _)
  · exact .refl s

theorem rests_handOn (pairs : List (Service × Service)) (s : State) : Rests s (handOn pairs s) :=
  (rests_retarget s).trans ((Rests.foldl rests_approachStart _ _).trans
    ((Rests.foldl rests_statusEvent _ _).trans (Rests.foldl rests_changeEvents _ _)))

theorem rests_minuteEvaluation (now : Nat) (s : State) : Rests s (minuteEvaluation now s) := by
  unfold minuteEvaluation
  split
  · exact .refl s
  · exact (rests_handOn _ _).after (.of_standing rfl)

theorem rests_evaluateNow (s : State) : Rests s (evaluateNow s) := by
  unfold evaluateNow
  cases nowMinute s with
  | none => exact .refl s
  | some m => exact rests_minuteEvaluation m s

theorem rests_runningRule (number stamp : Nat) (kind : Coded RunKind) (arg : Int) (s : State) :
    Rests s (runningRule number stamp kind arg s).1 := by
  unfold runningRule
  split
  · exact .refl s
  · split
    · exact .refl s
    · split
      · exact .refl s
      · split
        · exact .refl s
        · split
          · exact .refl s
          · split
            · exact .refl s
            · exact (rests_handOn _ _).after (.of_standing rfl)

theorem rests_placeCurrent (t : Option CurrentTable) (s : State) : Rests s (placeCurrent t s) := by
  have h : Rests s (retarget { s with tts.current := t }) := (rests_retarget _).after (.of_standing rfl)
  exact h.trans (.of_standing (standing_tableEvent _))

theorem rests_promote (t : NextTable) (s : State) : Rests s (promote t s) :=
  (rests_placeCurrent _ _).after (.of_standing rfl)

theorem rests_emptyCurrent (s : State) : Rests s (emptyCurrent s) := (rests_placeCurrent none s).trans (.of_standing rfl)

theorem rests_tablePromoteRule (version : Nat) (s : State) : Rests s (tablePromoteRule version s).1 := by
  unfold tablePromoteRule
  split
  · split
    · exact .refl s
    · split
      · exact .refl s
      · split
        · exact .refl s
        · exact (rests_promote _ s).trans (rests_evaluateNow _)
  · exact .refl s

theorem rests_serviceSettingsRule (g w m : Option Nat) (s : State) : Rests s (serviceSettingsRule g w m s).1 := by
  unfold serviceSettingsRule
  dsimp only
  split
  · exact .refl s
  · split
    · exact .of_standing rfl
    · exact (rests_evaluateNow _).after (.of_standing rfl)

theorem rests_ttsRollover (entered : Date) (cause : RolloverCause) (s : State) : Rests s (ttsRollover entered cause s) := by
  unfold ttsRollover rolloverTables
  split
  · exact .of_standing (standing_tableEvent s)
  · split
    · exact rests_emptyCurrent s
    · split
      · exact rests_emptyCurrent s
      · split
        · exact rests_promote _ s
        · split
          · exact (rests_emptyCurrent _).after (.of_standing rfl)
          · exact rests_emptyCurrent s

theorem standing_namesEvent (s : State) : standing (namesEvent s) = standing s := standing_requestEach _ s

theorem rests_activate (t : Tariff) (s : State) : Rests s (activate t s) := by
  have hw : Rests s (withdraw .tariff { s with tfe.active := some t, tfe.pending := none }) :=
    (rests_withdraw _ _).after (.of_standing rfl)
  unfold activate
  generalize withdraw .tariff { s with tfe.active := some t, tfe.pending := none } = u at hw ⊢
  exact hw.trans (.of_standing ((standing_namesEvent _).trans (standing_decideSales u)))

theorem rests_tfeRollover (entered : Date) (s : State) : Rests s (tfeRollover entered s) := by
  unfold tfeRollover
  cases tariffDue entered s with
  | none => exact .refl s
  | some t => exact rests_activate t s

theorem rests_tariffCloseRule (s : State) : Rests s (tariffCloseRule s).1 := by
  unfold tariffCloseRule
  split
  · exact .refl s
  · split
    · exact .refl s
    · split
      · exact .refl s
      · split
        · exact rests_activate _ s
        · exact .of_standing rfl

/-! ### Limits, ceiling and demand -/

theorem rests_setBattery (l : Option Level) (s : State) : Rests s (setBattery l s) := by
  have h : Rests s (raiseNotice .limitChanged { s with enm.battery := l }) := .of_standing rfl
  unfold setBattery
  dsimp only
  split
  · exact .refl s
  · split
    · split
      · exact h.trans (rests_endBrief _)
      · exact h.trans (rests_retarget _)
    · split
      · exact h.trans ((rests_retarget _).trans (rests_judgeBriefStart _))
      · exact h.trans (rests_retarget _)

theorem rests_setQuiet (l : Option Level) (s : State) : Rests s (setQuiet l s) := by
  unfold setQuiet
  split
  · exact .refl s
  · exact (rests_retarget _).after (.of_standing rfl)

theorem rests_setHost (l : Option Level) (s : State) : Rests s (setHost l s) := by
  unfold setHost
  split
  · exact .refl s
  · exact (rests_retarget _).after (.of_standing rfl)

theorem rests_quietOnMinute (s : State) : Rests s (quietOnMinute s) := by
  unfold quietOnMinute
  dsimp only
  split
  · exact (rests_internalEvent _ _ _).after (rests_setQuiet _ s)
  · exact rests_setQuiet _ s

theorem standing_followCeiling (s : State) : standing (followCeiling s) = standing s := by
  unfold followCeiling
  dsimp only
  split
  · rfl
  · exact standing_restartDemandTimer _

theorem rests_recomputeCeiling (s : State) : Rests s (recomputeCeiling s) :=
  (rests_retarget _).after (.of_standing (standing_followCeiling s))

theorem rests_staleExpiry (s : State) : Rests s (staleExpiry s) := by
  unfold staleExpiry
  split
  · exact .refl s
  · exact (rests_setBattery _ _).after (.of_standing rfl)

theorem rests_demandExpiry (s : State) : Rests s (demandExpiry s) := by
  unfold demandExpiry
  split
  · exact (rests_retarget _).after (.of_standing rfl)
  · exact .refl s

theorem rests_applyEntry (l : Level) (e : LevelEntry) (s : State) : Rests s (applyEntry l e s) := by
  have hdraw : ∀ u : State, standing (if e.draw ≠ (levelEntry s l).draw ∧ drawLevel u = l then
      { u with enm.draw := e.draw } else u) = standing u := fun u => by split <;> rfl
  have htimer : ∀ u : State, standing (if e.timeout ≠ (levelEntry s l).timeout ∧ u.awu.demand = l then
      restartDemandTimer u else u) = standing u := fun u => by
    split
    · exact standing_restartDemandTimer u
    · rfl
  have hload : ∀ u : State, standing (if l = u.enm.present then takeLoadSettings u else u) = standing u := fun u => by
    split <;> rfl
  unfold applyEntry
  dsimp only
  split
  · exact (rests_recomputeCeiling _).after (.of_standing ((hload _).trans ((htimer _).trans (hdraw _))))
  · exact .of_standing ((hload _).trans ((htimer _).trans (hdraw _)))

theorem rests_levelTableRule (sel : Coded Level) (a b c d e f : Option Nat) (s : State) :
    Rests s (levelTableRule sel a b c d e f s).1 := by
  unfold levelTableRule
  split
  · exact .refl s
  · split
    · exact .refl s
    · split
      · exact .refl s
      · exact rests_applyEntry _ _ s

theorem rests_levelCeilingRule (v : Option Nat) (s : State) : Rests s (levelCeilingRule v s).1 := by
  unfold levelCeilingRule
  split
  · exact .refl s
  · split
    · exact .refl s
    · exact (rests_recomputeCeiling _).after (.of_standing rfl)

theorem rests_storeHost (l : Option Level) (s : State) : Rests s (storeHost l s).1 :=
  (rests_settle _).after (rests_setHost l s)

theorem rests_levelLimitRule (v : LimitField) (s : State) : Rests s (levelLimitRule v s).1 := by
  unfold levelLimitRule
  split
  · exact .refl s
  · exact rests_storeHost _ s
  · split
    · exact .refl s
    · exact rests_storeHost _ s
  · exact .refl s

theorem rests_supplyCapacityRule (v : Option Nat) (s : State) : Rests s (supplyCapacityRule v s).1 := by
  unfold supplyCapacityRule
  split
  · exact .refl s
  · split
    · exact .refl s
    · exact (rests_recomputeCeiling _).after (.of_standing rfl)

theorem rests_supplyReportRule (c : Int) (s : State) : Rests s (supplyReportRule c s).1 := by
  have h : ∀ n, Rests s (takeCharge n s) := fun n => by
    unfold takeCharge
    dsimp only
    split <;> exact (rests_setBattery _ _).after (.of_standing rfl)
  exact (rests_settle _).after (h _)

theorem rests_energySettingsRule (a b c d : Option Nat) (s : State) : Rests s (energySettingsRule a b c d s).1 := by
  unfold energySettingsRule
  dsimp only
  split
  · exact .refl s
  · split
    · exact (rests_setQuiet _ _).after (.of_standing rfl)
    · exact .of_standing rfl

/-! ### The sale slot -/

/-- A slot that leaves IDLE does so in a part that does not rest and is not on its way to (R87, R89). -/
theorem rests_putSlot {s : State} (slot : Slot) (h : reasonHolds s .level = false) : Rests s (putSlot slot s) := by
  obtain ⟨timer, hput⟩ := putSlot_state slot s
  simp only [reasonHolds, Bool.or_eq_false_iff] at h
  obtain ⟨hpresent, hlowering⟩ := h
  rw [hput]
  refine fun hs => ⟨hs.1, fun _ => ⟨fun hr => ?_, fun d hd hr => ?_⟩⟩
  · exact absurd (hpresent.symm.trans hr) Bool.false_ne_true
  · have hto : loweringTo s = some d := by
      unfold loweringTo
      rw [show s.enm.transition = .lowering d from hd]
    rw [hto, Option.any_some, hr] at hlowering
    cases hlowering

/-- An IDLE slot is what the invariant asks. -/
theorem rests_putSlot_idle (s : State) : Rests s (putSlot .idle s) := by
  obtain ⟨timer, hput⟩ := putSlot_state .idle s
  rw [hput]
  exact fun hs => restingSlot_of_idle hs.1 rfl

/-- With sales open no reason holds. -/
theorem reasonHolds_of_salesOpen {s : State} (h : salesOpen s = true) (r : Reason) : reasonHolds s r = false := by
  rw [salesOpen, List.isEmpty_iff, salesReasons, List.filter_eq_nil_iff] at h
  exact Bool.eq_false_iff.mpr (h r (by cases r <;> decide))

theorem rests_quoteFrom (t : Tariff) (code : Nat) (k : TicketType) (cls q : Nat) (sel : ServiceSel) (n : Option Nat)
    {s : State} (h : salesOpen s = true) : Rests s (quoteFrom t code k cls q sel n s).1 := by
  have hbound : ∀ v : Option Service, Rests s (quoteBound t code k cls q v s).1 := fun v => by
    unfold quoteBound
    dsimp only
    split
    · exact .refl s
    · exact .refl s
    · exact rests_putSlot _ (reasonHolds_of_salesOpen h .level)
  unfold quoteFrom
  split
  · exact .refl s
  · split
    · exact .refl s
    · split
      · exact .refl s
      · exact .refl s
      · exact hbound none
      · exact hbound _

theorem rests_saleQuoteRule (code : Nat) (k : Coded TicketType) (cls q : Nat) (sel : Coded ServiceSel) (n : Option Nat)
    (s : State) : Rests s (saleQuoteRule code k cls q sel n s).1 := by
  unfold saleQuoteRule
  split
  · split
    · exact .refl s
    · split
      · exact .refl s
      · split
        · exact .refl s
        next hclosed =>
          have hopen : salesOpen s = true := by simpa using hclosed
          split
          · exact .refl s
          · split
            · exact .refl s
            · split
              · exact .refl s
              · exact rests_quoteFrom _ _ _ _ _ _ _ hopen
  · exact .refl s

theorem rests_commit (q : Quote) (date : Date) (p : Payment) (r : Option Text) {s : State} (h : salesOpen s = true) :
    Rests s (commit q date p r s).1 := by
  have hput := rests_putSlot (s := { s with sjn.reserved := true, sjn.next := s.sjn.next + 1 })
    (.printing ⟨q, s.sjn.next, date, p, r⟩ printTime) (reasonHolds_of_salesOpen h .level)
  exact Rests.after (.of_standing (standing_reportFree _)) (hput.after (.of_standing rfl))

theorem rests_saleCommitRule (p : Coded Payment) (r : Option Text) (s : State) : Rests s (saleCommitRule p r s).1 := by
  unfold saleCommitRule
  split
  · exact .refl s
  · split
    · exact .refl s
    · split
      · split
        · exact .refl s
        · split
          · exact .refl s
          · split
            · exact .refl s
            · split
              · exact .refl s
              next hclosed =>
                split
                · exact rests_withdraw _ s
                · exact rests_commit _ _ _ _ (by simpa using hclosed)
      · exact .refl s

theorem rests_conclude (x : Sale) (k : RecordKind) (s : State) : Rests s (conclude x k s) := by
  have happend : Rests s (append (recordOf x k (completionTime x.date s)) s) := .of_standing rfl
  unfold conclude
  dsimp only
  refine (rests_putSlot_idle _).after ?_
  split
  · split
    · exact Rests.after (.of_standing (standing_offerSold _ _ _ _)) happend
    · exact happend
  · exact happend

theorem rests_salePrintedRule (n : Nat) (o : Coded PrintOutcome) (s : State) : Rests s (salePrintedRule n o s).1 := by
  unfold salePrintedRule
  split
  · exact .refl s
  · split
    · exact .refl s
    · split
      · split
        · exact rests_conclude _ _ s
        · exact .refl s
      · exact .refl s

theorem rests_saleCancelRule (s : State) : Rests s (saleCancelRule s).1 := by
  unfold saleCancelRule
  split
  · exact .refl s
  · exact rests_putSlot_idle s

theorem rests_salesCloseRule (s : State) : Rests s (salesCloseRule s).1 :=
  (rests_withdraw _ _).after (.of_standing (standing_decideSales _))

theorem rests_saleRule {rule : State → State × Answer} (h : ∀ s, Rests s (rule s).1) (s : State) :
    Rests s (saleRule rule s).1 :=
  (h _).after ((rests_settle _).after (rests_activity s))

theorem rests_printExpiry (s : State) : Rests s (printExpiry s) := by
  unfold printExpiry
  split
  · exact (rests_conclude _ _ s).trans (.of_standing rfl)
  · exact .refl s

/-! ### The clock -/

theorem rests_minuteEvent (e : MinuteEvent) (s : State) : Rests s (minuteEvent e s) :=
  (rests_quietOnMinute _).after (Rests.after (.of_standing (standing_removeHost _ _)) (rests_minuteEvaluation _ s))

theorem rests_slotAndTariff (entered : Date) (s : State) : Rests s (slotAndTariff entered s) := by
  have h : Rests s { s with free := s.free + 1 } := .of_standing rfl
  unfold slotAndTariff
  dsimp only
  split
  · split
    · exact (rests_tfeRollover _ _).after ((rests_withdraw _ _).after h)
    · exact (rests_withdraw _ _).after ((rests_tfeRollover _ _).after h)
  · exact (rests_withdraw _ _).after (rests_tfeRollover _ s)

theorem standing_recordDay (e : RolloverEvent) (t : Option Tariff) (s : State) : standing (recordDay e t s) = standing s := rfl

theorem rests_rolloverEvent (e : RolloverEvent) (s : State) : Rests s (rolloverEvent e s) := by
  have h := (rests_ttsRollover e.entered e.cause s).trans (rests_slotAndTariff e.entered _)
  have hb := h.trans (.of_standing (standing_boardsRollover _))
  exact (hb.trans (rests_internalEvent _ _ _)).trans (.of_standing (standing_recordDay _ _ _))

theorem rests_enterDate (c : ClockSetting) (left : Option Date) (day : RolloverCause) (m : MinuteCause) (s : State) :
    Rests s (enterDate c left day m s) :=
  (rests_minuteEvent _ _).after (rests_rolloverEvent _ s)

theorem rests_unsetClock (s : State) : Rests s (unsetClock s) :=
  (rests_setQuiet _ _).after (Rests.after (.of_standing (standing_decideSales _)) ((rests_retarget _).after (.of_standing rfl)))

theorem rests_clockSecondEvent (s : State) : Rests s (clockSecondEvent s) := by
  unfold clockSecondEvent
  cases s.clock with
  | none => exact .refl s
  | some c =>
    show Rests s (clockTick c s)
    unfold clockTick
    dsimp only
    split
    · split
      · exact (rests_minuteEvent _ _).after (.of_standing rfl)
      · exact .of_standing rfl
    · split
      · exact (rests_enterDate _ _ _ _ _).after (.of_standing rfl)
      · exact rests_unsetClock s

theorem rests_clockSetRule (y mo d h mi sec : Nat) (s : State) : Rests s (clockSetRule y mo d h mi sec s).1 := by
  unfold clockSetRule
  dsimp only
  split
  · exact .refl s
  · split
    · exact (rests_enterDate _ _ _ _ _).after (.of_standing (standing_decideSales _))
    · unfold stepClock
      dsimp only
      split
      · exact .refl s
      · split
        · exact .refl s
        · split
          · exact (rests_minuteEvent _ _).after (.of_standing rfl)
          · exact (rests_enterDate _ _ _ _ _).after (.of_standing rfl)

/-! ### CLEAR-RETAINED -/

theorem rests_clearEnergy (s : State) : Rests s (clearEnergy s) := by
  have hdefault : standing (defaultEnergy s) = standing s := rfl
  have h := (standing_followCeiling (defaultEnergy s)).trans hdefault
  unfold clearEnergy
  dsimp only
  generalize followCeiling (defaultEnergy s) = u at h ⊢
  refine (rests_retarget _).after (.of_standing ?_)
  split <;> exact h

theorem rests_clearTables (s : State) : Rests s (clearTables s) :=
  (rests_placeCurrent none { s with tts := ⟨none, none, 5, 4, 2⟩ }).after (.of_standing rfl)

theorem standing_clearSales (s : State) : standing (clearSales s) = standing s := by
  rw [clearSales_eq, standing_decideSales]
  rfl

theorem rests_clearProfiles (s : State) : Rests s (clearProfiles s) :=
  Rests.foldl (fun u a => .of_standing (standing_changeProfile a defaultProfile u)) allPanels s

theorem standing_clearNotices_clearWakes (s : State) : standing (clearNotices (clearWakes s)) = standing s := rfl

theorem rests_clearAll (s : State) : Rests s (clearAll s) := by
  have h := (rests_clearTables s).trans (.of_standing (standing_clearSales _))
  have he := (h.trans (rests_clearProfiles _)).trans (rests_clearEnergy _)
  exact he.trans (.of_standing (standing_clearNotices_clearWakes _))

theorem rests_clearRetainedRule (s : State) : Rests s (clearRetainedRule s).1 := by
  unfold clearRetainedRule
  split
  · exact rests_clearAll s
  · exact .refl s

/-! ### Every owner's rule and every event -/

theorem rests_ownerRule {c : Instr} {rule : State → State × Answer} (h : ownerRule c = some rule) (s : State) :
    Rests s (rule s).1 := by
  cases c <;> cases h
  case identify => exact .refl s
  case restart => exact .of_standing rfl
  case clearRetained => exact rests_clearRetainedRule s
  case noticeRead => exact .of_standing rfl
  case noticeClear => exact .of_standing (standing_noticeClearRule _ s)
  case noticeConfig => exact .of_standing (standing_noticeConfigRule _ _ s)
  case clockSet => exact rests_clockSetRule _ _ _ _ _ _ s
  case clockRead => exact .refl s
  case tableOpen => exact .of_standing (standing_tableOpenRule _ _ _ _ _ s)
  case tableAdd => exact .of_standing (standing_tableAddRule _ _ _ _ _ s)
  case tableClose => exact .of_standing (standing_tableCloseRule s)
  case tableDrop => exact .of_standing rfl
  case tablePromote => exact rests_tablePromoteRule _ s
  case tableRead => exact .of_standing (congrArg standing (tableReadRule_state _ _ s))
  case serviceSettings => exact rests_serviceSettingsRule _ _ _ s
  case running => exact rests_runningRule _ _ _ _ s
  case tariffOpen => exact .of_standing (standing_tariffOpenRule _ _ s)
  case tariffStation => exact .of_standing (standing_tariffStationRule _ _ _ _ s)
  case tariffRules => exact .of_standing (standing_tariffRulesRule _ s)
  case tariffClose => exact rests_tariffCloseRule s
  case tariffRead => exact .of_standing (congrArg standing (tariffReadRule_state _ _ _ s))
  case fareTrial => exact .of_standing (congrArg standing (fareTrialRule_state _ _ _ _ _ _ s))
  case saleQuote => exact rests_saleRule (rests_saleQuoteRule _ _ _ _ _ _) s
  case saleCommit => exact rests_saleRule (rests_saleCommitRule _ _) s
  case salePrinted => exact rests_saleRule (rests_salePrintedRule _ _) s
  case saleCancel => exact rests_saleRule rests_saleCancelRule s
  case saleStatus => exact rests_saleRule Rests.refl s
  case salesClose => exact rests_salesCloseRule s
  case salesOpen => exact .of_standing (standing_decideSales _)
  case saleSettings => exact .of_standing (standing_saleSettingsRule _ _ s)
  case journalRead => exact .of_standing (standing_journalReadRule _ _ s)
  case journalRelease => exact .of_standing (standing_journalReleaseRule _ s)
  case takingsRead => exact .refl s
  case journalSettings => exact .of_standing (standing_journalSettingsRule _ s)
  case panelProfile => exact .of_standing (standing_panelProfileRule _ _ _ _ _ _ s)
  case boardText => exact .of_standing (standing_boardTextRule _ _ _ _ s)
  case boardTextDrop => exact .of_standing (standing_boardTextDropRule _ s)
  case boardRefresh => exact .of_standing (standing_boardRefreshRule _ _ s)
  case boardStatus => exact .refl s
  case panelReset => exact .of_standing (standing_panelResetRule _ s)
  case panelStatus => exact .refl s
  case levelTable => exact rests_levelTableRule _ _ _ _ _ _ _ s
  case levelCeiling => exact rests_levelCeilingRule _ s
  case levelLimit => exact rests_levelLimitRule _ s
  case supplyCapacity => exact rests_supplyCapacityRule _ s
  case supplyReport => exact rests_supplyReportRule _ s
  case energySettings => exact rests_energySettingsRule _ _ _ _ s
  case energyStatus => exact .refl s
  case activity => exact rests_activity s
  case wakeConfig => exact .of_standing (standing_wakeConfigRule _ s)
  case wakeStatus => exact .of_standing rfl

theorem rests_drainFirst (s : State) : Rests s (drainFirst s) := by
  unfold drainFirst
  cases h : drainReady s with
  | none => exact .refl s
  | some d => exact rests_completeLowering h

theorem rests_returnFirst (s : State) : Rests s (returnFirst s) := by
  unfold returnFirst
  split
  · exact rests_endBrief s
  · exact .refl s

theorem rests_eventRule {c : Instr} {f : State → State} (h : eventRule c = some f) (s : State) : Rests s (f s) := by
  cases c <;> cases h
  case clockSecond => exact rests_clockSecondEvent s
  case quoteTimerExpiry => exact rests_withdraw _ s
  case printTimerExpiry => exact rests_printExpiry s
  case accrualTimerExpiry => exact .of_standing (standing_accrualExpiry s)
  case rotationTimerExpiry => exact .of_standing (standing_rotationExpiry s)
  case serveEntry => exact .of_standing (standing_serveFirst s)
  case probeStart => exact .of_standing (standing_probeFirst s)
  case railSettleExpiry => exact .of_standing (standing_railSettled s)
  case panelReply => exact .of_standing (standing_panelReplied _ _ _ s)
  case replyWaitExpiry => exact .of_standing (standing_replyWait s)
  case drawingWaitExpiry => exact .of_standing (standing_drawingExpiry s)
  case probeIntervalExpiry => exact .of_standing (standing_intervalExpiry s)
  case retryWaitExpiry => exact .of_standing (standing_retryExpiry s)
  case unknownReprobeDelay => exact .of_standing (standing_probeTimerExpiry _ _ s)
  case offlineProbeTimerExpiry => exact .of_standing (standing_probeTimerExpiry _ _ s)
  case coldProbeTimerExpiry => exact .of_standing (standing_probeTimerExpiry _ _ s)
  case railIdleExpiry => exact .of_standing (standing_railIdleExpiry s)
  case raiseSettleExpiry => exact rests_raiseSettled s
  case loweringComplete => exact rests_drainFirst s
  case staleTimerExpiry => exact rests_staleExpiry s
  case fieldInputEdge => exact rests_filteredChange _ _ s
  case filterInitialLevel => exact .of_standing (standing_firstTaking _ _ s)
  case demandTimerExpiry => exact rests_demandExpiry s
  case briefEpisodeStart => exact rests_judgeBriefStart s
  case returnTimerExpiry => exact .of_standing (standing_returnExpiry s)
  case briefEpisodeReturn => exact rests_returnFirst s

/-! ### Requests and frames taken -/

theorem rests_beginTaking (s : State) : Rests s (beginTaking s) := by
  have h : Rests s { s with hlk.hold := false } := .of_standing rfl
  exact h.trans ((rests_internalEvent _ _ _).trans (rests_settle _))

theorem standing_sendReply (k g : Byte) (a : Answer) (s : State) : standing (sendReply k g a s) = standing s := rfl

theorem rests_takeRequest (k g : Byte) {rule : State → State × Answer} (h : ∀ s, Rests s (rule s).1) (s : State) :
    Rests s (takeRequest k g rule s) :=
  ((rests_beginTaking s).trans ((h _).trans (rests_settle _))).trans (.of_standing (standing_sendReply _ _ _ _))

theorem rests_takeRow (c : Instr) (s : State) : Rests s (takeRow c s) := by
  unfold takeRow
  split
  next hr => exact rests_takeRequest _ _ (rests_ownerRule hr) s
  next => exact .refl s

theorem rests_takeFrame (f : Frame) (s : State) : Rests s (takeFrame f s) := by
  refine rests_takeRequest _ _ (fun s => ?_) s
  unfold frameRule
  split
  · cases hr : (readBody f.kind f.body).bind ownerRule with
    | none => exact .refl s
    | some rule =>
      obtain ⟨c, _, hc⟩ := Option.bind_eq_some_iff.mp hr
      exact rests_ownerRule hc s
  · exact .refl s

theorem rests_arrived (a : Arrival) {take : State → State} (h : ∀ s, Rests s (take s)) (s : State) :
    Rests s (arrived a take s) := by
  unfold arrived
  split
  · exact h s
  · split
    · exact .of_standing rfl
    · exact .refl s

/-! ### Restarts -/

/-- The restart conversion leaves the slot IDLE and the level alone (R92). -/
theorem restingSlot_convertSale {s : State} (ht : s.enm.transition = .none) (hs : s.slc.slot = retainedSlot s.slc.slot) :
    RestingSlot (convertSale s) := by
  have happend (x : Sale) : RestingSlot (append (recordOf x .unconfirmed none) { s with slc.slot := .idle }) :=
    restingSlot_of_idle (fun d n hd => by cases ht.symm.trans hd) rfl
  unfold convertSale
  split
  next x left _ =>
    show RestingSlot (raiseNotice .printTimeout _)
    refine Rests.of_standing rfl ?_
    cases x.quote.bound with
    | none => exact happend x
    | some b => exact Rests.of_standing (standing_offerSold _ _ _ _) (happend x)
  next hp =>
    refine restingSlot_of_idle (fun d n hd => by cases ht.symm.trans hd) ?_
    cases hslot : s.slc.slot with
    | idle => rfl
    | quoted q left => rw [hslot] at hs; cases hs
    | printing x left => exact absurd hslot (hp x left)

theorem standing_reportTimetable (s : State) : standing (reportTimetable s) = standing s := by
  unfold reportTimetable
  split <;> rfl

/-- What the restart brings about after the conversion, up to the target. -/
theorem standing_startBoards_startDemand (s : State) : standing (startBoards (startDemand (raiseNotice .woke s))) = standing s :=
  rfl

theorem restingSlot_bringUp {s : State} (h : RestingSlot (convertSale s)) : RestingSlot (bringUp s) := by
  have hr := (standing_startBoards_startDemand _).trans
    ((standing_reportTimetable _).trans (standing_evaluateThresholds (convertSale s)))
  exact rests_settle _ (rests_retarget _ (Rests.of_standing hr h))

theorem restingSlot_restartAt (strap : Bool) (s : State) : RestingSlot (restartAt strap s) :=
  restingSlot_bringUp (s := lostAt strap s) (restingSlot_convertSale rfl (retainedSlot_retainedSlot s.slc.slot).symm)

theorem rests_powerUp (strap : Bool) (s : State) : Rests s (powerUp strap s) := by
  unfold powerUp
  split
  · exact .refl s
  · exact fun h => ⟨h.1, nofun⟩
  · exact fun _ => restingSlot_restartAt strap s
  · exact fun _ => restingSlot_restartAt strap s

theorem rests_powerDown (s : State) : Rests s (powerDown s) := fun _ =>
  ⟨nofun, fun hp => by
    unfold powerDown at hp
    dsimp only at hp
    split at hp <;> cases hp⟩

theorem rests_holdPart (s : State) : Rests s (holdPart s) := by
  unfold holdPart
  split
  · exact fun h => ⟨h.1, nofun⟩
  · exact fun h => ⟨h.1, nofun⟩
  · exact .refl s
  · exact .refl s

theorem rests_releasePart (strap : Bool) (s : State) : Rests s (releasePart strap s) := by
  unfold releasePart
  split
  · exact fun _ => restingSlot_restartAt strap s
  · exact fun h => ⟨h.1, nofun⟩
  · exact .refl s
  · exact .refl s

/-! ### The step -/

theorem rests_replyEnded (s : State) : Rests s (replyEnded s) := by
  unfold replyEnded
  split
  · exact .refl s
  · split
    · exact fun _ => restingSlot_restartAt _ _
    · split
      · exact .of_standing rfl
      · exact (rests_takeFrame _ _).after (.of_standing rfl)
      · exact (rests_takeRow _ _).after (.of_standing rfl)

theorem rests_byteReceived (b : Byte) (s : State) : Rests s (byteReceived b s) := by
  unfold byteReceived
  split
  · split
    · exact .of_standing rfl
    · exact .refl s
  next bytes _ =>
    unfold frameByte
    split
    · exact .of_standing rfl
    · split
      · cases checkedFrame (bytes ++ [b]) with
        | none => exact .of_standing rfl
        | some f => exact (rests_arrived _ (rests_takeFrame f) _).after (.of_standing rfl)
      · exact .of_standing rfl

theorem rests_whenOn {f : State → State} (h : ∀ s, Rests s (f s)) (s : State) : Rests s (whenOn f s) := by
  unfold whenOn
  split
  · exact h s
  · exact .refl s

theorem rests_lineRule {c : Instr} {f : State → State} (h : lineRule c = some f) (s : State) : Rests s (f s) := by
  cases c <;> cases h
  case frameComplete => exact rests_arrived _ (rests_takeFrame _) s
  case interByteGap => exact .of_standing rfl
  case replySent => exact rests_replyEnded s
  case hostByteReceived b => exact rests_byteReceived b s

theorem rests_supplyRule {c : Instr} {f : State → State} (h : supplyRule c = some f) (s : State) : Rests s (f s) := by
  cases c <;> cases h
  case powerOn strap => exact rests_powerUp strap s
  case resetnAsserted => exact rests_holdPart s
  case resetnReleased strap => exact rests_releasePart strap s
  case powerLoss => exact rests_powerDown s

theorem rests_exec {c : Instr} {s t : State} (h : exec c s = .next t) : Rests s t := by
  rcases command_cases c with ⟨rule, hr⟩ | ⟨f, hf⟩ | ⟨f, hf⟩ | ⟨f, hf⟩
  · rw [exec_of_ownerRule hr] at h
    cases h
    exact rests_whenOn (rests_arrived _ (rests_takeRow c)) s
  · rw [exec_of_eventRule hf] at h
    cases h
    exact rests_whenOn (fun s => (rests_settle _).after (rests_eventRule hf s)) s
  · rw [exec_of_lineRule hf] at h
    cases h
    exact rests_whenOn (rests_lineRule hf) s
  · rw [exec_of_supplyRule hf] at h
    cases h
    exact rests_supplyRule hf s

/-- A millisecond moves the timers of slot and raise, not what they time. -/
theorem rests_millisecond (s : State) : Rests s (millisecond s) := by
  unfold millisecond
  split
  next =>
    rintro ⟨hraise, hrest⟩
    refine ⟨fun d n hd => ?_, fun hp => ⟨fun hr => ?_, fun d hd hr => ?_⟩⟩
    · cases ht : s.enm.transition <;> simp only [advance, transitionTick, ht] at hd <;> cases hd
      exact hraise _ _ ht
    · simp only [advance, (hrest hp).1 hr, slotTick]
    · cases ht : s.enm.transition <;> simp only [advance, transitionTick, ht] at hd <;> cases hd
      have hquoted := (hrest hp).2 _ ht hr
      cases hslot : s.slc.slot <;> simp_all [advance, slotTick, slotState]
  next => exact .refl s

/-- Settles O56: every command keeps the slot of a resting part IDLE, and a millisecond too. -/
theorem stepKeepsRestingSlotIdle : Obligations.StepKeepsRestingSlotIdle := by
  intro s t hs h
  cases hp : s.pending with
  | nil =>
    rw [step_of_empty hp] at h
    cases h
    exact rests_millisecond s hs
  | cons c rest =>
    rw [step_of_pending hp] at h
    exact rests_exec h (Rests.of_standing (t := { s with pending := rest }) rfl hs)

end Sys2Proof.Machine
end

section
/-! SUPPORT. The state after reset against the invariants, and a power loss: it keeps the retained store, and the restart after it is
the one without it (R74, R187). -/

namespace Sys2Proof.Machine

/-- Settles O54: the reset state's fields, one invariant after another. -/
theorem resetMeetsTheInvariants : Obligations.ResetMeetsTheInvariants := by
  refine ⟨nofun, ⟨fun d n h => ?_, fun _ => ⟨fun _ => rfl, nofun⟩⟩, ⟨by decide, by decide⟩, fun k => ?_,
    ⟨nofun, nofun, rfl, by decide⟩, fun a => ?_, ?_, nofun, ⟨rfl, rfl⟩, ⟨List.nodup_nil, List.Pairwise.nil⟩, nofun, nofun⟩
  · cases h
    decide
  · cases k <;> rfl
  · cases a <;> rfl
  · exact Nat.zero_le _

/-! ### A power loss (R74, R187) -/

theorem clearedNotices_clearedNotices (l : List Notice) : clearedNotices (clearedNotices l) = clearedNotices l := by
  rw [clearedNotices, clearedNotices, List.map_map]
  rfl

theorem lostTables_lostTables (t : Tts) : lostTables (lostTables t) = lostTables t := by
  simp only [lostTables, Option.map_map, Function.comp_def, List.map_map]
  rfl

/-- What a loss leaves loses nothing more: the part comes up from it as it does without it. -/
theorem lostAt_powerDown (strap : Bool) (s : State) : lostAt strap (powerDown s) = lostAt strap s := by
  have htables := lostTables_lostTables s.tts
  simp only [lostTables] at htables
  simp only [lostAt, powerDown, lose, retainedSlot_retainedSlot, slotState_retained, clearedNotices_clearedNotices]
  rw [htables]
  rfl

theorem settingsKept_powerDown (s : State) : SettingsKept s (powerDown s) where
  tts := retained_lostTables s.tts
  tfe := rfl
  kinds := rfl
  types := rfl
  hostClosed := rfl
  next := rfl
  released := rfl
  handedBack := rfl
  low := rfl
  profiles := rfl
  table := rfl
  capacity := rfl
  ceiling := rfl
  hostLimit := rfl
  quietStart := rfl
  quietEnd := rfl
  raiseSettle := rfl
  dormantSettle := rfl
  config := rfl
  notices := clearedNotices_config _
  doorSense := rfl

/-- Settles O5: the loss field by field, and the restart after it by what the restart loses again. -/
theorem powerLossKeepsTheStore : Obligations.PowerLossKeepsTheStore := by
  refine fun s => ⟨powerDown s, rfl, ?_, settingsKept_powerDown s, rfl, rfl, rfl, fun x left hx => ?_, fun hs => ?_,
    fun c v hc hv => ⟨{ c with services := c.services.map restartService }, restartService v, ?_,
      List.mem_map_of_mem hv, rfl, rfl⟩, fun hr strap => ?_⟩
  · cases hp : s.power <;> simp [powerDown, resetLow, hp]
  · exact congrArg retainedSlot hx
  · show retainedSlot s.slc.slot = .idle
    cases hslot : s.slc.slot with
    | idle => rfl
    | quoted q left => rfl
    | printing x left => exact absurd (by rw [hslot]; rfl) hs
  · simp only [powerDown, lose, hc, Option.map_some]
  · have hoff : resetLow (powerDown s).power = false :=
      congrArg resetLow (if_neg (by rw [hr]; exact Bool.false_ne_true) : (powerDown s).power = .off)
    rw [exec_of_supplyRule rfl, exec_of_supplyRule rfl, powerUp_restarts hoff, powerUp_restarts hr]
    exact congrArg (fun u => Host.Outcome.next (bringUp u)) (lostAt_powerDown strap s)

end Sys2Proof.Machine
end

section
/-! SUPPORT. SALE-CANCEL, SALE-STATUS and SALE-SETTINGS (R75, R80, R91). -/

namespace Sys2Proof.Machine

/-- A list of named values carries those values. -/
theorem namedAll_named {α : Type} (l : List α) : namedAll (l.map .named) = some l := by
  induction l with
  | nil => rfl
  | cons a l ih => simp [namedAll, ih]

theorem carriedSet_named {α : Type} (l : Option (List α)) : carriedSet (l.map (·.map .named)) = some l := by
  cases l with
  | none => rfl
  | some l => simp [carriedSet, namedAll_named]

/-- A slot that returns to IDLE restarts the demand timer with its full timeout (R166). -/
theorem putSlot_idle {s : State} (h : s.slc.slot ≠ .idle) : putSlot .idle s =
    { s with slc.slot := .idle, awu.timer := demandTimerOf (s.enm.table.get s.awu.demand) } := by
  cases hs : s.slc.slot with
  | idle => exact absurd hs h
  | quoted q left => simp only [putSlot, hs, slotState, freshDemandTimer_eq]
  | printing x left => simp only [putSlot, hs, slotState, freshDemandTimer_eq]

theorem putSlot_idle_idle {s : State} (h : s.slc.slot = .idle) : putSlot .idle s = s := by
  unfold putSlot
  rw [h]
  exact congrArg (fun slot => { s with slc.slot := slot }) h.symm

theorem saleCancelRule_printing {s : State} (h : slotState s.slc.slot = .printing) :
    saleCancelRule s = (s, refuse .busy .none) := by
  cases hs : s.slc.slot with
  | printing x left => simp only [saleCancelRule, hs]
  | idle => rw [hs] at h; cases h
  | quoted q left => rw [hs] at h; cases h

theorem saleCancelRule_unprinted {s : State} (h : slotState s.slc.slot ≠ .printing) :
    saleCancelRule s = (putSlot .idle s, done (.slot .idle)) := by
  cases hs : s.slc.slot with
  | printing x left => exact absurd (by rw [hs]; rfl) h
  | idle => simp only [saleCancelRule, hs]
  | quoted q left => simp only [saleCancelRule, hs]

theorem saleSettingsRule_named (kinds : Option (List Payment)) (types : Option (List TicketType)) (s : State) :
    saleSettingsRule (kinds.map (·.map .named)) (types.map (·.map .named)) s =
      ({ s with slc.kinds := kinds.elim s.slc.kinds kindSet, slc.types := types.elim s.slc.types typeSet },
        done (.saleSettings (kinds.elim s.slc.kinds kindSet) (types.elim s.slc.types typeSet))) := by
  simp only [saleSettingsRule, carriedSet_named]
  cases kinds <;> cases types <;> rfl

theorem saleStatusRule_eq (s : State) : saleStatusRule s = (s, done (.saleStatus (slotReport s.slc.slot)
    (salesReasons s).isEmpty (salesReasons s) (salesReasons s).head? s.slc.hostClosed s.slc.lastReason)) := rfl

/-- Settles O34: SALE-CANCEL by the state of the slot, and what is stored as it is answered. -/
theorem cancelStatusAndSettings : Obligations.CancelStatusAndSettings := by
  intro s hl w
  refine ⟨fun h => ?printing, fun h => ?quoted, fun h => ?idle, ?status, ?settings⟩
  case printing => exact does_of_saleRule hl rfl rfl rfl (saleCancelRule_printing (s := w) h)
  case quoted =>
    have hslot : w.slc.slot ≠ .idle := fun hi => by rw [hi] at h; cases h
    have hrule := saleCancelRule_unprinted (s := w) (by rw [h]; nofun)
    rw [putSlot_idle hslot] at hrule
    exact does_of_saleRule hl rfl rfl rfl hrule
  case idle =>
    have hrule := saleCancelRule_unprinted (s := w) (by rw [h]; nofun)
    rw [putSlot_idle_idle (slot_of_slotState h)] at hrule
    exact does_of_saleRule hl rfl rfl rfl hrule
  case status => exact does_of_saleRule hl rfl rfl rfl (saleStatusRule_eq w)
  case settings =>
    intro kinds types newKinds newTypes
    have hrule := saleSettingsRule_named kinds types (atOwner s)
    rw [atOwner_slc_kinds, atOwner_slc_types] at hrule
    exact does_of_rule hl rfl rfl rfl hrule

end Sys2Proof.Machine
end

section
/-! SUPPORT. The sales event and the reasons for sales closed (R87, R119 to R121), and SALES-CLOSE and SALES-OPEN (R88). -/

namespace Sys2Proof.Machine

/-! ### The reasons (Table 5-5) -/

theorem mem_salesReasons (r : Reason) (s : State) : r ∈ salesReasons s ↔ reasonHolds s r = true := by
  rw [salesReasons, List.mem_filter]
  exact ⟨And.right, fun h => ⟨by cases r <;> decide, h⟩⟩

theorem freeCount_eq_zero_iff (s : State) :
    freeCount s = 0 ↔ 2048 ≤ s.sjn.records.length + if s.sjn.reserved then 1 else 0 := by
  unfold freeCount journalCapacity
  omega

theorem mem_level_salesReasons (s : State) : Reason.level ∈ salesReasons s ↔ s.enm.present = .el4 ∨ s.enm.present = .el5 ∨
    s.enm.transition = .lowering .el4 ∨ s.enm.transition = .lowering .el5 := by
  have hlowering : (loweringTo s).any resting = true ↔
      s.enm.transition = .lowering .el4 ∨ s.enm.transition = .lowering .el5 := by
    cases ht : s.enm.transition <;> simp [loweringTo, ht, resting_iff]
  rw [mem_salesReasons, reasonHolds, Bool.or_eq_true, resting_iff, hlowering, or_assoc]

/-! ### The queue of a sales event (R120, R121) -/

/-- No panel has two entries. -/
def PanelsDistinct (q : List QueueEntry) : Prop := (q.map (·.panel)).Nodup

/-- The urgent entries with one for a panel behind them, and the ordinary ones of the other panels. -/
theorem panelsDistinct_urgent {a : Addr} {q : List QueueEntry} (h : PanelsDistinct q)
    (ha : ∀ e ∈ q, e.panel = a → e.urgent = false) :
    PanelsDistinct (q.filter (·.urgent) ++ ⟨a, true⟩ :: q.filter fun e => !e.urgent && !(e.panel == a)) := by
  have hperm : (q.filter (·.urgent) ++ q.filter fun e => !e.urgent).Perm q := List.filter_append_perm _ q
  have hsub : (q.filter (·.urgent) ++ q.filter fun e => !e.urgent && !(e.panel == a)).Sublist
      (q.filter (·.urgent) ++ q.filter fun e => !e.urgent) := by
    refine (List.Sublist.refl _).append (List.monotone_filter_right q fun e he => ?_)
    exact (Bool.and_eq_true_iff.mp he).1
  have hrest := List.Nodup.sublist (hsub.map QueueEntry.panel) ((hperm.map QueueEntry.panel).nodup_iff.mpr h)
  unfold PanelsDistinct
  rw [(List.perm_middle.map QueueEntry.panel).nodup_iff, List.map_cons, List.nodup_cons]
  refine ⟨fun hmem => ?_, hrest⟩
  obtain ⟨e, he, hp⟩ := List.mem_map.mp hmem
  rcases List.mem_append.mp he with he | he
  · obtain ⟨hq, hu⟩ := List.mem_filter.mp he
    rw [ha e hq hp] at hu
    cases hu
  · simp [hp] at he

/-- An entry of a panel that has no other one. -/
theorem PanelsDistinct.eq_of_panel {q : List QueueEntry} (h : PanelsDistinct q) {e f : QueueEntry} (he : e ∈ q) (hf : f ∈ q)
    (hp : e.panel = f.panel) : e = f := List.inj_on_of_nodup_map h he hf hp

/-- What a request makes of the queue is what statements spell out, and no panel has two entries after it (R120). -/
theorem enqueue_placedEntry {a : Addr} {urgent : Bool} {q : List QueueEntry} (h : PanelsDistinct q) :
    enqueue a urgent q = placedEntry a urgent q ∧ PanelsDistinct (enqueue a urgent q) := by
  unfold enqueue placedEntry
  cases hfind : q.find? fun e => e.panel == a with
  | none =>
    have hno : ∀ e ∈ q, e.panel ≠ a := by simpa using hfind
    have hany : (q.any fun e => e.panel == a && (e.urgent || !urgent)) = false := by
      simpa using fun e he ha => absurd ha (hno e he)
    have hordinary : (q.filter fun e => !e.urgent && !(e.panel == a)) = q.filter fun e => !e.urgent :=
      List.filter_congr fun e he => by simp [hno e he]
    dsimp only
    rw [if_neg (c := (q.any fun e => e.panel == a && (e.urgent || !urgent)) = true) (by rw [hany]; exact Bool.false_ne_true)]
    cases urgent with
    | true =>
      rw [if_pos rfl, if_pos rfl, hordinary]
      refine ⟨rfl, ?_⟩
      rw [← hordinary]
      exact panelsDistinct_urgent h fun e he ha => absurd ha (hno e he)
    | false =>
      refine ⟨rfl, ?_⟩
      simpa [PanelsDistinct, List.nodup_append] using ⟨h, hno⟩
  | some e =>
    have hmem : e ∈ q := List.mem_of_find?_eq_some hfind
    have ha : e.panel = a := by simpa using List.find?_some hfind
    have hone : ∀ f ∈ q, f.panel = a → f = e := fun f hf hp => h.eq_of_panel hf hmem (hp.trans ha.symm)
    dsimp only
    by_cases hup : urgent = true ∧ e.urgent = false
    · obtain ⟨rfl, hu⟩ := hup
      have hany : ¬(q.any fun f => f.panel == a && (f.urgent || !true)) = true := by
        simpa using fun f hf hp => by rw [hone f hf hp, hu]
      rw [if_pos (by simp [hu]), if_neg hany, if_pos rfl]
      exact ⟨rfl, panelsDistinct_urgent h fun f hf hp => by rw [hone f hf hp, hu]⟩
    · have hany : (q.any fun f => f.panel == a && (f.urgent || !urgent)) = true := by
        refine List.any_eq_true.mpr ⟨e, hmem, ?_⟩
        cases urgent <;> cases hu : e.urgent <;> simp_all
      rw [if_neg (by cases urgent <;> cases hu : e.urgent <;> simp_all), if_pos hany]
      exact ⟨rfl, h⟩

/-- The requests for the panels of one kind, one after another. -/
theorem foldl_enqueueOf_kind {k : PanelKind} {urgent : Bool} {p : Four Profile} (l : List Addr) {q : List QueueEntry}
    (h : PanelsDistinct q) :
    l.foldl (fun q a => enqueueOf q a (requested (fun p => if p.kind = k then some urgent else none) p a)) q =
      (l.filter fun a => (p.get a).isPresent && (p.get a).kind == k).foldl (fun q a => placedEntry a urgent q) q := by
  induction l generalizing q with
  | nil => rfl
  | cons a l ih =>
    by_cases ha : (p.get a).isPresent = true ∧ (p.get a).kind = k
    · obtain ⟨he, hd⟩ := enqueue_placedEntry (a := a) (urgent := urgent) h
      have hasked : requested (fun p => if p.kind = k then some urgent else none) p a = some urgent := by
        rw [requested, if_pos ha.1, if_pos ha.2]
      rw [List.filter_cons_of_pos (by simp [ha]), List.foldl_cons, List.foldl_cons, hasked, enqueueOf, Option.elim_some, ih hd, he]
    · have hasked : requested (fun p => if p.kind = k then some urgent else none) p a = none := by
        unfold requested
        by_cases hp : (p.get a).isPresent = true
        · exact (if_pos hp).trans (if_neg fun hk => ha ⟨hp, hk⟩)
        · rw [if_neg hp]
      rw [List.filter_cons_of_neg (by simpa using ha), List.foldl_cons, hasked, enqueueOf, Option.elim_none, ih h]

/-! ### The sales event (R87, R119) -/

/-- Deciding the sales again moves the report and the queue alone. -/
theorem decideSales_eq (s : State) :
    decideSales s = { s with bdc.sales := firstReason s, bdc.queue := (decideSales s).bdc.queue } := by
  by_cases h : firstReason s = s.bdc.sales
  · rw [decideSales_of_same h]
    exact congrArg (fun r => { s with bdc.sales := r }) h.symm
  · have hd : decideSales s = requestKind .sales ((firstReason s).isNone != s.bdc.sales.isNone)
        { s with bdc.sales := firstReason s } := if_neg h
    rw [hd, requestKind, requestEach_state]

/-- The queue after it is what statements spell out, where no panel has two entries. -/
theorem decideSales_queue {s : State} (h : PanelsDistinct s.bdc.queue) : (decideSales s).bdc.queue = salesQueue s := by
  unfold salesQueue
  split
  next hf => rw [decideSales_of_same hf]
  next hf =>
    have hd : decideSales s = requestKind .sales ((firstReason s).isNone != s.bdc.sales.isNone)
        { s with bdc.sales := firstReason s } := if_neg hf
    rw [hd, requestKind, requestEach_queue]
    exact foldl_enqueueOf_kind allPanels h

/-- The queue is as it was where neither the open state nor the first reason has changed. -/
theorem decideSales_queue_of_same {s : State} (h : firstReason s = s.bdc.sales) : (decideSales s).bdc.queue = s.bdc.queue := by
  rw [decideSales_of_same h]

/-- Neither the report nor the queue is a reason. -/
theorem salesReasons_decideSales (s : State) : salesReasons (decideSales s) = salesReasons s := by
  rw [decideSales_eq]
  rfl

/-- The report stands as the reasons do. -/
theorem sales_decideSales (s : State) : (decideSales s).bdc.sales = (salesReasons (decideSales s)).head? := by
  rw [salesReasons_decideSales, decideSales_eq]
  rfl

/-! ### The requests (R88) -/

theorem salesCloseRule_eq (s : State) : salesCloseRule s =
    (withdraw .closed (decideSales { s with slc.hostClosed := true }),
      done (.salesState (salesReasons (withdraw .closed (decideSales { s with slc.hostClosed := true }))).isEmpty
        (salesReasons (withdraw .closed (decideSales { s with slc.hostClosed := true }))))) := rfl

theorem salesOpenRule_eq (s : State) : salesOpenRule s = (decideSales { s with slc.hostClosed := false },
    done (.salesState (salesReasons (decideSales { s with slc.hostClosed := false })).isEmpty
      (salesReasons (decideSales { s with slc.hostClosed := false })))) := rfl

/-- Settles O35: the event by what deciding the sales moves, the withdrawal by the slot, and the reasons one by one. -/
theorem hostClosesAndOpensSales : Obligations.HostClosesAndOpensSales := by
  refine ⟨fun s hl => ?_, fun s => ?reasons⟩
  case reasons =>
    refine ⟨List.filter_sublist, List.isEmpty_iff, (mem_salesReasons _ s).trans Option.isNone_iff_eq_none,
      (mem_salesReasons _ s).trans Option.isNone_iff_eq_none, ?_, mem_level_salesReasons s, mem_salesReasons _ s, ?_⟩
    · rw [mem_salesReasons, reasonHolds, beq_iff_eq, freeCount_eq_zero_iff]
    · rw [mem_salesReasons, reasonHolds, decide_eq_true_iff, lastSerial]
  intro w state told asked
  have hasked (v : State) : asked v (decideSales v).bdc.queue :=
    ⟨decideSales_queue_of_same, fun h => decideSales_queue h.1⟩
  refine ⟨⟨_, hasked { w with slc.hostClosed := true }, ?_, fun hq => ?quoted, fun hq => ?unquoted⟩,
    _, hasked { w with slc.hostClosed := false }, ?_, ?opened⟩
  · exact (mem_salesReasons _ _).mpr rfl
  case quoted =>
    obtain ⟨q, left, hslot⟩ : ∃ q left, w.slc.slot = .quoted q left := by
      cases h : w.slc.slot with
      | quoted q left => exact ⟨q, left, rfl⟩
      | idle => rw [h] at hq; cases hq
      | printing x left => rw [h] at hq; cases hq
    have hrule := salesCloseRule_eq w
    rw [decideSales_eq, withdraw_quoted .closed (by exact hslot)] at hrule
    exact does_of_rule hl rfl rfl rfl hrule
  case unquoted =>
    have hrule := salesCloseRule_eq w
    rw [decideSales_eq, withdraw_unquoted .closed (by exact hq)] at hrule
    exact does_of_rule hl rfl rfl rfl hrule
  · exact fun hmem => Bool.false_ne_true ((mem_salesReasons _ _).mp hmem)
  case opened =>
    have hrule := salesOpenRule_eq w
    rw [decideSales_eq] at hrule
    exact does_of_rule hl rfl rfl rfl hrule

end Sys2Proof.Machine
end

section
/-! SUPPORT. SALE-COMMIT: its checks one after another, the place reserved, and the thresholds after it (R81, R82, R100). -/

namespace Sys2Proof.Machine

/-! ### The thresholds (R100) -/

/-- A threshold's armed flag that stays as it is. -/
theorem keep_lowArmed {s : State} {b : Bool} (h : s.sjn.lowArmed = b) : s = { s with sjn.lowArmed := b } :=
  congrArg (fun b => { s with sjn.lowArmed := b }) h

theorem keep_fullArmed {s : State} {b : Bool} (h : s.sjn.fullArmed = b) : s = { s with sjn.fullArmed := b } :=
  congrArg (fun b => { s with sjn.fullArmed := b }) h

/-- The low threshold is armed exactly above its level after its evaluation, and raised where it was armed at or below it. -/
theorem evaluateLow_eq (s : State) : evaluateLow s = { s with
    sjn.lowArmed := decide (s.sjn.low < freeCount s)
    hlk.notices := raisedIf (s.sjn.lowArmed && decide (freeCount s ≤ s.sjn.low)) 5 s.hlk.notices } := by
  have habove : decide (s.sjn.low < freeCount s) = !decide (freeCount s ≤ s.sjn.low) := by
    rw [← decide_not, decide_eq_decide]
    omega
  unfold evaluateLow
  rw [habove]
  cases ha : s.sjn.lowArmed <;> cases decide (freeCount s ≤ s.sjn.low)
  case false.false => rfl
  case false.true => exact keep_lowArmed ha
  case true.false => exact keep_lowArmed ha
  case true.true => rfl

/-- The full threshold is armed exactly above 0 after its evaluation, and raised where it was armed at 0. -/
theorem evaluateFull_eq (s : State) : evaluateFull s = { s with
    sjn.fullArmed := decide (0 < freeCount s)
    hlk.notices := raisedIf (s.sjn.fullArmed && decide (freeCount s = 0)) 3 s.hlk.notices } := by
  have habove : decide (0 < freeCount s) = !decide (freeCount s = 0) := by
    rw [← decide_not, decide_eq_decide]
    omega
  unfold evaluateFull
  rw [habove]
  cases ha : s.sjn.fullArmed <;> cases decide (freeCount s = 0)
  case false.false => rfl
  case false.true => exact keep_fullArmed ha
  case true.false => exact keep_fullArmed ha
  case true.true => rfl

theorem evaluateThresholds_eq (s : State) : evaluateThresholds s = { s with
    sjn.lowArmed := decide (s.sjn.low < freeCount s)
    sjn.fullArmed := decide (0 < freeCount s)
    hlk.notices := raisedIf (s.sjn.fullArmed && decide (freeCount s = 0)) 3
      (raisedIf (s.sjn.lowArmed && decide (freeCount s ≤ s.sjn.low)) 5 s.hlk.notices) } := by
  rw [evaluateThresholds, evaluateFull_eq, evaluateLow_eq]
  rfl

/-! ### The checks of a commit (R81) -/

theorem displayText_iff (n : Nat) (t : Text) :
    displayText n t = true ↔ t.length ≤ n ∧ ∀ c ∈ t, 0x20 ≤ c.toNat ∧ c.toNat ≤ 0x7E := by
  simp only [displayText, Bool.and_eq_true, decide_eq_true_eq, List.all_eq_true, displayChar]

/-- The reference of a commit is absent or a display text of at most 16 characters. -/
theorem reference_all_iff (ref : Option Text) : ref.all (displayText 16) = true ↔
    ∀ t, ref = some t → t.length ≤ 16 ∧ ∀ c ∈ t, 0x20 ≤ c.toNat ∧ c.toNat ≤ 0x7E := by
  simp only [Option.all_eq_true, displayText_iff]

/-- Check 7: the bound service is eligible, and of the scheduled minute quoted. -/
theorem quoteStands_iff (q : Quote) (s : State) : quoteStands q s = true ↔
    ∀ b, q.bound = some b → ∃ v, namedService b.number q.dest s = .found v ∧ v.plan.minute = b.minute := by
  unfold quoteStands
  cases hb : q.bound with
  | none => simp
  | some b => cases hn : namedService b.number q.dest s <;> simp [hn]

section
variable {k : Payment} {ref : Option Text} {s : State} {q : Quote} {left : Nat}

theorem saleCommitRule_range (h : ref.all (displayText 16) = false) :
    saleCommitRule (.named k) ref s = (s, refuse .range .field) := by
  simp [saleCommitRule, h]

theorem saleCommitRule_busy (hr : ref.all (displayText 16) = true) (hs : slotState s.slc.slot ≠ .quoted) :
    saleCommitRule (.named k) ref s = (s, refuse .busy .none) := by
  cases hslot : s.slc.slot with
  | quoted q left => exact absurd (by rw [hslot]; rfl) hs
  | idle => simp [saleCommitRule, hr, hslot]
  | printing x left => simp [saleCommitRule, hr, hslot]

/-! With a quote the checks after it, in their order. -/

theorem saleCommitRule_payment (hr : ref.all (displayText 16) = true) (hs : s.slc.slot = .quoted q left)
    (hk : s.slc.kinds.get k = false) : saleCommitRule (.named k) ref s = (s, refuse .range .payment) := by
  simp [saleCommitRule, hr, hs, hk]

theorem saleCommitRule_full (hr : ref.all (displayText 16) = true) (hs : s.slc.slot = .quoted q left)
    (hk : s.slc.kinds.get k = true) (hf : freeCount s = 0) :
    saleCommitRule (.named k) ref s = (s, refuse .full .none) := by
  simp [saleCommitRule, hr, hs, hk, hf]

theorem saleCommitRule_closed (hr : ref.all (displayText 16) = true) (hs : s.slc.slot = .quoted q left)
    (hk : s.slc.kinds.get k = true) (hf : freeCount s ≠ 0) (ho : salesOpen s = false) :
    saleCommitRule (.named k) ref s = (s, ⟨.closed, .none, .reasons (salesReasons s)⟩) := by
  cases hc : s.clock with
  | none => simp [saleCommitRule, hr, hs, hk, hf, hc]
  | some c => simp [saleCommitRule, hr, hs, hk, hf, hc, ho]

/-- With sales open check 7 decides. -/
theorem saleCommitRule_open {c : ClockSetting} (hr : ref.all (displayText 16) = true) (hs : s.slc.slot = .quoted q left)
    (hk : s.slc.kinds.get k = true) (hf : freeCount s ≠ 0) (hc : s.clock = some c) (ho : salesOpen s = true) :
    saleCommitRule (.named k) ref s =
      if !quoteStands q s then (withdraw .service s, refuse .noneLeft .none) else commit q c.date k ref s := by
  simp [saleCommitRule, hr, hs, hk, hf, hc, ho]

end

/-! ### The commit (R82, R87, R100) -/

/-- The state that an accepted commit leaves before its change of the free count is reported. -/
def reservedFor (x : Sale) (s : State) : State :=
  { s with slc.slot := .printing x 30000, sjn.reserved := true, sjn.next := s.sjn.next + 1 }

/-- From a quote the slot goes on to PRINTING with the demand timer left as it is. -/
theorem commit_quoted {q p : Quote} {left : Nat} {s : State} (hs : s.slc.slot = .quoted q left) (date : Date) (k : Payment)
    (ref : Option Text) : commit p date k ref s =
      (reportFree (reservedFor ⟨p, s.sjn.next, date, k, ref⟩ s), done (.ticket (ticketOf ⟨p, s.sjn.next, date, k, ref⟩))) := by
  simp only [commit, putSlot, hs, slotState]
  rfl

/-- The free count's report moves the thresholds, their notices, and the sales event. -/
theorem reportFree_eq (s : State) : reportFree s = { s with
    sjn.lowArmed := decide (s.sjn.low < freeCount s)
    sjn.fullArmed := decide (0 < freeCount s)
    hlk.notices := raisedIf (s.sjn.fullArmed && decide (freeCount s = 0)) 3
      (raisedIf (s.sjn.lowArmed && decide (freeCount s ≤ s.sjn.low)) 5 s.hlk.notices)
    bdc.sales := firstReason (evaluateThresholds s)
    bdc.queue := (reportFree s).bdc.queue } := by
  have hd : reportFree s = { evaluateThresholds s with
      bdc.sales := firstReason (evaluateThresholds s), bdc.queue := (reportFree s).bdc.queue } := decideSales_eq _
  generalize firstReason (evaluateThresholds s) = sales, (reportFree s).bdc.queue = queue at hd ⊢
  rw [hd, evaluateThresholds_eq]

theorem freeCount_reportFree (s : State) : freeCount (reportFree s) = freeCount s := by
  rw [reportFree_eq]
  rfl

/-- A place reserved where none was. -/
theorem freeCount_reservedFor {x : Sale} {s : State} (h : s.sjn.reserved = false) :
    freeCount (reservedFor x s) = freeCount s - 1 := by
  simp [freeCount, reservedFor, h]

/-- The two thresholds' sources after the report. -/
theorem pending_reportFree {s : State} (hlen : s.hlk.notices.length = sourceCount) :
    (noticeAt (reportFree s) 5).pending = ((noticeAt s 5).pending || (s.sjn.lowArmed && decide (freeCount s ≤ s.sjn.low))) ∧
    (noticeAt (reportFree s) 3).pending = ((noticeAt s 3).pending || (s.sjn.fullArmed && decide (freeCount s = 0))) := by
  rw [reportFree_eq]
  constructor <;>
  · rw [Bool.eq_iff_iff, noticeAt_eq, noticeAt_eq]
    simp [pending_raisedIf, hlen, sourceCount, or_comm]

theorem reportFree_sjn (s : State) : (reportFree s).sjn =
    { s.sjn with lowArmed := decide (s.sjn.low < freeCount s), fullArmed := decide (0 < freeCount s) } := by
  rw [reportFree_eq]

theorem reportFree_slc (s : State) : (reportFree s).slc = s.slc := by rw [reportFree_eq]

theorem reportFree_clock (s : State) : (reportFree s).clock = s.clock := by rw [reportFree_eq]

theorem reportFree_tts (s : State) : (reportFree s).tts = s.tts := by rw [reportFree_eq]

theorem reportFree_tfe (s : State) : (reportFree s).tfe = s.tfe := by rw [reportFree_eq]

/-- The report leaves the sales report as the reasons stand, JOURNAL among them at a free count of 0. -/
theorem sales_reportFree (s : State) : (Reason.journal ∈ salesReasons (reportFree s) ↔ freeCount s = 0) ∧
    (reportFree s).bdc.sales = (salesReasons (reportFree s)).head? := by
  refine ⟨?_, sales_decideSales (evaluateThresholds s)⟩
  rw [mem_salesReasons, reasonHolds, freeCount_reportFree, beq_iff_eq]

/-- Settles O32: the checks one by one, and the commit by what it reserves and what the free count's report moves. -/
theorem commitReservesAndPrints : Obligations.CommitReservesAndPrints := by
  unfold Obligations.CommitReservesAndPrints
  constructor
  case left =>
    intro k t s hl ht
    have href : (some t).all (displayText 16) = false := by
      rwa [Option.all_some, ← Bool.not_eq_true, displayText_iff]
    exact does_of_saleRule hl rfl rfl rfl (saleCommitRule_range (s := atSales s) href)
  intro k ref s hl w buy href
  have hr := (reference_all_iff ref).mpr href
  have hdoes {u : State} {a : Answer} (h : saleCommitRule (.named k) ref w = (u, a)) : Does buy s 0xC1#8 a u :=
    does_of_saleRule hl rfl rfl rfl h
  have hw : w = atSales s := rfl
  have hkinds : w.slc.kinds = s.slc.kinds := by rw [hw, atSales_slc_kinds]
  have hcount : freeCount w = freeCount s := by rw [hw, freeCount_atSales]
  have hclock : w.clock = s.clock := by rw [hw, atSales_clock]
  have htts : w.tts = s.tts := by rw [hw, atSales_tts]
  have htfe : w.tfe = s.tfe := by rw [hw, atSales_tfe]
  have hsjn : w.sjn = s.sjn := by rw [hw, atSales_sjn]
  have hlen : w.hlk.notices.length = s.hlk.notices.length := by rw [hw, atSales_notices_length]
  clear_value w
  refine ⟨fun hs => hdoes (saleCommitRule_busy hr hs), fun q left c hs => ?quoted⟩
  refine ⟨fun hk => ?payment, fun hk hf => ?full, fun hk hf ho => ?closed, fun hk hf hc ho => ?opened⟩
  case payment => exact hdoes (saleCommitRule_payment hr hs (by rw [hkinds, hk]))
  case full => exact hdoes (saleCommitRule_full hr hs (by rw [hkinds, hk]) (by rw [hcount, hf]))
  case closed => exact hdoes (saleCommitRule_closed hr hs (by rw [hkinds, hk]) (by rwa [hcount]) ho)
  have hrule := saleCommitRule_open (ref := ref) hr hs (by rw [hkinds, hk]) (by rwa [hcount]) (by rw [hclock, hc]) ho
  refine ⟨fun hn => ?lapsed, ?committed⟩
  case lapsed =>
    have hq : quoteStands q w = false := by rwa [← Bool.not_eq_true, quoteStands_iff]
    rw [hq] at hrule
    exact hdoes hrule
  intro hst u free
  rw [(quoteStands_iff q w).mpr hst] at hrule
  have hcommit := commit_quoted (p := q) hs c.date k ref
  rw [hsjn] at hcommit
  generalize hx : (⟨q, s.sjn.next, c.date, k, ref⟩ : Sale) = x at hcommit ⊢
  have hu : u = reportFree (reservedFor x w) := congrArg Prod.fst hcommit
  have hfree : free = freeCount (reservedFor x w) := (congrArg freeCount hu).trans (freeCount_reportFree _)
  have hplace : s.sjn.reserved = false → free = freeCount s - 1 := fun h => by
    rw [hfree, freeCount_reservedFor (by rw [hsjn, h]), hcount]
  have hdone := hdoes (hrule.trans hcommit)
  have hraised := fun h => pending_reportFree (s := reservedFor x w) (hlen.trans h)
  have hsales := sales_reportFree (reservedFor x w)
  have hjournal := reportFree_sjn (reservedFor x w)
  have hslc := reportFree_slc (reservedFor x w)
  have hkept : u.clock = s.clock ∧ u.tts = s.tts ∧ u.tfe = s.tfe := by
    rw [hu, reportFree_clock, reportFree_tts, reportFree_tfe]
    exact ⟨hclock, htts, htfe⟩
  rw [← hu] at hdone hsales hjournal hslc hraised
  rw [← hfree] at hsales hjournal hraised
  simp only [reservedFor, hsjn] at hjournal hslc hraised
  rw [hjournal, hslc]
  exact ⟨hdone, hplace, rfl, rfl, rfl, hraised, hsales.1, hsales.2, rfl, rfl, rfl, rfl, rfl, hkept⟩

end Sys2Proof.Machine
end

section
/-! SUPPORT. The target level from what asks for a level (R155), what computing it again starts (R156 to R158), and the rail mode
that follows (R143). -/

namespace Sys2Proof.Machine

/-! ### The target level (R155) -/

/-- What asks for a level: the demand and the limits in force. -/
def Asked (s : State) (x : Level) : Prop := x = s.awu.demand ∨ s.enm.battery = some x ∨ s.enm.coldLimit = some x ∨
  s.enm.quietLimit = some x ∨ s.enm.hostLimit = some x

theorem levelEnabled_iff (s : State) (x : Level) :
    levelEnabled s x = true ↔ x = .el4 ∨ x = .el5 ∨ (s.enm.table.get x).draw ≤ s.enm.capacity := by
  rw [levelEnabled, Bool.or_eq_true, decide_eq_true_eq, resting_iff, or_assoc, levelEntry]

theorem mem_levelsFrom {l m : Level} (h : levelRank l ≤ levelRank m) : m ∈ levelsFrom l := by
  cases l <;> cases m <;> revert h <;> decide

/-- The levels from one downward are in order of rank. -/
theorem pairwise_levelsFrom (l : Level) : (levelsFrom l).Pairwise (levelRank · ≤ levelRank ·) := by
  cases l <;> decide

/-- The highest enabled level no higher than a level is the one that stands first among the enabled ones from it. -/
theorem highestEnabled_eq {s : State} {l₀ l : Level} (he : levelEnabled s l = true) (hl : levelRank l₀ ≤ levelRank l)
    (hmin : ∀ x, levelEnabled s x = true → levelRank l₀ ≤ levelRank x → levelRank l ≤ levelRank x) :
    highestEnabled s l₀ = l := by
  have hmem : l ∈ levelsFrom l₀ := mem_levelsFrom hl
  unfold highestEnabled
  cases hm : (levelsFrom l₀).find? (levelEnabled s) with
  | none => exact absurd he (List.find?_eq_none.mp hm l hmem)
  | some m =>
    obtain ⟨hmen, before, after, hsplit, hbefore⟩ := List.find?_eq_some_iff_append.mp hm
    have hlm : levelRank l ≤ levelRank m := hmin m hmen (levelRank_le_of_mem_levelsFrom (List.mem_of_find?_eq_some hm))
    have hml : levelRank m ≤ levelRank l := by
      have hsorted := pairwise_levelsFrom l₀
      rw [hsplit] at hmem hsorted
      rcases List.mem_append.mp hmem with hb | ha
      · exact absurd he (by simpa using hbefore l hb)
      · rcases List.mem_cons.mp ha with rfl | ha
        · exact le_rfl
        · exact List.rel_of_pairwise_cons (List.pairwise_append.mp hsorted).2.1 ha
    exact levelRank_inj (by rw [Option.getD_some]; omega)

/-- The lowest of some levels is one of them. -/
theorem foldl_lowerOf_mem (l : List Level) (a : Level) : l.foldl lowerOf a = a ∨ l.foldl lowerOf a ∈ l := by
  induction l generalizing a with
  | nil => exact .inl rfl
  | cons b l ih =>
    rcases ih (lowerOf a b) with h | h
    · rw [List.foldl_cons, h, lowerOf]
      split
      · exact .inr List.mem_cons_self
      · exact .inl rfl
    · exact .inr (List.mem_cons_of_mem _ h)

theorem asked_iff (s : State) (x : Level) : Asked s x ↔ x = s.awu.demand ∨ x ∈ activeLimits s := by
  simp [Asked, activeLimits, eq_comm]

/-- The lowest level asked for. -/
theorem foldl_activeLimits_eq {s : State} {l₀ : Level} (h : Asked s l₀)
    (hmax : ∀ x, Asked s x → levelRank x ≤ levelRank l₀) : (activeLimits s).foldl lowerOf s.awu.demand = l₀ := by
  have hle := levelRank_le_foldl_lowerOf ((asked_iff s l₀).mp h)
  have hge := hmax _ ((asked_iff s _).mpr (foldl_lowerOf_mem (activeLimits s) s.awu.demand))
  exact levelRank_inj (by omega)

/-- The substitutions of steps 3 and 4 of R155 on the clamped demand. -/
theorem computeTarget_cases {s : State} {l : Level} (h : clampedDemand s = l) :
    let ela := l = .el0 ∧ approachCondition s = true ∧ s.enm.battery = none ∧ s.enm.coldLimit = none ∧
      levelEnabled s .ela = true
    let brief := l = .el5 ∧ s.awu.brief = true ∧ s.enm.battery ≠ some .el5
    (ela → computeTarget s = .ela) ∧ (brief → levelEnabled s .el3 = true → computeTarget s = .el3) ∧
      (brief → ¬levelEnabled s .el3 = true → computeTarget s = .el4) ∧ (¬ela → ¬brief → computeTarget s = l) := by
  intro ela brief
  have hexcl (hb : brief) : ¬ela := fun he => absurd (he.1.symm.trans hb.1) nofun
  have htarget : computeTarget s = if ela then .ela else if brief then (if levelEnabled s .el3 then .el3 else .el4) else l := by
    unfold computeTarget
    dsimp only
    rw [h]
  rw [htarget]
  refine ⟨fun he => if_pos he, fun hb h3 => ?_, fun hb h3 => ?_, fun he hb => ?_⟩
  · rw [if_neg (hexcl hb), if_pos hb, if_pos h3]
  · rw [if_neg (hexcl hb), if_pos hb, if_neg h3]
  · rw [if_neg he, if_neg hb]

/-! ### The rail mode (R143) -/

/-- The mode of a rail level, as statements write it. -/
theorem railModeFor_eq (l : Level) (brief : Bool) : railModeFor l brief = match l with
    | .ela => .always
    | .el0 => .always
    | .el1 => .always
    | .el2 => .gated
    | .el3 => .gated
    | .el4 => .gated
    | .el5 => if brief then .gated else .off := by
  cases l <;> rfl

theorem followRailMode_always {s : State} (hm : railModeFor s.plc.railLevel s.awu.brief = .always)
    (hne : .always ≠ s.plc.mode) : followRailMode s = { s with
      plc.mode := .always, plc.idle := none, plc.rail := if s.plc.rail = .off then .settling 250 else s.plc.rail } := by
  unfold followRailMode
  dsimp only
  rw [hm, if_neg hne]
  rfl

theorem followRailMode_gated {s : State} (hm : railModeFor s.plc.railLevel s.awu.brief = .gated)
    (hne : .gated ≠ s.plc.mode) : followRailMode s = { s with
      plc.mode := .gated
      plc.rail := if s.plc.rail = .off ∧ s.plc.line.isSome then .settling 250 else s.plc.rail
      plc.idle := if s.plc.rail = .on ∧ s.plc.line = none then some 2000 else s.plc.idle } := by
  unfold followRailMode
  dsimp only
  rw [hm, if_neg hne]
  simp only [Bool.and_eq_true, decide_eq_true_eq, Option.isNone_iff_eq_none]
  rfl

theorem followRailMode_switchedOff {s : State} (hm : railModeFor s.plc.railLevel s.awu.brief = .off)
    (hne : .off ≠ s.plc.mode) : followRailMode s = { s with
      plc.mode := .off, plc.idle := none, plc.rail := if s.plc.line = none then .off else s.plc.rail } := by
  unfold followRailMode
  dsimp only
  rw [hm, if_neg hne]
  simp only [Option.isNone_iff_eq_none]

/-! ### What computing the target again moves (R155 to R158) -/

/-- The start of a lowering toward EL4 or EL5 under each state of the slot (R89, R158). -/
theorem startLowering_resting {d : Level} {s : State} (hd : resting d = true) :
    startLowering d s = withdraw .level (decideSales { s with enm.transition := .lowering d }) := if_pos hd

theorem startLowering_serving {d : Level} {s : State} (hd : resting d ≠ true) :
    startLowering d s = { s with enm.transition := .lowering d } := if_neg hd

/-- A withdrawal moves the slot with its reason, the demand timer, and the notices. -/
theorem withdraw_eq (why : Withdrawal) (s : State) : withdraw why s = { s with
    slc := (withdraw why s).slc, awu.timer := (withdraw why s).awu.timer, hlk.notices := (withdraw why s).hlk.notices } := by
  cases hs : s.slc.slot with
  | quoted q left => rw [withdraw_quoted why hs]
  | idle => rw [withdraw_unquoted why (by rw [hs]; nofun)]
  | printing x left => rw [withdraw_unquoted why (by rw [hs]; nofun)]

theorem withdraw_bdc (why : Withdrawal) (s : State) : (withdraw why s).bdc = s.bdc := by
  rw [withdraw_eq]

/-- What computing the target again moves: the target, a transition with its draw, the sales event, the queue, the demand
timer, and what is not here (the rail, the slot, the notices). The tables stand. -/
structure Aims (s t : State) : Prop where
  enm : t.enm = { s.enm with target := t.enm.target, transition := t.enm.transition, draw := t.enm.draw }
  bdc : t.bdc = { s.bdc with sales := t.bdc.sales, queue := t.bdc.queue }
  awu : t.awu = { s.awu with timer := t.awu.timer }
  tts : t.tts = s.tts

theorem Aims.refl (s : State) : Aims s s := ⟨rfl, rfl, rfl, rfl⟩

theorem Aims.trans {s t u : State} (h : Aims s t) (k : Aims t u) : Aims s u where
  enm := by rw [k.enm, h.enm]
  bdc := by rw [k.bdc, h.bdc]
  awu := by rw [k.awu, h.awu]
  tts := k.tts.trans h.tts

theorem aims_decideSales (s : State) : Aims s (decideSales s) := by
  rw [decideSales_eq]
  exact ⟨rfl, rfl, rfl, rfl⟩

theorem aims_withdraw (why : Withdrawal) (s : State) : Aims s (withdraw why s) :=
  ⟨by rw [enm_withdraw], by rw [withdraw_bdc], by rw [withdraw_eq], (reacted_withdraw why s).tts⟩

/-- A rail mode moves the rail alone. -/
theorem followRailMode_eq (s : State) : followRailMode s = { s with plc := (followRailMode s).plc } := by
  unfold followRailMode
  dsimp only
  split
  · rfl
  · split <;> rfl

theorem aims_followRailMode (s : State) : Aims s (followRailMode s) := by
  rw [followRailMode_eq]
  exact ⟨rfl, rfl, rfl, rfl⟩

theorem aims_startRaise (d : Level) (s : State) : Aims s (startRaise d s) :=
  Aims.trans (t := { s with
    enm.transition := .raising d (if s.enm.present = .el5 then s.enm.dormantSettle else s.enm.raiseSettle)
    enm.draw := (levelEntry s d).draw
    plc.railLevel := d }) ⟨rfl, rfl, rfl, rfl⟩ (aims_followRailMode _)

theorem aims_startLowering (d : Level) (s : State) : Aims s (startLowering d s) := by
  have hstart : Aims s { s with enm.transition := .lowering d } := ⟨rfl, rfl, rfl, rfl⟩
  by_cases hd : resting d = true
  · rw [startLowering_resting hd]
    exact (hstart.trans (aims_decideSales _)).trans (aims_withdraw _ _)
  · rw [startLowering_serving hd]
    exact hstart

theorem retarget_in_flight {s : State} (h : s.enm.transition ≠ .none) :
    retarget s = { s with enm.target := computeTarget s } := by
  unfold retarget
  dsimp only
  split
  next ht => exact absurd ht h
  next => rfl

/-- The cases of a target computed again: a transition is in flight, the target is the present level, or a transition toward it
starts. -/
theorem retarget_induction {s : State} {P : State → Prop}
    (stays : s.enm.transition ≠ .none ∨ computeTarget s = s.enm.present → P { s with enm.target := computeTarget s })
    (raises : s.enm.transition = .none → levelRank (computeTarget s) < levelRank s.enm.present →
      P (startRaise (computeTarget s) { s with enm.target := computeTarget s }))
    (lowers : s.enm.transition = .none → levelRank s.enm.present < levelRank (computeTarget s) →
      P (startLowering (computeTarget s) { s with enm.target := computeTarget s })) : P (retarget s) := by
  by_cases ht : s.enm.transition = .none
  · rcases lt_trichotomy (levelRank (computeTarget s)) (levelRank s.enm.present) with hr | hr | hr
    · exact retarget_raises ht rfl hr ▸ raises ht hr
    · have hp := levelRank_inj hr
      exact retarget_stays ht rfl hp ▸ stays (.inr hp)
    · exact retarget_lowers ht rfl hr ▸ lowers ht hr
  · exact retarget_in_flight ht ▸ stays (.inl ht)

theorem aims_retarget (s : State) : Aims s (retarget s) := by
  have htarget : Aims s { s with enm.target := computeTarget s } := ⟨rfl, rfl, rfl, rfl⟩
  refine retarget_induction (fun _ => htarget) (fun _ _ => ?_) fun _ _ => ?_
  · exact htarget.trans (aims_startRaise _ _)
  · exact htarget.trans (aims_startLowering _ _)

/-- What asks for a level is as it was. -/
theorem Aims.computeTarget {s t : State} (h : Aims s t) : computeTarget t = computeTarget s := by
  unfold Machine.computeTarget clampedDemand highestEnabled levelEnabled levelEntry activeLimits approachCondition
  rw [h.enm, h.awu, h.tts]

/-! ### What stands after it -/

/-- The transition and the target that the start of a transition leaves. -/
theorem startRaise_enm (d : Level) (s : State) : (startRaise d s).enm = { s.enm with
    transition := .raising d (if s.enm.present = .el5 then s.enm.dormantSettle else s.enm.raiseSettle)
    draw := (levelEntry s d).draw } := (followRailMode_enm_bdc _).1

theorem startLowering_enm (d : Level) (s : State) : (startLowering d s).enm = { s.enm with transition := .lowering d } := by
  by_cases hd : resting d = true
  · rw [startLowering_resting hd, enm_withdraw, enm_decideSales]
  · rw [startLowering_serving hd]

/-- The target stands as it is computed (R155). -/
def TargetTold (s : State) : Prop := s.enm.target = computeTarget s

theorem targetTold_retarget (s : State) : TargetTold (retarget s) := by
  have hold : (retarget s).enm.target = computeTarget s := by
    refine retarget_induction (P := fun t => t.enm.target = computeTarget s) (fun _ => rfl) (fun _ _ => ?_) fun _ _ => ?_
    · rw [startRaise_enm]
    · rw [startLowering_enm]
  exact hold.trans (aims_retarget s).computeTarget.symm

/-- Without a transition in flight the present level is the target after it (R156). -/
theorem levelAtTarget_retarget (s : State) : LevelAtTarget (retarget s) := by
  refine retarget_induction (fun h ht => ?_) (fun _ _ ht => ?_) fun _ _ ht => ?_
  · exact (h.resolve_left (not_not.mpr ht)).symm
  · rw [startRaise_enm] at ht
    cases ht
  · rw [startLowering_enm] at ht
    cases ht

/-- The report stands as the reasons do (R87). -/
def SalesTold (s : State) : Prop := s.bdc.sales = (salesReasons s).head?

/-- The reasons depend on the clock, the tariff, the host close flag, the journal, the present level, and a lowering toward EL4
or EL5. -/
theorem salesReasons_eq {s t : State} (hc : t.clock = s.clock) (hf : t.tfe = s.tfe) (hj : t.sjn = s.sjn)
    (hh : t.slc.hostClosed = s.slc.hostClosed) (hp : t.enm.present = s.enm.present)
    (hl : (loweringTo t).any resting = (loweringTo s).any resting) : salesReasons t = salesReasons s := by
  have hholds : reasonHolds t = reasonHolds s := funext fun r => by
    cases r <;> simp only [reasonHolds, freeCount, hc, hf, hj, hh, hp, hl]
  rw [salesReasons, salesReasons, hholds]

/-- The same of a reaction. -/
theorem Reacted.salesTold {s t : State} (h : Reacted s t) (hb : t.bdc.sales = s.bdc.sales)
    (hp : t.enm.present = s.enm.present) (hl : (loweringTo t).any resting = (loweringTo s).any resting)
    (hs : SalesTold s) : SalesTold t := by
  rw [SalesTold, hb, salesReasons_eq h.clock h.tfe h.sjn h.hostClosed hp hl]
  exact hs

theorem salesTold_decideSales (s : State) : SalesTold (decideSales s) := sales_decideSales s

theorem salesTold_withdraw {s : State} (why : Withdrawal) (h : SalesTold s) : SalesTold (withdraw why s) :=
  (reacted_withdraw why s).salesTold (by rw [withdraw_bdc]) (by rw [enm_withdraw])
    (by rw [loweringTo, enm_withdraw, loweringTo]) h

theorem salesTold_startLowering {d : Level} {s : State} (ht : s.enm.transition = .none) (h : SalesTold s) :
    SalesTold (startLowering d s) := by
  by_cases hd : resting d = true
  · rw [startLowering_resting hd]
    exact salesTold_withdraw _ (salesTold_decideSales _)
  · have hstart := reacted_startLowering d s
    rw [startLowering_serving hd] at hstart ⊢
    refine hstart.salesTold rfl rfl ?_ h
    simp [loweringTo, ht, hd]

theorem salesTold_startRaise {d : Level} {s : State} (ht : s.enm.transition = .none) (h : SalesTold s) :
    SalesTold (startRaise d s) := by
  have hbdc : (startRaise d s).bdc = s.bdc := (followRailMode_enm_bdc _).2
  refine (reacted_startRaise d s).salesTold (by rw [hbdc]) (by rw [startRaise_enm]) ?_ h
  rw [loweringTo, startRaise_enm, loweringTo, ht]

theorem salesTold_retarget {s : State} (h : SalesTold s) : SalesTold (retarget s) := by
  have htarget : SalesTold { s with enm.target := computeTarget s } := h
  exact retarget_induction (fun _ => htarget) (fun ht _ => salesTold_startRaise ht htarget)
    fun ht _ => salesTold_startLowering ht htarget

end Sys2Proof.Machine
end

section
/-! SUPPORT. The ends of the transitions and the stale timer (R151, R157 to R160), and TransitionsComplete. -/

namespace Sys2Proof.Machine

/-! ### The start of a transition, as statements write it -/

/-- A lowering toward EL4 or EL5 that computing the target starts (R89, R158). -/
theorem retarget_rests {s : State} (ht : s.enm.transition = .none)
    (hr : levelRank s.enm.present < levelRank (computeTarget s)) (hd : computeTarget s = .el4 ∨ computeTarget s = .el5) :
    (retarget s).enm = { s.enm with target := computeTarget s, transition := .lowering (computeTarget s) } ∧
      Reason.level ∈ salesReasons (retarget s) ∧ (retarget s).plc = s.plc ∧
      (∀ q n, s.slc.slot = .quoted q n → (retarget s).slc.slot = .idle ∧ (retarget s).slc.lastReason = some .level ∧
        (s.hlk.notices.length = sourceCount → (noticeAt (retarget s) 6).pending = true)) ∧
      (slotState s.slc.slot ≠ .quoted → (retarget s).slc = s.slc ∧ (retarget s).hlk = s.hlk) := by
  have hstart := retarget_lowers ht rfl hr
  have henm : (retarget s).enm = { s.enm with target := computeTarget s, transition := .lowering (computeTarget s) } := by
    rw [hstart, startLowering_enm]
  rw [startLowering_resting ((resting_iff _).mpr hd), decideSales_eq] at hstart
  refine ⟨henm, ?_, ?_, fun q n hq => ?_, fun hq => ?_⟩
  · rw [mem_level_salesReasons, henm]
    rcases hd with h | h <;> simp [h]
  · rw [hstart, withdraw_eq]
  · rw [hstart, withdraw_quoted .level (by exact hq)]
    refine ⟨rfl, rfl, fun hlen => ?_⟩
    rw [noticeAt_eq, noticeIn_raisedAt, if_pos ⟨rfl, by rw [hlen]; decide⟩]
  · rw [hstart, withdraw_unquoted .level (by exact hq)]
    exact ⟨rfl, rfl⟩

/-! ### A brief episode judged -/

theorem judgeBriefStart_eq (s : State) : judgeBriefStart s = if briefStarts s then
    retarget (followRailMode { s with awu.brief := true, awu.returnTimer := .running (s.awu.config.returnTime * 1000) })
    else s := rfl

/-- Where it starts the target is computed again. -/
theorem targetTold_judgeBriefStart {s : State} (h : TargetTold s) : TargetTold (judgeBriefStart s) := by
  rw [judgeBriefStart_eq]
  split
  · exact targetTold_retarget _
  · exact h

theorem salesTold_followRailMode {s : State} (h : SalesTold s) : SalesTold (followRailMode s) := by
  obtain ⟨henm, hbdc⟩ := followRailMode_enm_bdc s
  exact (reacted_followRailMode s).salesTold (by rw [hbdc]) (by rw [henm]) (by rw [loweringTo, henm, loweringTo]) h

theorem salesTold_judgeBriefStart {s : State} (h : SalesTold s) : SalesTold (judgeBriefStart s) := by
  rw [judgeBriefStart_eq]
  split
  · exact salesTold_retarget (salesTold_followRailMode (s := { s with
      awu.brief := true, awu.returnTimer := .running (s.awu.config.returnTime * 1000) }) h)
  · exact h

/-- Of the Energy Manager and the Board Composer it moves what computing the target again does. -/
theorem judgeBriefStart_enm_bdc (s : State) :
    (judgeBriefStart s).enm = { s.enm with
      target := (judgeBriefStart s).enm.target
      transition := (judgeBriefStart s).enm.transition
      draw := (judgeBriefStart s).enm.draw } ∧
    (judgeBriefStart s).bdc = { s.bdc with
      sales := (judgeBriefStart s).bdc.sales, queue := (judgeBriefStart s).bdc.queue } := by
  rw [judgeBriefStart_eq]
  split
  · have h := (aims_followRailMode { s with
      awu.brief := true, awu.returnTimer := .running (s.awu.config.returnTime * 1000) }).trans (aims_retarget _)
    exact ⟨h.enm, h.bdc⟩
  · exact ⟨rfl, rfl⟩

/-! ### A completion (R160, Table 9-6) -/

/-- The load settings that the Board Composer takes, with the credit of a raise out of EL5 (R118, R122, R127). -/
theorem dormantCredit_takeLoadSettings (left : Level) (s : State) : dormantCredit left (takeLoadSettings s) = { s with
    bdc.credit := if left = .el5 ∧ min s.bdc.credit (presentEntry s).depth = 0 then min 1 (presentEntry s).depth
      else min s.bdc.credit (presentEntry s).depth
    bdc.accrual := accrualPeriod (presentEntry s).rate
    bdc.rotation := if rotates s then some ((presentEntry s).rotation * 1000) else none
    bdc.lamp := if lampLit s then (presentEntry s).lamp else 0 } := by
  have htake : takeLoadSettings s = { s with
      bdc.credit := min s.bdc.credit (presentEntry s).depth
      bdc.accrual := accrualPeriod (presentEntry s).rate
      bdc.rotation := if rotates s then some ((presentEntry s).rotation * 1000) else none
      bdc.lamp := if lampLit s then (presentEntry s).lamp else 0 } := rfl
  have hentry : presentEntry (takeLoadSettings s) = presentEntry s := rfl
  unfold dormantCredit
  rw [hentry, htake]
  dsimp only
  by_cases hempty : left = .el5 ∧ min s.bdc.credit (presentEntry s).depth = 0
  · by_cases hdepth : 1 ≤ (presentEntry s).depth
    · rw [if_pos ⟨hempty.1, hempty.2, hdepth⟩, if_pos hempty, Nat.min_eq_left hdepth]
    · have hzero : (presentEntry s).depth = 0 := by omega
      rw [if_neg fun h => hdepth h.2.2, if_pos hempty, hzero, Nat.min_zero, Nat.min_zero]
  · rw [if_neg fun h => hempty ⟨h.1, h.2.1⟩, if_neg hempty]

/-- The part at its new level, before a brief episode is judged and the target compared. -/
def arrivedAt (d : Level) (s : State) : State :=
  raiseNotice .levelChanged (decideSales (dormantCredit s.enm.present (takeLoadSettings
    { s with enm.present := d, enm.previous := some s.enm.present, enm.transition := .none })))

theorem completeAt_eq (d : Level) (s : State) : completeAt d s =
    retarget (if d = .el5 then judgeBriefStart (arrivedAt d s) else arrivedAt d s) := rfl

theorem arrivedAt_enm (d : Level) (s : State) : (arrivedAt d s).enm =
    { s.enm with present := d, previous := some s.enm.present, transition := .none } := by
  rw [arrivedAt, raiseNotice_enm, decideSales_eq, dormantCredit_takeLoadSettings]

theorem salesTold_arrivedAt (d : Level) (s : State) : SalesTold (arrivedAt d s) := by
  unfold arrivedAt
  generalize dormantCredit s.enm.present _ = v
  exact salesTold_decideSales v

theorem pending_arrivedAt (d : Level) {s : State} (h : s.hlk.notices.length = sourceCount) :
    (noticeAt (arrivedAt d s) 10).pending = true := by
  refine (raiseNotice_raises (src := .levelChanged) ?_).1
  rw [decideSales_eq, dormantCredit_takeLoadSettings]
  exact h ▸ by decide

/-- What a completion at `d` from `s` leaves, as statements write it: the levels, LEVEL-CHANGED, the target, the load settings
and the lamp of the new level, and the report of the reasons. -/
structure CompletedAt (d : Level) (s u : State) : Prop where
  present : u.enm.present = d
  previous : u.enm.previous = some s.enm.present
  changed : s.hlk.notices.length = sourceCount → (noticeAt u 10).pending = true
  atTarget : LevelAtTarget u
  target : u.enm.target = computeTarget u
  credit : u.bdc.credit = if s.enm.present = .el5 ∧ min s.bdc.credit (s.enm.table.get d).depth = 0 then
    min 1 (s.enm.table.get d).depth else min s.bdc.credit (s.enm.table.get d).depth
  accrual : u.bdc.accrual = accrualPeriod (s.enm.table.get d).rate
  rotation : u.bdc.rotation =
    if rotates { s with enm.present := d } then some ((s.enm.table.get d).rotation * 1000) else none
  lamp : u.bdc.lamp = if lampLit { s with enm.present := d } then (s.enm.table.get d).lamp else 0
  sales : u.bdc.sales = (salesReasons u).head?

theorem arrivedAt_bdc (d : Level) (s : State) : (arrivedAt d s).bdc = { s.bdc with
    credit := if s.enm.present = .el5 ∧ min s.bdc.credit (s.enm.table.get d).depth = 0 then
      min 1 (s.enm.table.get d).depth else min s.bdc.credit (s.enm.table.get d).depth
    accrual := accrualPeriod (s.enm.table.get d).rate
    rotation := if rotates { s with enm.present := d } then some ((s.enm.table.get d).rotation * 1000) else none
    lamp := if lampLit { s with enm.present := d } then (s.enm.table.get d).lamp else 0
    sales := (arrivedAt d s).bdc.sales
    queue := (arrivedAt d s).bdc.queue } := by
  have hbdc : (arrivedAt d s).bdc = { (dormantCredit s.enm.present (takeLoadSettings { s with
      enm.present := d, enm.previous := some s.enm.present, enm.transition := .none })).bdc with
      sales := (arrivedAt d s).bdc.sales, queue := (arrivedAt d s).bdc.queue } := (aims_decideSales _).bdc
  generalize (arrivedAt d s).bdc.sales = sales, (arrivedAt d s).bdc.queue = queue at hbdc ⊢
  rw [hbdc, dormantCredit_takeLoadSettings]
  rfl

/-- What follows the arrival: a brief episode judged at EL5, and the target compared. -/
theorem completedAt_of_arrived {d : Level} {s v : State} (hv : v = arrivedAt d s ∨ v = judgeBriefStart (arrivedAt d s)) :
    CompletedAt d s (retarget v) := by
  have hframe : v.enm = { (arrivedAt d s).enm with
        target := v.enm.target, transition := v.enm.transition, draw := v.enm.draw } ∧
      v.bdc = { (arrivedAt d s).bdc with sales := v.bdc.sales, queue := v.bdc.queue } ∧
      Reacted (arrivedAt d s) v ∧ SalesTold v := by
    rcases hv with rfl | rfl
    · exact ⟨rfl, rfl, .refl _, salesTold_arrivedAt d s⟩
    · obtain ⟨henm, hbdc⟩ := judgeBriefStart_enm_bdc (arrivedAt d s)
      exact ⟨henm, hbdc, reacted_judgeBriefStart _, salesTold_judgeBriefStart (salesTold_arrivedAt d s)⟩
  obtain ⟨henm, hbdc, hreacted, hsales⟩ := hframe
  rw [arrivedAt_enm] at henm
  rw [arrivedAt_bdc] at hbdc
  have haims := aims_retarget v
  constructor
  case present => rw [haims.enm, henm]
  case previous => rw [haims.enm, henm]
  case changed => exact fun h => (reacted_retarget v).raised 10 (hreacted.raised 10 (pending_arrivedAt d h))
  case atTarget => exact levelAtTarget_retarget v
  case target => exact targetTold_retarget v
  case sales => exact salesTold_retarget hsales
  all_goals rw [haims.bdc, hbdc]

theorem completedAt_completeAt (d : Level) (s : State) : CompletedAt d s (completeAt d s) := by
  rw [completeAt_eq]
  split
  · exact completedAt_of_arrived (.inr rfl)
  · exact completedAt_of_arrived (.inl rfl)

/-- A lowering's drain leaves the draw and the rail of its destination first, which a completion does not go by (R143, R158). -/
theorem completedAt_completeLowering (d : Level) (s : State) : CompletedAt d s (completeLowering d s) := by
  have h := completedAt_completeAt d (followRailMode { s with enm.draw := (levelEntry s d).draw, plc.railLevel := d })
  rw [← completeLowering, followRailMode_eq] at h
  exact ⟨h.present, h.previous, h.changed, h.atTarget, h.target, h.credit, h.accrual, h.rotation, h.lamp, h.sales⟩

/-- The rotation timer's condition, as statements write it (R118). -/
theorem rotates_iff (s : State) : rotates s = true ↔ 0 < (s.enm.table.get s.enm.present).rotation ∧
    2 ≤ s.bdc.host.length + s.bdc.auto.length ∧ ([Addr.p1, .p2, .p3, .p4].any fun a =>
      (s.bdc.profiles.get a).isPresent && (s.bdc.profiles.get a).kind == .messages) = true := by
  rw [rotates, Bool.and_eq_true, Bool.and_eq_true, decide_eq_true_iff, decide_eq_true_iff, and_assoc]
  rfl

theorem raiseSettled_raising {s : State} {d : Level} {n : Nat} (h : s.enm.transition = .raising d n) :
    raiseSettled s = completeAt d s := by
  simp only [raiseSettled, h, completeRaise]

theorem raiseSettled_of_ne {s : State} (h : ∀ d n, s.enm.transition ≠ .raising d n) : raiseSettled s = s := by
  unfold raiseSettled
  split
  next d n ht => exact absurd ht (h d n)
  next => rfl

/-! ### The drain (R159) -/

theorem drained_iff (d : Level) (s : State) : drained d s = true ↔
    s.plc.line = none ∧ (d = .el4 ∨ d = .el5 → slotState s.slc.slot ≠ .printing) := by
  rw [drained, Bool.and_eq_true, Option.isNone_iff_eq_none, Bool.not_eq_true', ← Bool.not_eq_true, Bool.and_eq_true,
    resting_iff, beq_iff_eq, not_and]

theorem drainReady_lowering {s : State} {d : Level} (h : s.enm.transition = .lowering d) :
    drainReady s = if drained d s then some d else none := by
  rw [drainReady, loweringTo, h]
  rfl

theorem drainReady_of_ne {s : State} (h : ∀ d, s.enm.transition ≠ .lowering d) : drainReady s = none := by
  have hnone : loweringTo s = none := by
    unfold loweringTo
    split
    next d ht => exact absurd ht (h d)
    next => rfl
  rw [drainReady, hnone, Option.bind_none]

theorem drainFirst_some {s : State} {d : Level} (h : drainReady s = some d) : drainFirst s = completeLowering d s := by
  rw [drainFirst, h, Option.elim_some]

theorem drainFirst_none {s : State} (h : drainReady s = none) : drainFirst s = s := by
  rw [drainFirst, h, Option.elim_none]

/-- The drained lowering is the reaction that stands once the line has been offered and no episode returns. -/
theorem bringsAbout_completeLowering {s : State} {d : Level} (hd : drainReady s = some d) (ho : LineOffered s)
    (hb : s.awu.brief = true → s.awu.returnTimer = .expired → ∃ e ∈ s.bdc.queue, e.urgent = true) :
    BringsAbout s (completeLowering d s) := by
  have hbrief : briefReturns s = false := by
    rw [← Bool.not_eq_true]
    intro h
    simp only [briefReturns, Bool.and_eq_true, decide_eq_true_eq, Bool.not_eq_true'] at h
    obtain ⟨⟨⟨hon, hexpired⟩, hurgent⟩, -⟩ := h
    have hwaits := ho.urgent.mpr (hb hon hexpired)
    rw [← ho.toTold.urgent_eq, hurgent] at hwaits
    cases hwaits
  exact bringsAbout_of_react (react_drain ho.toTold.urgent_eq ho.cold ho.probeReady ho.firstServable hbrief hd)

/-! ### The stale timer (R151, R154) -/

theorem setBattery_of_same {l : Option Level} {s : State} (h : l = s.enm.battery) : setBattery l s = s := if_pos h

/-- A changed BATTERY limit raises LIMIT-CHANGED and has the target computed again (R154, R173, R174). -/
theorem setBattery_changed {l : Option Level} {s : State} (h : l ≠ s.enm.battery) :
    Reacted (raiseNotice .limitChanged { s with enm.battery := l }) (setBattery l s) ∧ TargetTold (setBattery l s) := by
  unfold setBattery
  rw [if_neg h]
  dsimp only
  generalize raiseNotice .limitChanged { s with enm.battery := l } = v
  have hretarget : Reacted v (retarget v) ∧ TargetTold (retarget v) := ⟨reacted_retarget v, targetTold_retarget v⟩
  split
  · split
    · exact ⟨reacted_endBrief v, targetTold_retarget _⟩
    · exact hretarget
  · split
    · exact ⟨hretarget.1.trans (reacted_judgeBriefStart _), targetTold_judgeBriefStart hretarget.2⟩
    · exact hretarget

theorem staleExpiry_running {s : State} {n : Nat} (h : s.enm.staleTimer = some n) : staleExpiry s =
    setBattery (stricter (some .el2) s.enm.battery)
      (raiseNotice .supplyStale { s with enm.stale := true, enm.staleTimer := none }) := by
  simp only [staleExpiry, h]

theorem staleExpiry_stopped {s : State} (h : s.enm.staleTimer = none) : staleExpiry s = s := by
  simp only [staleExpiry, h]

/-- The stale flag, SUPPLY-STALE, and the stricter of EL2 and the limit in force. -/
theorem staleExpiry_spec {s : State} {n : Nat} (h : s.enm.staleTimer = some n) (hlen : s.hlk.notices.length = sourceCount) :
    (staleExpiry s).enm.stale = true ∧ (staleExpiry s).enm.staleTimer = none ∧
      (staleExpiry s).enm.battery = stricter (some .el2) s.enm.battery ∧ (noticeAt (staleExpiry s) 13).pending = true ∧
      ((staleExpiry s).enm.battery ≠ s.enm.battery →
        (noticeAt (staleExpiry s) 11).pending = true ∧ TargetTold (staleExpiry s)) := by
  have hstale : (noticeAt (raiseNotice .supplyStale { s with enm.stale := true, enm.staleTimer := none }) 13).pending = true :=
    (raiseNotice_raises (src := .supplyStale) (s := { s with enm.stale := true, enm.staleTimer := none })
      (hlen ▸ by decide)).1
  have hlength : (raiseNotice .supplyStale { s with enm.stale := true, enm.staleTimer := none }).hlk.notices.length =
      sourceCount := (List.length_modify _ _ _).trans hlen
  rw [staleExpiry_running h]
  generalize hw : raiseNotice .supplyStale { s with enm.stale := true, enm.staleTimer := none } = w at *
  have henm : w.enm = { s.enm with stale := true, staleTimer := none } := by rw [← hw, raiseNotice_enm]
  by_cases hl : stricter (some .el2) s.enm.battery = s.enm.battery
  · rw [setBattery_of_same (by rw [hl, henm])]
    rw [henm]
    exact ⟨rfl, rfl, hl.symm, hstale, fun hne => absurd rfl hne⟩
  · obtain ⟨hreacted, htold⟩ := setBattery_changed (l := stricter (some .el2) s.enm.battery) (s := w) (by rw [henm]; exact hl)
    have hchanged := (raiseNotice_raises (src := .limitChanged)
      (s := { w with enm.battery := stricter (some .el2) s.enm.battery }) (hlength ▸ by decide)).1
    refine ⟨hreacted.stale.trans ?_, hreacted.staleTimer.trans ?_, hreacted.battery, hreacted.raised 13 ?_, fun _ =>
      ⟨hreacted.raised 11 hchanged, htold⟩⟩
    · rw [raiseNotice_enm, henm]
    · rw [raiseNotice_enm, henm]
    · exact raiseNotice_noticeAt _ _ _ hstale

/-! ### TransitionsComplete -/

/-- Settles O51: the target from what asks for a level, the three outcomes of computing it again, the rail modes, and the three
events by whether their cause stands. -/
theorem transitionsComplete : Obligations.TransitionsComplete := by
  unfold Obligations.TransitionsComplete
  refine ⟨?target, fun s => ?starts, fun s m hm => ?rail, fun s hp hlen => ?ends⟩
  case target =>
    intro s l₀ l asked enabled hasked hmax he hl hmin ela brief
    have henabled (x : Level) : levelEnabled s x = true ↔ enabled x := levelEnabled_iff s x
    have hclamped : clampedDemand s = l := by
      rw [clampedDemand, foldl_activeLimits_eq hasked hmax]
      exact highestEnabled_eq ((henabled l).mpr he) hl fun x hx => hmin x ((henabled x).mp hx)
    have hcases := computeTarget_cases hclamped
    simp only [henabled] at hcases
    exact hcases
  case starts =>
    refine ⟨fun h => ?stays, fun ht hr => retarget_raises ht rfl hr, fun ht hr => ⟨fun h4 h5 => ?serving, retarget_rests ht hr⟩⟩
    case stays =>
      by_cases ht : s.enm.transition = .none
      · exact retarget_stays ht rfl (h.resolve_left (not_not.mpr ht))
      · exact retarget_in_flight ht
    case serving =>
      have hserving : resting (computeTarget s) ≠ true := fun h => ((resting_iff _).mp h).elim h4 h5
      exact (retarget_lowers ht rfl hr).trans (startLowering_serving hserving)
  case rail =>
    have hmode : railModeFor s.plc.railLevel s.awu.brief = m := (railModeFor_eq _ _).trans hm.symm
    refine ⟨fun h => followRailMode_of_same (hmode.trans h), fun hne => ⟨?_, ?_, ?_⟩⟩
    all_goals rintro rfl
    · exact followRailMode_always hmode hne
    · exact followRailMode_gated hmode hne
    · exact followRailMode_switchedOff hmode hne
  case ends =>
    intro completes
    have hcompletes {d : Level} {u : State} (h : CompletedAt d s u) : completes d u := by
      have hrotation := h.rotation
      simp only [rotates_iff] at hrotation
      exact ⟨h.present, h.previous, h.changed hlen, h.atTarget, h.target, ⟨h.credit, h.accrual, hrotation⟩, h.lamp, h.sales⟩
    have hraise : Happens .raiseSettleExpiry s (raiseSettled s) := happens_of_event hp rfl
    have hdrain : Happens .loweringComplete s (drainFirst s) := happens_of_event hp rfl
    have hstale : Happens .staleTimerExpiry s (staleExpiry s) := happens_of_event hp rfl
    refine ⟨fun d n ht => ⟨hraise, ?_⟩, fun ht => ?_, fun d ht hline hslot => ?_, fun d ht hwaits => ?_, fun ht => ?_,
      fun n hn => ⟨hstale, staleExpiry_spec hn hlen⟩, fun hn => ?_⟩
    · exact hcompletes (raiseSettled_raising ht ▸ completedAt_completeAt d s)
    · rwa [raiseSettled_of_ne ht] at hraise
    · have hready : drainReady s = some d := (drainReady_lowering ht).trans (if_pos ((drained_iff d s).mpr ⟨hline, hslot⟩))
      rw [drainFirst_some hready] at hdrain
      exact ⟨hdrain, hcompletes (completedAt_completeLowering d s), bringsAbout_completeLowering hready⟩
    · have hready : drainReady s = none := by
        refine (drainReady_lowering ht).trans (if_neg fun h => ?_)
        obtain ⟨hline, hslot⟩ := (drained_iff d s).mp h
        rcases hwaits with hbusy | ⟨hd, hprinting⟩
        · simp [hline] at hbusy
        · exact hslot hd hprinting
      rwa [drainFirst_none hready] at hdrain
    · rwa [drainFirst_none (drainReady_of_ne ht)] at hdrain
    · rwa [staleExpiry_stopped hn] at hstale

end Sys2Proof.Machine
end

section
/-! SUPPORT. The journal's books, that is the journal and the sale that a PRINTING slot holds: the moves that they can make (R94 to
R109), and what every move keeps of places, takings and serials. -/

namespace Sys2Proof.Machine

/-! ### The books and their moves -/

/-- The sale that a PRINTING slot holds (R73). -/
def heldSale : Slot → Option Sale
  | .printing x _ => some x
  | _ => none

theorem heldSale_isSome (slot : Slot) : (heldSale slot).isSome = true ↔ slotState slot = .printing := by
  cases slot <;> simp [heldSale, slotState]

theorem heldSale_eq_none {slot : Slot} (h : slotState slot ≠ .printing) : heldSale slot = none := by
  rwa [← Option.not_isSome_iff_eq_none, heldSale_isSome]

theorem heldSale_eq_some {slot : Slot} {x : Sale} : heldSale slot = some x ↔ ∃ left, slot = .printing x left := by
  cases slot <;> simp [heldSale]

/-- A journal with the sale that is on its way into it. -/
abbrev Books := Sjn × Option Sale

/-- The books of a part. -/
def books (s : State) : Books := (s.sjn, heldSale s.slc.slot)

/-- One change of the books: the threshold settings (R100, R101), marks handed out (R102), a release through a serial up to
which there is a record (R104), a place and a serial given to a sale (R96, R97), that sale's record appended (R98), an empty
journal cleared (R109), and what a loss leaves of the reservation and the thresholds (R108). -/
inductive BookMove : Books → Books → Prop where
  | thresholds (j : Sjn) (x : Option Sale) (low : Nat) (la fa : Bool) :
    BookMove (j, x) ({ j with low := low, lowArmed := la, fullArmed := fa }, x)
  | handed (j : Sjn) (x : Option Sale) (l : List Nat) :
    BookMove (j, x)
      ({ j with records := j.records.map fun r => if l.contains r.serial then { r with handed := true } else r }, x)
  | released (j : Sjn) (x : Option Sale) (n : Nat) (r : JRecord) (hr : r ∈ j.records) (hn : j.released < n)
      (hle : n ≤ r.serial) :
    BookMove (j, x)
      ({ j with
        records := j.records.filter fun r => decide (n < r.serial)
        released := n
        handedBack := PerPayment.build fun k =>
          j.handedBack.get k + faresOf k (j.records.filter fun r => decide (r.serial ≤ n)) }, x)
  | reserved (j : Sjn) (x : Sale) (hx : x.serial = j.next) (hfree : j.records.length < journalCapacity)
      (hnext : j.next ≤ lastSerial) :
    BookMove (j, none) ({ j with reserved := true, next := j.next + 1 }, some x)
  | concluded (j : Sjn) (x : Sale) (kind : RecordKind) (completion : Option Nat) :
    BookMove (j, some x) (concludedJournal x kind completion j, none)
  | cleared (j : Sjn) (hr : j.records = []) (hv : j.reserved = false) :
    BookMove (j, none) (⟨j.records, j.reserved, 1, 0, ⟨0, 0, 0⟩, ⟨0, 0, 0⟩, 64, true, true⟩, none)
  | lost (j : Sjn) (x : Option Sale) :
    BookMove (j, x) ({ j with reserved := x.isSome, lowArmed := true, fullArmed := true }, x)

/-- A property of the books that every move keeps holds after any number of moves. -/
theorem BookMove.keeps {P : Books → Prop} (hP : ∀ b c, BookMove b c → P b → P c) {b c : Books}
    (h : Relation.ReflTransGen BookMove b c) (hb : P b) : P c := by
  induction h with
  | refl => exact hb
  | tail _ hm ih => exact hP _ _ hm ih

/-! ### The places (R94, R96) -/

/-- The places of the journal, said of the books. -/
def Books.Fit (b : Books) : Prop :=
  (b.1.reserved = true ↔ b.2.isSome = true) ∧ b.1.records.length + (if b.1.reserved then 1 else 0) ≤ journalCapacity

theorem journalPlaces_iff (s : State) : JournalPlaces s ↔ Books.Fit (books s) := by
  rw [Books.Fit, books, heldSale_isSome]
  exact Iff.rfl

theorem BookMove.fit {b c : Books} (h : BookMove b c) (hb : Books.Fit b) : Books.Fit c := by
  obtain ⟨hr, hl⟩ := hb
  cases h with
  | thresholds j x low la fa => exact ⟨hr, hl⟩
  | handed j x l => exact ⟨hr, by rwa [List.length_map]⟩
  | released j x n r hm hn hle => exact ⟨hr, Nat.le_trans (Nat.add_le_add_right (List.length_filter_le _ _) _) hl⟩
  | reserved j x hx hfree hnext => exact ⟨by simp, hfree⟩
  | concluded j x kind completion =>
    have hres : j.reserved = true := hr.mpr rfl
    refine ⟨by simp [concludedJournal], ?_⟩
    simpa [concludedJournal, hres] using hl
  | cleared j hrec hv => exact ⟨hr, hl⟩
  | lost j x =>
    have hsame : j.reserved = x.isSome := Bool.eq_iff_iff.mpr hr
    exact ⟨Iff.rfl, by rwa [hsame] at hl⟩

/-! ### The takings (R106) -/

theorem faresOf_append (k : Payment) (l m : List JRecord) : faresOf k (l ++ m) = faresOf k l + faresOf k m := by
  simp [faresOf]

/-- A sale's record brings its total to its own kind where it is counted. -/
theorem faresOf_recordOf (k : Payment) (x : Sale) (kind : RecordKind) (completion : Option Nat) :
    faresOf k [recordOf x kind completion] = if k = x.payment ∧ counted kind = true then x.quote.total else 0 := by
  by_cases hk : x.payment = k <;> cases hc : counted kind <;> simp [faresOf, recordOf, hc, hk, eq_comm (a := k)]

/-- The marks take no part in the fares. -/
theorem faresOf_handed (k : Payment) (l : List Nat) (rs : List JRecord) :
    faresOf k (rs.map fun r => if l.contains r.serial then { r with handed := true } else r) = faresOf k rs := by
  have hmark : ∀ r : JRecord, (if l.contains r.serial then { r with handed := true } else r).kind = r.kind ∧
      (if l.contains r.serial then { r with handed := true } else r).payment = r.payment ∧
      (if l.contains r.serial then { r with handed := true } else r).total = r.total := fun r => by
    split <;> exact ⟨rfl, rfl, rfl⟩
  simp only [faresOf, List.filter_map, List.map_map, Function.comp_def, fun r => (hmark r).1, fun r => (hmark r).2.1,
    fun r => (hmark r).2.2]

/-- The fares through a serial and those beyond it are all fares. -/
theorem faresOf_split (k : Payment) (n : Nat) (rs : List JRecord) :
    faresOf k (rs.filter fun r => decide (r.serial ≤ n)) + faresOf k (rs.filter fun r => decide (n < r.serial)) =
      faresOf k rs := by
  induction rs with
  | nil => rfl
  | cons r rs ih =>
    rw [← List.singleton_append, List.filter_append, List.filter_append, faresOf_append, faresOf_append, faresOf_append, ← ih]
    by_cases h : r.serial ≤ n
    · simp [h, Nat.not_lt.mpr h, faresOf]
      omega
    · simp [h, Nat.lt_of_not_le h, faresOf]
      omega

/-- The takings balance, said of the books. -/
def Books.Balance (b : Books) : Prop :=
  ∀ k, b.1.lifetime.get k = b.1.handedBack.get k + faresOf k b.1.records

theorem BookMove.balance {b c : Books} (h : BookMove b c) (hb : Books.Balance b) : Books.Balance c := by
  intro k
  have hk := hb k
  cases h with
  | thresholds j x low la fa => exact hk
  | handed j x l => exact hk.trans (congrArg _ (faresOf_handed k l j.records).symm)
  | released j x n r hm hn hle =>
    have hsplit := faresOf_split k n j.records
    simp only [PerPayment.get_build] at hk ⊢
    omega
  | reserved j x hx hfree hnext => exact hk
  | concluded j x kind completion =>
    have happend := faresOf_append k j.records [recordOf x kind completion]
    rw [faresOf_recordOf] at happend
    rw [concludedJournal_lifetime]
    simp only [concludedJournal] at hk ⊢
    omega
  | cleared j hr hv =>
    simp only [hr]
    cases k <;> rfl
  | lost j x => exact hk

/-! ### The serials (R94, R97) -/

/-- The serials without a gap, said of the books. -/
def Books.RunOn (b : Books) : Prop :=
  (∀ i r, b.1.records[i]? = some r → r.serial = b.1.released + 1 + i) ∧
    (∀ x, b.2 = some x → x.serial = b.1.released + 1 + b.1.records.length) ∧
    b.1.next = b.1.released + 1 + b.1.records.length + (if b.2.isSome then 1 else 0) ∧ b.1.next ≤ 16777216

theorem serialsRunOn_iff (s : State) : SerialsRunOn s ↔ Books.RunOn (books s) := by
  have hheld : (∀ x, heldSale s.slc.slot = some x → x.serial = s.sjn.released + 1 + s.sjn.records.length) ↔
      ∀ x left, s.slc.slot = .printing x left → x.serial = s.sjn.released + 1 + s.sjn.records.length :=
    forall_congr' fun x => by rw [heldSale_eq_some]; exact forall_exists_index
  simp only [Books.RunOn, books, heldSale_isSome, hheld]
  exact Iff.rfl

/-- With serials that run on from `b`, what lies beyond `b + m` is what follows the first `m`. -/
theorem filter_serial_eq_drop {rs : List JRecord} {b m : Nat} (h : ∀ i r, rs[i]? = some r → r.serial = b + 1 + i) :
    rs.filter (fun r => decide (b + m < r.serial)) = rs.drop m := by
  induction rs generalizing b m with
  | nil => simp
  | cons r rs ih =>
    have hr : r.serial = b + 1 := h 0 r rfl
    have hrest : ∀ i x, rs[i]? = some x → x.serial = (b + 1) + 1 + i := fun i x hx => by
      have := h (i + 1) x hx
      omega
    cases m with
    | zero =>
      have hall := ih (m := 0) hrest
      rw [List.drop_zero] at hall ⊢
      rw [List.filter_cons_of_pos (by simp [hr]), List.filter_congr (q := fun x => decide (b + 1 + 0 < x.serial)), hall]
      intro x hx
      obtain ⟨i, hi⟩ := List.mem_iff_getElem?.mp hx
      have := hrest i x hi
      simp only [decide_eq_decide]
      omega
    | succ m =>
      have hdrop := ih (m := m) hrest
      rw [List.filter_cons_of_neg (by simp [hr]), List.drop_succ_cons, ← hdrop]
      congr! 3
      omega

theorem BookMove.runOn {b c : Books} (h : BookMove b c) (hb : Books.RunOn b) : Books.RunOn c := by
  obtain ⟨hserial, hheld, hnext, hlast⟩ := hb
  cases h with
  | thresholds j x low la fa => exact ⟨hserial, hheld, hnext, hlast⟩
  | handed j x l =>
    simp only at hserial hheld hnext
    refine ⟨fun i r hi => ?_, by rwa [List.length_map], by rwa [List.length_map], hlast⟩
    obtain ⟨y, hy, rfl⟩ := List.getElem?_map .. ▸ hi |> Option.map_eq_some_iff.mp
    rw [← hserial i y hy]
    split <;> rfl
  | released j x n r hm hn hle =>
    simp only at hserial hheld hnext hlast
    obtain ⟨i, hi⟩ := List.mem_iff_getElem?.mp hm
    have hlen : i < j.records.length := (List.getElem?_eq_some_iff.mp hi).1
    have hri := hserial i r hi
    obtain ⟨m, rfl⟩ : ∃ m, n = j.released + m := ⟨n - j.released, by omega⟩
    have hdrop := filter_serial_eq_drop (m := m) hserial
    refine ⟨fun i r hi => ?_, fun x hx => ?_, ?_, hlast⟩ <;> simp only [hdrop, List.length_drop, List.getElem?_drop] at *
    · have := hserial _ _ hi
      omega
    · have := hheld x hx
      omega
    · omega
  | reserved j x hx hfree hmax =>
    simp only [Option.isSome_none, Bool.false_eq_true, if_false] at hserial hnext
    refine ⟨hserial, fun y hy => ?_, ?_, ?_⟩
    · cases hy
      exact hx.trans hnext
    · simp only [Option.isSome_some, if_true]
      omega
    · simp only [lastSerial] at hmax ⊢
      omega
  | concluded j x kind completion =>
    have hx := hheld x rfl
    simp only [Option.isSome_some, if_true] at hserial hnext hx
    simp only [Books.RunOn, concludedJournal, List.length_append, List.length_singleton, Option.isSome_none,
      Bool.false_eq_true, if_false]
    refine ⟨fun i r hi => ?_, nofun, hnext, hlast⟩
    rcases Nat.lt_trichotomy i j.records.length with hlt | rfl | hgt
    · rw [List.getElem?_append_left hlt] at hi
      exact hserial i r hi
    · rw [List.getElem?_concat_length] at hi
      cases hi
      exact hx
    · rw [List.getElem?_eq_none (by simpa using hgt)] at hi
      cases hi
  | cleared j hr hv =>
    simp only [Books.RunOn, hr]
    exact ⟨nofun, nofun, rfl, by decide⟩
  | lost j x => exact ⟨hserial, hheld, hnext, hlast⟩

/-- Each issued serial is released, recorded or held, and one of these alone. -/
theorem Books.RunOn.accounts {b : Books} (h : b.RunOn) {n : Nat} (h1 : 1 ≤ n) (hn : n < b.1.next) :
    let released := n ≤ b.1.released
    let recorded := ∃ r ∈ b.1.records, r.serial = n
    let held := ∃ x, b.2 = some x ∧ x.serial = n
    (released ∧ ¬recorded ∧ ¬held) ∨ (¬released ∧ recorded ∧ ¬held) ∨ (¬released ∧ ¬recorded ∧ held) := by
  obtain ⟨hserial, hheld, hnext, -⟩ := h
  have hrecorded : (∃ r ∈ b.1.records, r.serial = n) ↔
      b.1.released < n ∧ n ≤ b.1.released + b.1.records.length := by
    constructor
    · rintro ⟨r, hr, rfl⟩
      obtain ⟨i, hi⟩ := List.mem_iff_getElem?.mp hr
      have hlen := (List.getElem?_eq_some_iff.mp hi).1
      have := hserial i r hi
      omega
    · rintro ⟨hlo, hhi⟩
      have hlen : n - b.1.released - 1 < b.1.records.length := by omega
      refine ⟨_, List.getElem_mem hlen, ?_⟩
      have := hserial _ _ (List.getElem?_eq_getElem hlen)
      omega
  have hholds : (∃ x, b.2 = some x ∧ x.serial = n) ↔
      b.2.isSome = true ∧ n = b.1.released + 1 + b.1.records.length := by
    constructor
    · rintro ⟨x, hx, rfl⟩
      exact ⟨by rw [hx]; rfl, hheld x hx⟩
    · rintro ⟨hs, rfl⟩
      obtain ⟨x, hx⟩ := Option.isSome_iff_exists.mp hs
      exact ⟨x, hx, hheld x hx⟩
  intro released recorded held
  simp only [released, recorded, held, hrecorded, hholds]
  split at hnext
  next hs => simp only [hs, true_and]; omega
  next hs => simp only [hs, Bool.false_eq_true, false_and, not_false_eq_true, and_true, and_false, or_false]; omega

end Sys2Proof.Machine
end

section
/-! SUPPORT. The operations that leave the books alone: journal and held sale through the boards, the panel line, the requests that
load, configure and read, the services, the levels and the clock. -/

namespace Sys2Proof.Machine

/-! ### What the blocks do to each other at once -/

/-- Whatever keeps the stores keeps the books: a quote that is withdrawn is no held sale. -/
theorem StoresKept.books {s t : State} (h : StoresKept s t) : books t = books s := by
  have hsale : heldSale t.slc.slot = heldSale s.slc.slot := by
    rcases h.slot with ⟨hs, -⟩ | ⟨hs, ht⟩
    · rw [hs]
    · rw [ht, heldSale_eq_none (slot := s.slc.slot) (by rw [hs]; nofun)]
      rfl
  exact Prod.ext h.sjn hsale

theorem Reacted.books {s t : State} (h : Reacted s t) : books t = books s := h.toStoresKept.books

theorem books_foldl {α : Type} {f : State → α → State} (hf : ∀ s a, books (f s a) = books s) (l : List α) (s : State) :
    books (l.foldl f s) = books s := by
  induction l generalizing s with
  | nil => rfl
  | cons a l ih => exact (ih _).trans (hf s a)

@[simp] theorem books_raiseNotice (src : Source) (s : State) : books (raiseNotice src s) = books s := rfl

@[simp] theorem books_requestRefresh (urgent : Bool) (s : State) (a : Addr) : books (requestRefresh urgent s a) = books s :=
  (reacted_requestRefresh urgent s a).books

@[simp] theorem books_requestEach (want : Profile → Option Bool) (s : State) : books (requestEach want s) = books s :=
  (reacted_requestEach want s).books

@[simp] theorem books_decideSales (s : State) : books (decideSales s) = books s := (reacted_decideSales s).books

@[simp] theorem books_withdraw (why : Withdrawal) (s : State) : books (withdraw why s) = books s :=
  (reacted_withdraw why s).books

@[simp] theorem books_retarget (s : State) : books (retarget s) = books s := (reacted_retarget s).books

@[simp] theorem books_endBrief (s : State) : books (endBrief s) = books s := (reacted_endBrief s).books

@[simp] theorem books_judgeBriefStart (s : State) : books (judgeBriefStart s) = books s := (reacted_judgeBriefStart s).books

@[simp] theorem books_activity (s : State) : books (activity s) = books s := (stores_activity s).books

@[simp] theorem books_wake (src : WokeSource) (e : Option Edge) (s : State) : books (wake src e s) = books s :=
  (stores_wake src e s).books

@[simp] theorem books_internalEvent (flag : Bool) (src : WokeSource) (s : State) :
    books (internalEvent flag src s) = books s := (stores_internalEvent flag src s).books

@[simp] theorem books_settle (s : State) : books (settle s) = books s := (reacted_settle s).books

/-! ### Message lists and the sold count -/

@[simp] theorem books_keepMessages (f : HostEntry → Bool) (g : AutoEntry → Bool) (s : State) :
    books (keepMessages f g s) = books s := by
  unfold keepMessages clearPosition
  split <;> rfl

@[simp] theorem books_removeHost (f : HostEntry → Bool) (s : State) : books (removeHost f s) = books s := by
  unfold removeHost requestKind
  dsimp only
  split <;> simp

@[simp] theorem books_tableEvent (s : State) : books (tableEvent s) = books s :=
  (books_keepMessages _ _ _).trans (books_requestEach _ s)

theorem books_boardsRollover (s : State) : books (boardsRollover s) = books s :=
  (books_requestEach _ _).trans (books_keepMessages _ _ s)

theorem books_changeEvent (old new : Service) (s : State) (c : ChangeCause) : books (changeEvent old new s c) = books s := by
  cases c
  case cancel =>
    unfold changeEvent
    dsimp only
    split <;> exact books_requestEach _ _
  case reinstate => exact (books_requestEach _ _).trans (books_keepMessages _ _ s)
  all_goals exact books_requestEach _ s

@[simp] theorem books_offerSold (date : Date) (number quantity : Nat) (s : State) :
    books (offerSold date number quantity s) = books s := by rw [offerSold_state]; rfl

/-! ### The panel line -/

@[simp] theorem books_setPanel (a : Addr) (p : PanelRecord) (s : State) : books (setPanel a p s) = books s := rfl

@[simp] theorem books_setLine (t : Option Transaction) (s : State) : books (setLine t s) = books s := rfl

@[simp] theorem books_endTransaction (s : State) : books (endTransaction s) = books s := (reacted_endTransaction s).books

@[simp] theorem books_failAttempt (silent : Bool) (t : Transaction) (s : State) :
    books (failAttempt silent t s) = books s := by
  unfold failAttempt goOffline
  dsimp only
  split_ifs <;> simp

@[simp] theorem books_probeAgain (silent : Bool) (t : Transaction) (r : Refresh) (left : Nat) (s : State) :
    books (probeAgain silent t r left s) = books s := by
  unfold probeAgain stuck
  split <;> simp

@[simp] theorem books_takeShow (t : Transaction) (r : Refresh) (s : State) : books (takeShow t r s) = books s := by
  unfold takeShow
  dsimp only
  split <;> rfl

@[simp] theorem books_takeDrawingState (t : Transaction) (r : Refresh) (left : Nat) (toggle busy : Bool) (s : State) :
    books (takeDrawingState t r left toggle busy s) = books s := by
  unfold takeDrawingState
  dsimp only
  split_ifs <;> simp

@[simp] theorem books_resynchronise (a : Addr) (toggle : Bool) (t : Int) (s : State) :
    books (resynchronise a toggle t s) = books s := by
  unfold resynchronise goCold
  dsimp only
  split_ifs <;> simp

@[simp] theorem books_takeProbeState (a : Addr) (toggle : Bool) (t : Int) (s : State) :
    books (takeProbeState a toggle t s) = books s := by
  have hcold : books (takeColdState a toggle t s) = books s := by
    unfold takeColdState
    dsimp only
    split <;> simp
  unfold takeProbeState
  split <;> simp [hcold]

@[simp] theorem books_applyAnswer (t : Transaction) (answer : PanelAnswer) (s : State) :
    books (applyAnswer t answer s) = books s := by
  unfold applyAnswer takeFault
  split <;> simp

@[simp] theorem books_takeAnswer (t : Transaction) (answer : PanelAnswer) (s : State) :
    books (takeAnswer t answer s) = books s := by
  unfold takeAnswer
  split <;> simp

@[simp] theorem books_takeSilence (t : Transaction) (s : State) : books (takeSilence t s) = books s := by
  have hrefresh (r : Refresh) (u : State) : books (refreshSilent t r u) = books u := by
    unfold refreshSilent
    split <;> simp
  unfold takeSilence probeSilent goOffline
  dsimp only
  split_ifs
  · simp
  · simp
  · split <;> simp [hrefresh]

theorem books_replyWait (s : State) : books (replyWait s) = books s := by
  unfold replyWait
  split
  · split <;> simp
  · rfl

theorem books_panelReplied (source : Addr) (ok : Bool) (answer : PanelAnswer) (s : State) :
    books (panelReplied source ok answer s) = books s := by
  unfold panelReplied
  split
  · split_ifs <;> simp
  · rfl

theorem books_drawingExpiry (s : State) : books (drawingExpiry s) = books s := by
  unfold drawingExpiry
  split <;> rfl

theorem books_intervalExpiry (s : State) : books (intervalExpiry s) = books s := by
  unfold intervalExpiry
  split <;> rfl

theorem books_retryExpiry (s : State) : books (retryExpiry s) = books s := by
  unfold retryExpiry
  split <;> rfl

theorem books_railSettled (s : State) : books (railSettled s) = books s := by
  have hfirst (t : Transaction) (u : State) : books (firstFrame t u) = books u := by
    unfold firstFrame
    split <;> rfl
  unfold railSettled
  split
  · dsimp only
    split
    · split
      · exact hfirst _ _
      · rfl
    · rfl
  · rfl

theorem books_railIdleExpiry (s : State) : books (railIdleExpiry s) = books s := by
  unfold railIdleExpiry
  split <;> rfl

theorem books_probeTimerExpiry (link : LinkState) (a : Addr) (s : State) :
    books (probeTimerExpiry link a s) = books s := by
  unfold probeTimerExpiry
  dsimp only
  split <;> rfl

theorem books_serveFirst (s : State) : books (serveFirst s) = books s := by
  unfold serveFirst
  split
  · exact (reacted_serve _ s).books
  · rfl

theorem books_probeFirst (s : State) : books (probeFirst s) = books s := by
  unfold probeFirst
  cases probeReady s with
  | none => rfl
  | some a => exact (reacted_startProbe a s).books

theorem books_panelResetRule (n : Nat) (s : State) : books (panelResetRule n s).1 = books s := by
  unfold panelResetRule
  split
  · rfl
  · dsimp only
    split_ifs <;> rfl

/-! ### Profiles, host messages and the boards' timers -/

theorem books_changeProfile (a : Addr) (p : Profile) (s : State) : books (changeProfile a p s) = books s := by
  have habsent (u : State) : books (panelAbsent a u) = books u := by
    rw [panelAbsent, (discardTransaction_state a _).1]
    rfl
  unfold changeProfile
  dsimp only
  split
  · exact habsent _
  · exact books_requestRefresh _ _ _
  · split
    · rfl
    · exact books_requestRefresh _ _ _
  · rfl

theorem books_panelProfileRule (n : Nat) (presence : Option (Coded Bool)) (k : Option (Coded PanelKind)) (r : Option Nat)
    (f : Option (Coded DirFilter)) (th : Option Nat) (s : State) :
    books (panelProfileRule n presence k r f th s).1 = books s := by
  unfold panelProfileRule
  split
  · rfl
  · split
    · rfl
    · exact books_changeProfile _ _ s

theorem books_boardTextRule (id : Nat) (p : Coded MsgPriority) (lines : List Text) (expiry : Option Nat) (s : State) :
    books (boardTextRule id p lines expiry s).1 = books s := by
  have hadd (q : MsgPriority) (kept : List HostEntry) (u : State) : books (addHost id q lines expiry kept u) = books u :=
    books_requestEach _ _
  have hplace (q : MsgPriority) : books (placeHost id q lines expiry s).1 = books s := by
    unfold placeHost
    dsimp only
    split_ifs
    · exact hadd _ _ s
    · exact hadd _ _ s
    · split
      · rfl
      · exact hadd _ _ s
  unfold boardTextRule
  split
  · rfl
  · split_ifs
    · rfl
    · rfl
    · exact hplace _

theorem books_boardTextDropRule (id : Option Nat) (s : State) : books (boardTextDropRule id s).1 = books s := by
  unfold boardTextDropRule
  dsimp only
  split <;> simp

theorem books_boardRefreshRule (n : Option Nat) (u : Coded Bool) (s : State) :
    books (boardRefreshRule n u s).1 = books s := by
  unfold boardRefreshRule requestAll
  split
  · rfl
  · simp
  · split
    · rfl
    · split <;> simp

theorem books_accrualExpiry (s : State) : books (accrualExpiry s) = books s := by
  unfold accrualExpiry
  split <;> rfl

theorem books_rotationExpiry (s : State) : books (rotationExpiry s) = books s := by
  unfold rotationExpiry
  split
  · exact books_requestEach _ _
  · rfl

/-! ### Tables and tariffs loaded -/

theorem books_tableOpenRule (date : Date) (k : Coded DayType) (a b v : Nat) (s : State) :
    books (tableOpenRule date k a b v s).1 = books s := by
  unfold tableOpenRule
  split
  · rfl
  · split <;> rfl

theorem books_tableAddRule (number : Nat) (d : Coded Direction) (minute platform : Nat) (calls : List Nat) (s : State) :
    books (tableAddRule number d minute platform calls s).1 = books s := by
  unfold tableAddRule
  repeat' split
  all_goals rfl

theorem books_tableCloseRule (s : State) : books (tableCloseRule s).1 = books s := by
  unfold tableCloseRule
  split <;> rfl

theorem books_tariffOpenRule (v : Nat) (date : Date) (s : State) : books (tariffOpenRule v date s).1 = books s := by
  unfold tariffOpenRule
  split <;> rfl

theorem books_tariffStationRule (code : Nat) (name : Text) (distance : Nat) (side : Coded Direction) (s : State) :
    books (tariffStationRule code name distance side s).1 = books s := by
  unfold tariffStationRule
  repeat' split
  all_goals rfl

theorem books_tariffRulesRule (r : Rules) (s : State) : books (tariffRulesRule r s).1 = books s := by
  unfold tariffRulesRule
  repeat' split
  all_goals rfl

/-! ### Notices, settings and the field inputs -/

theorem books_noticeClearRule (l : List Nat) (s : State) : books (noticeClearRule l s).1 = books s := by
  have hfold := books_foldl (f := clearNotice) fun _ _ => rfl
  unfold noticeClearRule
  dsimp only
  split
  · rfl
  · split <;> exact hfold _ s

theorem books_noticeConfigRule (l : List NoticeField) (d : Option (Coded DoorSense)) (s : State) :
    books (noticeConfigRule l d s).1 = books s := by
  have hfold := books_foldl (f := storeNotice) fun _ _ => rfl
  unfold noticeConfigRule storeDoorSense
  dsimp only
  split
  · rfl
  · split <;> exact hfold l s

theorem books_saleSettingsRule (k : Option (List (Coded Payment))) (t : Option (List (Coded TicketType))) (s : State) :
    books (saleSettingsRule k t s).1 = books s := by
  unfold saleSettingsRule
  split <;> rfl

theorem books_wakeConfigRule (f : WakeFields) (s : State) : books (wakeConfigRule f s).1 = books s := by
  unfold wakeConfigRule
  dsimp only
  split <;> rfl

theorem books_firstTaking (i : FieldInput) (high : Bool) (s : State) : books (firstTaking i high s) = books s := by
  unfold firstTaking
  dsimp only
  split_ifs <;> rfl

theorem books_inputEvent (i : FieldInput) (high : Bool) (s : State) : books (inputEvent i high s) = books s := by
  unfold inputEvent
  dsimp only
  split
  · have h := books_wake (.field i) (some (if high then .rising else .falling)) s
    split <;> exact h
  · split <;> simp

theorem books_filteredChange (i : FieldInput) (high : Bool) (s : State) : books (filteredChange i high s) = books s := by
  have hdoor : books (doorChange i high { s with awu.filtered := fiveSet s.awu.filtered i (some high) }) = books s := by
    unfold doorChange
    split <;> rfl
  have hlock (u : State) : books (if i = .call then { u with awu.lock := passLock high u.awu.lock } else u) = books u := by
    split <;> rfl
  unfold filteredChange inputEdge
  dsimp only
  generalize doorChange i high { s with awu.filtered := fiveSet s.awu.filtered i (some high) } = u at hdoor ⊢
  have hu := (hlock u).trans hdoor
  generalize (if i = .call then { u with awu.lock := passLock high u.awu.lock } else u) = v at hu ⊢
  split_ifs
  exacts [(books_inputEvent i high v).trans hu, hu, (books_inputEvent i high v).trans hu, hu, rfl]

/-! ### Services, tables and tariffs -/

@[simp] theorem books_handOn (pairs : List (Service × Service)) (s : State) : books (handOn pairs s) = books s := by
  have hstatus (u : State) (p : Service × Service) : books (statusEvent u p) = books u := by
    unfold statusEvent
    split
    · split
      · split <;> simp
      · rfl
    · rfl
  have hstart (u : State) (p : Service × Service) : books (approachStart u p) = books u := by
    unfold approachStart
    dsimp only
    split <;> simp
  have hchange (u : State) (p : Service × Service) : books (changeEvents u p) = books u :=
    books_foldl (books_changeEvent p.1 p.2) _ u
  rw [handOn, books_foldl hchange, books_foldl hstatus, books_foldl hstart, books_retarget]

@[simp] theorem books_minuteEvaluation (now : Nat) (s : State) : books (minuteEvaluation now s) = books s := by
  unfold minuteEvaluation
  split
  · rfl
  · exact books_handOn _ _

@[simp] theorem books_evaluateNow (s : State) : books (evaluateNow s) = books s := by
  unfold evaluateNow
  cases nowMinute s with
  | none => rfl
  | some m => exact books_minuteEvaluation m s

theorem books_runningRule (number stamp : Nat) (kind : Coded RunKind) (arg : Int) (s : State) :
    books (runningRule number stamp kind arg s).1 = books s := by
  unfold runningRule
  split
  · rfl
  · split
    · rfl
    · split
      · rfl
      · split
        · rfl
        · split_ifs
          · rfl
          · rfl
          · exact books_handOn _ _

theorem books_placeCurrent (t : Option CurrentTable) (s : State) : books (placeCurrent t s) = books s :=
  (books_tableEvent _).trans (books_retarget _)

theorem books_promote (t : NextTable) (s : State) : books (promote t s) = books s := books_placeCurrent _ _

theorem books_tablePromoteRule (version : Nat) (s : State) : books (tablePromoteRule version s).1 = books s := by
  unfold tablePromoteRule
  split
  · split_ifs
    · rfl
    · rfl
    · rfl
    · exact (books_evaluateNow _).trans (books_promote _ s)
  · rfl

theorem books_serviceSettingsRule (g w m : Option Nat) (s : State) : books (serviceSettingsRule g w m s).1 = books s := by
  unfold serviceSettingsRule
  dsimp only
  split_ifs
  · rfl
  · rfl
  · exact books_evaluateNow _

@[simp] theorem books_ttsRollover (entered : Date) (cause : RolloverCause) (s : State) :
    books (ttsRollover entered cause s) = books s := by
  have hempty (u : State) : books (emptyCurrent u) = books u := books_placeCurrent none u
  unfold ttsRollover rolloverTables
  split
  · exact books_tableEvent s
  · split
    · exact hempty s
    · split_ifs
      · exact hempty s
      · exact books_promote _ s
      · exact hempty _
      · exact hempty s

theorem books_activate (t : Tariff) (s : State) : books (activate t s) = books s := by
  rw [activate, namesEvent, books_requestEach, books_decideSales, books_withdraw]
  rfl

@[simp] theorem books_tfeRollover (entered : Date) (s : State) : books (tfeRollover entered s) = books s := by
  unfold tfeRollover
  cases tariffDue entered s with
  | none => rfl
  | some t => exact books_activate t s

theorem books_tariffCloseRule (s : State) : books (tariffCloseRule s).1 = books s := by
  unfold tariffCloseRule
  split
  · rfl
  · split
    · rfl
    · split
      · rfl
      · split
        · exact books_activate _ s
        · rfl

/-! ### Limits, ceiling and demand -/

theorem books_setBattery (l : Option Level) (s : State) : books (setBattery l s) = books s := by
  unfold setBattery
  dsimp only
  split_ifs
  · rfl
  · exact books_endBrief _
  · exact books_retarget _
  · exact (books_judgeBriefStart _).trans (books_retarget _)
  · exact books_retarget _

theorem books_setQuiet (l : Option Level) (s : State) : books (setQuiet l s) = books s := by
  unfold setQuiet
  split
  · rfl
  · exact books_retarget _

theorem books_quietOnMinute (s : State) : books (quietOnMinute s) = books s := by
  unfold quietOnMinute
  dsimp only
  split
  · exact (books_internalEvent _ _ _).trans (books_setQuiet _ s)
  · exact books_setQuiet _ s

theorem books_recomputeCeiling (s : State) : books (recomputeCeiling s) = books s := by
  have hfollow : books (followCeiling s) = books s := by
    unfold followCeiling
    dsimp only
    split
    · rfl
    · exact (stores_restartDemandTimer _).books
  exact (books_retarget _).trans hfollow

theorem books_staleExpiry (s : State) : books (staleExpiry s) = books s := by
  unfold staleExpiry
  split
  · rfl
  · exact books_setBattery _ _

theorem books_demandExpiry (s : State) : books (demandExpiry s) = books s := by
  unfold demandExpiry
  split
  · exact books_retarget _
  · rfl

theorem books_returnExpiry (s : State) : books (returnExpiry s) = books s := by
  unfold returnExpiry
  split <;> rfl

theorem books_raiseSettled (s : State) : books (raiseSettled s) = books s := by
  unfold raiseSettled
  split
  · exact (reacted_completeAt _ s).books
  · rfl

theorem books_drainFirst (s : State) : books (drainFirst s) = books s := by
  unfold drainFirst
  cases drainReady s with
  | none => rfl
  | some d => exact (reacted_completeLowering d s).books

theorem books_returnFirst (s : State) : books (returnFirst s) = books s := by
  unfold returnFirst
  split
  · exact books_endBrief s
  · rfl

theorem books_levelTableRule (sel : Coded Level) (a b c d e f : Option Nat) (s : State) :
    books (levelTableRule sel a b c d e f s).1 = books s := by
  have hdraw (p : Prop) [Decidable p] (n : Nat) (u : State) : books (if p then { u with enm.draw := n } else u) = books u := by
    split <;> rfl
  have htimer (p : Prop) [Decidable p] (u : State) : books (if p then restartDemandTimer u else u) = books u := by
    split
    · exact (stores_restartDemandTimer u).books
    · rfl
  have hload (p : Prop) [Decidable p] (u : State) : books (if p then takeLoadSettings u else u) = books u := by
    split
    · exact (reacted_takeLoadSettings u).books
    · rfl
  have hentry (l : Level) (e : LevelEntry) : books (applyEntry l e s) = books s := by
    unfold applyEntry
    dsimp only
    split
    · exact (books_recomputeCeiling _).trans ((hload _ _).trans ((htimer _ _).trans (hdraw _ _ _)))
    · exact (hload _ _).trans ((htimer _ _).trans (hdraw _ _ _))
  unfold levelTableRule
  split
  · rfl
  · split_ifs
    · rfl
    · rfl
    · exact hentry _ _

theorem books_levelCeilingRule (v : Option Nat) (s : State) : books (levelCeilingRule v s).1 = books s := by
  unfold levelCeilingRule
  split
  · rfl
  · split
    · rfl
    · exact books_recomputeCeiling _

theorem books_levelLimitRule (v : LimitField) (s : State) : books (levelLimitRule v s).1 = books s := by
  have hstore (l : Option Level) : books (storeHost l s).1 = books s := by
    unfold storeHost setHost
    dsimp only
    split
    · exact books_settle s
    · exact (books_settle _).trans (books_retarget _)
  unfold levelLimitRule
  split
  · rfl
  · exact hstore _
  · split
    · rfl
    · exact hstore _
  · rfl

theorem books_supplyCapacityRule (v : Option Nat) (s : State) : books (supplyCapacityRule v s).1 = books s := by
  unfold supplyCapacityRule
  split
  · rfl
  · split
    · rfl
    · exact books_recomputeCeiling _

theorem books_supplyReportRule (c : Int) (s : State) : books (supplyReportRule c s).1 = books s := by
  unfold supplyReportRule takeCharge
  dsimp only
  split <;> exact (books_settle _).trans (books_setBattery _ _)

theorem books_energySettingsRule (a b c d : Option Nat) (s : State) : books (energySettingsRule a b c d s).1 = books s := by
  unfold energySettingsRule
  dsimp only
  split_ifs
  · rfl
  · exact books_setQuiet _ _
  · rfl

/-! ### The clock -/

theorem books_minuteEvent (e : MinuteEvent) (s : State) : books (minuteEvent e s) = books s :=
  (books_quietOnMinute _).trans ((books_removeHost _ _).trans (books_minuteEvaluation _ s))

theorem books_slotAndTariff (entered : Date) (s : State) : books (slotAndTariff entered s) = books s := by
  unfold slotAndTariff
  dsimp only
  split
  · split
    · exact (books_tfeRollover _ _).trans (books_withdraw _ _)
    · exact (books_withdraw _ _).trans (books_tfeRollover _ _)
  · exact (books_withdraw _ _).trans (books_tfeRollover _ _)

theorem books_enterDate (c : ClockSetting) (left : Option Date) (day : RolloverCause) (m : MinuteCause) (s : State) :
    books (enterDate c left day m s) = books s := by
  have hrollover (e : RolloverEvent) : books (rolloverEvent e s) = books s :=
    (books_internalEvent _ _ _).trans ((books_boardsRollover _).trans
      ((books_slotAndTariff _ _).trans (books_ttsRollover _ _ s)))
  exact (books_minuteEvent _ _).trans (hrollover _)

theorem books_clockSecondEvent (s : State) : books (clockSecondEvent s) = books s := by
  have hunset : books (unsetClock s) = books s :=
    (books_setQuiet _ _).trans ((books_decideSales _).trans (books_retarget _))
  unfold clockSecondEvent
  cases s.clock with
  | none => rfl
  | some c =>
    show books (clockTick c s) = books s
    unfold clockTick
    dsimp only
    split_ifs
    · exact books_minuteEvent _ _
    · rfl
    · exact books_enterDate _ _ _ _ _
    · exact hunset

theorem books_clockSetRule (y mo d h mi sec : Nat) (s : State) : books (clockSetRule y mo d h mi sec s).1 = books s := by
  unfold clockSetRule
  dsimp only
  split
  · rfl
  · split
    · exact (books_enterDate _ _ _ _ _).trans (books_decideSales _)
    · unfold stepClock
      dsimp only
      split_ifs
      · rfl
      · rfl
      · exact books_minuteEvent _ _
      · exact books_enterDate _ _ _ _ _

end Sys2Proof.Machine
end

section
/-! SUPPORT. The operations that move the books: the sales, the journal's requests, the clearing and the restart, up to the step; and
that every step moves them by the moves of the books alone. -/

namespace Sys2Proof.Machine

/-! ### The relation -/

/-- The books go from one state to the other by moves of the books. -/
def Booked (s t : State) : Prop := Relation.ReflTransGen BookMove (books s) (books t)

theorem Booked.of_books {s t : State} (h : books t = books s) : Booked s t := by
  unfold Booked
  rw [h]

theorem Booked.refl (s : State) : Booked s s := .of_books rfl

theorem Booked.trans {s t u : State} (h : Booked s t) (k : Booked t u) : Booked s u := Relation.ReflTransGen.trans h k

/-- Moves that follow others. -/
theorem Booked.after {s t u : State} (k : Booked t u) (h : Booked s t) : Booked s u := h.trans k

/-- One move, whatever the states hold beside the books. -/
theorem Booked.of_move {s t : State} {c : Books} (hm : BookMove (books s) c) (h : books t = c) : Booked s t := by
  unfold Booked
  rw [h]
  exact .single hm

/-! ### The thresholds (R100, R101) -/

theorem booked_evaluateThresholds (s : State) : Booked s (evaluateThresholds s) :=
  .of_move (.thresholds s.sjn (heldSale s.slc.slot) s.sjn.low (decide (s.sjn.low < freeCount s)) (decide (0 < freeCount s)))
    (by rw [evaluateThresholds_eq]; rfl)

theorem booked_reportFree (s : State) : Booked s (reportFree s) :=
  (booked_evaluateThresholds s).trans (.of_books (books_decideSales _))

theorem booked_journalSettingsRule (low : Option Nat) (s : State) : Booked s (journalSettingsRule low s).1 := by
  unfold journalSettingsRule
  dsimp only
  split
  · exact .refl s
  next n =>
    split
    · exact .refl s
    · have hlow : Booked s { s with sjn.low := n } :=
        .of_move (.thresholds s.sjn (heldSale s.slc.slot) n s.sjn.lowArmed s.sjn.fullArmed) rfl
      exact hlow.trans (booked_evaluateThresholds _)

/-! ### Reading and releasing (R102 to R104) -/

theorem booked_journalReadRule (a b : Nat) (s : State) : Booked s (journalReadRule a b s).1 := by
  unfold journalReadRule
  dsimp only
  split
  · exact .refl s
  · split
    · exact .refl s
    · exact .of_move (.handed s.sjn (heldSale s.slc.slot) ((selected a b s).map (·.serial))) rfl

theorem booked_journalReleaseRule (n : Nat) (s : State) : Booked s (journalReleaseRule n s).1 := by
  unfold journalReleaseRule
  dsimp only
  split
  · exact .refl s
  · split
    · exact .refl s
    next hreleased =>
      split
      · exact .refl s
      · split
        · exact .refl s
        next hnewest =>
          obtain ⟨m, hm, hle⟩ : ∃ m, newestSerial s = some m ∧ n ≤ m := by
            simpa [Option.all_eq_true] using hnewest
          obtain ⟨r, hr, rfl⟩ := Option.map_eq_some_iff.mp hm
          have hrelease : Booked s (releaseThrough n s) :=
            .of_move (.released s.sjn (heldSale s.slc.slot) n r (List.mem_of_getLast? hr) (Nat.lt_of_not_le hreleased) hle) rfl
          exact hrelease.trans (booked_reportFree _)

/-! ### The sales (R77, R80, R82, R86) -/

/-- A slot that holds no sale before and after. -/
theorem books_putSlot {slot : Slot} {s : State} (hs : slotState s.slc.slot ≠ .printing) (h : slotState slot ≠ .printing) :
    books (putSlot slot s) = books s := by
  obtain ⟨timer, hput⟩ := putSlot_state slot s
  rw [hput]
  exact Prod.ext rfl ((heldSale_eq_none h).trans (heldSale_eq_none hs).symm)

theorem books_saleQuoteRule (code : Nat) (k : Coded TicketType) (cls q : Nat) (sel : Coded ServiceSel) (n : Option Nat)
    (s : State) : books (saleQuoteRule code k cls q sel n s).1 = books s := by
  have hfrom (t : Tariff) (k : TicketType) (sel : ServiceSel) (hs : slotState s.slc.slot ≠ .printing) :
      books (quoteFrom t code k cls q sel n s).1 = books s := by
    have hbound (v : Option Service) : books (quoteBound t code k cls q v s).1 = books s := by
      unfold quoteBound
      dsimp only
      split
      · rfl
      · rfl
      · exact books_putSlot hs nofun
    unfold quoteFrom
    split_ifs
    · rfl
    · rfl
    · split
      · rfl
      · rfl
      · exact hbound _
      · exact hbound _
  unfold saleQuoteRule
  split
  · split
    · rfl
    · split
      · rfl
      · split_ifs
        · rfl
        · rfl
        · rfl
        · rfl
        next hs _ _ => exact hfrom _ _ _ hs
  · rfl

/-- An accepted commit gives a place and the next serial to the sale (R96, R97). -/
theorem booked_commit {q : Quote} {left : Nat} {s : State} (hs : s.slc.slot = .quoted q left) (hf : freeCount s ≠ 0)
    (ho : salesOpen s = true) (p : Quote) (date : Date) (k : Payment) (ref : Option Text) :
    Booked s (commit p date k ref s).1 := by
  have hfree : s.sjn.records.length < journalCapacity := by
    unfold freeCount at hf
    omega
  have hnext : s.sjn.next ≤ lastSerial := by simpa [reasonHolds] using reasonHolds_of_salesOpen ho .serials
  have hnone : books s = (s.sjn, none) := Prod.ext rfl (heldSale_eq_none (by rw [hs]; nofun))
  have hmove := BookMove.reserved s.sjn ⟨p, s.sjn.next, date, k, ref⟩ rfl hfree hnext
  rw [← hnone] at hmove
  rw [commit_quoted hs]
  exact (Booked.of_move (t := reservedFor ⟨p, s.sjn.next, date, k, ref⟩ s) hmove rfl).trans (booked_reportFree _)

theorem booked_saleCommitRule (p : Coded Payment) (ref : Option Text) (s : State) : Booked s (saleCommitRule p ref s).1 := by
  cases p with
  | other n => exact .refl s
  | named k =>
    unfold saleCommitRule
    dsimp only
    split
    · exact .refl s
    · split
      next q left hs =>
        split
        · exact .refl s
        · split
          · exact .refl s
          next hf =>
            split
            · exact .refl s
            · split
              · exact .refl s
              next hopen =>
                split
                · exact .of_books (books_withdraw _ s)
                · exact booked_commit hs hf (by simpa using hopen) _ _ _ _
      next => exact .refl s

/-- A PRINTING sale concluded appends its record (R98). -/
theorem booked_conclude {x : Sale} {left : Nat} {s : State} (hs : s.slc.slot = .printing x left) (kind : RecordKind) :
    Booked s (conclude x kind s) := by
  obtain ⟨hidle, hsjn, -⟩ := conclude_stores x kind s
  have hsome : books s = (s.sjn, some x) := Prod.ext rfl (by rw [books, hs]; rfl)
  have hmove := BookMove.concluded s.sjn x kind (completionTime x.date s)
  rw [← hsome] at hmove
  exact .of_move hmove (Prod.ext hsjn (by rw [books, hidle]; rfl))

theorem booked_salePrintedRule (n : Nat) (o : Coded PrintOutcome) (s : State) : Booked s (salePrintedRule n o s).1 := by
  unfold salePrintedRule
  split
  · exact .refl s
  · split
    · exact .refl s
    · split
      next x left hs =>
        split
        · exact booked_conclude hs _
        · exact .refl s
      next => exact .refl s

theorem booked_printExpiry (s : State) : Booked s (printExpiry s) := by
  unfold printExpiry
  split
  next x left hs => exact (booked_conclude hs _).trans (.of_books rfl)
  next => exact .refl s

theorem books_saleCancelRule (s : State) : books (saleCancelRule s).1 = books s := by
  unfold saleCancelRule
  split
  · rfl
  next hs =>
    refine books_putSlot (fun h => ?_) nofun
    obtain ⟨x, hx⟩ := Option.isSome_iff_exists.mp ((heldSale_isSome _).mpr h)
    obtain ⟨left, hleft⟩ := heldSale_eq_some.mp hx
    exact hs x left hleft

theorem books_salesCloseRule (s : State) : books (salesCloseRule s).1 = books s :=
  (books_withdraw _ _).trans (books_decideSales _)

theorem booked_saleRule {rule : State → State × Answer} (h : ∀ s, Booked s (rule s).1) (s : State) :
    Booked s (saleRule rule s).1 :=
  (h _).after (.of_books ((books_settle _).trans (books_activity s)))

/-! ### CLEAR-RETAINED (R109) -/

theorem booked_clearRetainedRule (s : State) : Booked s (clearRetainedRule s).1 := by
  by_cases h : s.sjn.records ≠ [] ∨ s.sjn.reserved = true ∨ slotState s.slc.slot ≠ .idle
  · rw [clearRetainedRule_busy h]
    exact .refl s
  · obtain ⟨hr, hv, hs⟩ : s.sjn.records = [] ∧ s.sjn.reserved = false ∧ slotState s.slc.slot = .idle := by
      simpa [not_or] using h
    have hslot := slot_of_slotState hs
    obtain ⟨-, -, -, hslc, hsjn⟩ := clearAll_stores hslot
    have hnone : books s = (s.sjn, none) := Prod.ext rfl (by rw [books, hslot]; rfl)
    have hmove := BookMove.cleared s.sjn hr hv
    have hcleared : books (clearAll s) = ((clearAll s).sjn, none) := Prod.ext rfl (by rw [books, hslc]; rfl)
    rw [← hnone, ← hsjn] at hmove
    rw [clearRetainedRule_clears hr hv hs]
    exact .of_move hmove hcleared

/-! ### Every owner's rule and every event -/

theorem booked_ownerRule {c : Instr} {rule : State → State × Answer} (h : ownerRule c = some rule) (s : State) :
    Booked s (rule s).1 := by
  cases c <;> cases h
  case identify => exact .refl s
  case restart => exact .of_books rfl
  case clearRetained => exact booked_clearRetainedRule s
  case noticeRead => exact .of_books rfl
  case noticeClear => exact .of_books (books_noticeClearRule _ s)
  case noticeConfig => exact .of_books (books_noticeConfigRule _ _ s)
  case clockSet => exact .of_books (books_clockSetRule _ _ _ _ _ _ s)
  case clockRead => exact .refl s
  case tableOpen => exact .of_books (books_tableOpenRule _ _ _ _ _ s)
  case tableAdd => exact .of_books (books_tableAddRule _ _ _ _ _ s)
  case tableClose => exact .of_books (books_tableCloseRule s)
  case tableDrop => exact .of_books rfl
  case tablePromote => exact .of_books (books_tablePromoteRule _ s)
  case tableRead => exact .of_books (congrArg books (tableReadRule_state _ _ s))
  case serviceSettings => exact .of_books (books_serviceSettingsRule _ _ _ s)
  case running => exact .of_books (books_runningRule _ _ _ _ s)
  case tariffOpen => exact .of_books (books_tariffOpenRule _ _ s)
  case tariffStation => exact .of_books (books_tariffStationRule _ _ _ _ s)
  case tariffRules => exact .of_books (books_tariffRulesRule _ s)
  case tariffClose => exact .of_books (books_tariffCloseRule s)
  case tariffRead => exact .of_books (congrArg books (tariffReadRule_state _ _ _ s))
  case fareTrial => exact .of_books (congrArg books (fareTrialRule_state _ _ _ _ _ _ s))
  case saleQuote => exact booked_saleRule (fun u => .of_books (books_saleQuoteRule _ _ _ _ _ _ u)) s
  case saleCommit => exact booked_saleRule (booked_saleCommitRule _ _) s
  case salePrinted => exact booked_saleRule (booked_salePrintedRule _ _) s
  case saleCancel => exact booked_saleRule (fun u => .of_books (books_saleCancelRule u)) s
  case saleStatus => exact booked_saleRule Booked.refl s
  case salesClose => exact .of_books (books_salesCloseRule s)
  case salesOpen => exact .of_books (books_decideSales _)
  case saleSettings => exact .of_books (books_saleSettingsRule _ _ s)
  case journalRead => exact booked_journalReadRule _ _ s
  case journalRelease => exact booked_journalReleaseRule _ s
  case takingsRead => exact .refl s
  case journalSettings => exact booked_journalSettingsRule _ s
  case panelProfile => exact .of_books (books_panelProfileRule _ _ _ _ _ _ s)
  case boardText => exact .of_books (books_boardTextRule _ _ _ _ s)
  case boardTextDrop => exact .of_books (books_boardTextDropRule _ s)
  case boardRefresh => exact .of_books (books_boardRefreshRule _ _ s)
  case boardStatus => exact .refl s
  case panelReset => exact .of_books (books_panelResetRule _ s)
  case panelStatus => exact .refl s
  case levelTable => exact .of_books (books_levelTableRule _ _ _ _ _ _ _ s)
  case levelCeiling => exact .of_books (books_levelCeilingRule _ s)
  case levelLimit => exact .of_books (books_levelLimitRule _ s)
  case supplyCapacity => exact .of_books (books_supplyCapacityRule _ s)
  case supplyReport => exact .of_books (books_supplyReportRule _ s)
  case energySettings => exact .of_books (books_energySettingsRule _ _ _ _ s)
  case energyStatus => exact .refl s
  case activity => exact .of_books (books_activity s)
  case wakeConfig => exact .of_books (books_wakeConfigRule _ s)
  case wakeStatus => exact .of_books rfl

theorem booked_eventRule {c : Instr} {f : State → State} (h : eventRule c = some f) (s : State) : Booked s (f s) := by
  cases c <;> cases h
  case clockSecond => exact .of_books (books_clockSecondEvent s)
  case quoteTimerExpiry => exact .of_books (books_withdraw _ s)
  case printTimerExpiry => exact booked_printExpiry s
  case accrualTimerExpiry => exact .of_books (books_accrualExpiry s)
  case rotationTimerExpiry => exact .of_books (books_rotationExpiry s)
  case serveEntry => exact .of_books (books_serveFirst s)
  case probeStart => exact .of_books (books_probeFirst s)
  case railSettleExpiry => exact .of_books (books_railSettled s)
  case panelReply => exact .of_books (books_panelReplied _ _ _ s)
  case replyWaitExpiry => exact .of_books (books_replyWait s)
  case drawingWaitExpiry => exact .of_books (books_drawingExpiry s)
  case probeIntervalExpiry => exact .of_books (books_intervalExpiry s)
  case retryWaitExpiry => exact .of_books (books_retryExpiry s)
  case unknownReprobeDelay => exact .of_books (books_probeTimerExpiry _ _ s)
  case offlineProbeTimerExpiry => exact .of_books (books_probeTimerExpiry _ _ s)
  case coldProbeTimerExpiry => exact .of_books (books_probeTimerExpiry _ _ s)
  case railIdleExpiry => exact .of_books (books_railIdleExpiry s)
  case raiseSettleExpiry => exact .of_books (books_raiseSettled s)
  case loweringComplete => exact .of_books (books_drainFirst s)
  case staleTimerExpiry => exact .of_books (books_staleExpiry s)
  case fieldInputEdge => exact .of_books (books_filteredChange _ _ s)
  case filterInitialLevel => exact .of_books (books_firstTaking _ _ s)
  case demandTimerExpiry => exact .of_books (books_demandExpiry s)
  case briefEpisodeStart => exact .of_books (books_judgeBriefStart s)
  case returnTimerExpiry => exact .of_books (books_returnExpiry s)
  case briefEpisodeReturn => exact .of_books (books_returnFirst s)

/-! ### Requests and frames taken -/

theorem booked_takeRequest (k g : Byte) {rule : State → State × Answer} (h : ∀ s, Booked s (rule s).1) (s : State) :
    Booked s (takeRequest k g rule s) :=
  (Booked.of_books (books_settle _)).after ((h _).after (.of_books (stores_beginTaking s).books))

theorem booked_takeRow (c : Instr) (s : State) : Booked s (takeRow c s) := by
  unfold takeRow
  split
  next hr => exact booked_takeRequest _ _ (booked_ownerRule hr) s
  next => exact .refl s

theorem booked_takeFrame (f : Frame) (s : State) : Booked s (takeFrame f s) := by
  refine booked_takeRequest _ _ (fun s => ?_) s
  unfold frameRule
  split
  · cases hr : (readBody f.kind f.body).bind ownerRule with
    | none => exact .refl s
    | some rule =>
      obtain ⟨c, _, hc⟩ := Option.bind_eq_some_iff.mp hr
      exact booked_ownerRule hc s
  · exact .refl s

theorem booked_arrived (a : Arrival) {take : State → State} (h : ∀ s, Booked s (take s)) (s : State) :
    Booked s (arrived a take s) := by
  unfold arrived
  split
  · exact h s
  · split
    · exact .of_books rfl
    · exact .refl s

/-! ### Restarts (R92, R108) -/

/-- A loss keeps the books but for the reservation, which stands exactly beside a held sale, and the thresholds. -/
theorem booked_lose (s : State) : Booked s (lose s) := by
  have hheld : heldSale (retainedSlot s.slc.slot) = heldSale s.slc.slot := by cases s.slc.slot <;> rfl
  have hreserved : (slotState s.slc.slot == .printing) = (heldSale s.slc.slot).isSome := by
    cases s.slc.slot <;> rfl
  have hlost : books (lose s) =
      ({ s.sjn with reserved := (heldSale s.slc.slot).isSome, lowArmed := true, fullArmed := true }, heldSale s.slc.slot) := by
    rw [← hreserved, ← hheld]
    rfl
  exact .of_move (.lost s.sjn (heldSale s.slc.slot)) hlost

/-- The restart conversion appends the record of a held sale (R92). -/
theorem booked_convertSale (s : State) : Booked s (convertSale s) := by
  unfold convertSale
  split
  next x left hs =>
    have hsome : books s = (s.sjn, some x) := Prod.ext rfl (by rw [books, hs]; rfl)
    have hmove := BookMove.concluded s.sjn x .unconfirmed none
    rw [← hsome] at hmove
    refine .of_move hmove ?_
    show books (x.quote.bound.elim _ _) = _
    cases x.quote.bound with
    | none => rfl
    | some b => exact books_offerSold _ _ _ _
  next => exact .refl s

theorem booked_bringUp (s : State) : Booked s (bringUp s) := by
  have hreport (u : State) : books (reportTimetable u) = books u := by
    unfold reportTimetable
    split <;> rfl
  have hstart (u : State) : books (settle (retarget (startBoards (startDemand (raiseNotice .woke u))))) = books u :=
    (books_settle _).trans (books_retarget _)
  exact (booked_convertSale s).trans ((booked_evaluateThresholds _).trans (.of_books ((hstart _).trans (hreport _))))

theorem booked_restartAt (strap : Bool) (s : State) : Booked s (restartAt strap s) := by
  have hlose : Booked s (lose { s with strap := strap }) := (booked_lose _).after (.of_books rfl)
  exact (hlose.trans (.of_books rfl)).trans (booked_bringUp (lostAt strap s))

theorem booked_supplyRule {c : Instr} {f : State → State} (h : supplyRule c = some f) (s : State) : Booked s (f s) := by
  cases c <;> cases h
  case powerOn strap =>
    unfold powerUp
    split
    · exact .refl s
    · exact .of_books rfl
    · exact booked_restartAt strap s
    · exact booked_restartAt strap s
  case resetnAsserted =>
    unfold holdPart
    split
    · exact .of_books rfl
    · exact .of_books rfl
    · exact .refl s
    · exact .refl s
  case resetnReleased strap =>
    unfold releasePart
    split
    · exact booked_restartAt strap s
    · exact .of_books rfl
    · exact .refl s
    · exact .refl s
  case powerLoss => exact (booked_lose s).trans (.of_books rfl)

/-! ### The step -/

theorem booked_replyEnded (s : State) : Booked s (replyEnded s) := by
  unfold replyEnded
  split
  · exact .refl s
  · split
    · exact (booked_restartAt _ _).after (.of_books rfl)
    · split
      · exact .of_books rfl
      · exact (booked_takeFrame _ _).after (.of_books rfl)
      · exact (booked_takeRow _ _).after (.of_books rfl)

theorem booked_byteReceived (b : Byte) (s : State) : Booked s (byteReceived b s) := by
  unfold byteReceived
  split
  · split
    · exact .of_books rfl
    · exact .refl s
  next bytes _ =>
    unfold frameByte
    split
    · exact .of_books rfl
    · split
      · cases checkedFrame (bytes ++ [b]) with
        | none => exact .of_books rfl
        | some f => exact (booked_arrived _ (booked_takeFrame f) _).after (.of_books rfl)
      · exact .of_books rfl

theorem booked_lineRule {c : Instr} {f : State → State} (h : lineRule c = some f) (s : State) : Booked s (f s) := by
  cases c <;> cases h
  case frameComplete => exact booked_arrived _ (booked_takeFrame _) s
  case interByteGap => exact .of_books rfl
  case replySent => exact booked_replyEnded s
  case hostByteReceived b => exact booked_byteReceived b s

theorem booked_whenOn {f : State → State} (h : ∀ s, Booked s (f s)) (s : State) : Booked s (whenOn f s) := by
  unfold whenOn
  split
  · exact h s
  · exact .refl s

theorem booked_exec {c : Instr} {s t : State} (h : exec c s = .next t) : Booked s t := by
  rcases command_cases c with ⟨rule, hr⟩ | ⟨f, hf⟩ | ⟨f, hf⟩ | ⟨f, hf⟩
  · rw [exec_of_ownerRule hr] at h
    cases h
    exact booked_whenOn (booked_arrived _ (booked_takeRow c)) s
  · rw [exec_of_eventRule hf] at h
    cases h
    exact booked_whenOn (fun s => (booked_eventRule hf s).trans (.of_books (books_settle _))) s
  · rw [exec_of_lineRule hf] at h
    cases h
    exact booked_whenOn (booked_lineRule hf) s
  · rw [exec_of_supplyRule hf] at h
    cases h
    exact booked_supplyRule hf s

/-- A millisecond moves the timer of a held sale, not the sale. -/
theorem books_millisecond (s : State) : books (millisecond s) = books s := by
  have htick : heldSale (slotTick s.slc.slot) = heldSale s.slc.slot := by cases s.slc.slot <;> rfl
  unfold millisecond
  split
  · exact Prod.ext rfl htick
  · rfl

/-- Every step moves the books by the moves of the books alone. -/
theorem booked_step {s t : State} (h : step s = .next t) : Booked s t := by
  cases hp : s.pending with
  | nil =>
    rw [step_of_empty hp] at h
    cases h
    exact .of_books (books_millisecond s)
  | cons c rest =>
    rw [step_of_pending hp] at h
    exact (booked_exec h).after (.of_books rfl)

/-- Settles O57: every step moves the books by moves that keep places, takings and serials; and serials that run on account for
every one issued. -/
theorem stepKeepsTheJournalSound : Obligations.StepKeepsTheJournalSound := by
  refine ⟨fun s t hs h => ?places, fun s t hs h => ?takings, fun s t hs h => ?serials, fun s n hs h1 hn => ?accounts⟩
  case places =>
    rw [journalPlaces_iff] at hs ⊢
    exact BookMove.keeps (fun _ _ => BookMove.fit) (booked_step h) hs
  case takings => exact BookMove.keeps (P := Books.Balance) (fun _ _ => BookMove.balance) (booked_step h) hs
  case serials =>
    rw [serialsRunOn_iff] at hs ⊢
    exact BookMove.keeps (fun _ _ => BookMove.runOn) (booked_step h) hs
  case accounts =>
    rw [serialsRunOn_iff] at hs
    have hheld : (∃ x left, s.slc.slot = .printing x left ∧ x.serial = n) ↔
        ∃ x, heldSale s.slc.slot = some x ∧ x.serial = n :=
      exists_congr fun x => by rw [heldSale_eq_some, exists_and_right]
    intro released recorded held
    simp only [held, hheld]
    exact hs.accounts h1 hn

end Sys2Proof.Machine
end

section
/-! SUPPORT. The requests of the journal by their cases: what JOURNAL-READ picks and marks, what JOURNAL-RELEASE refuses and removes,
what JOURNAL-SETTINGS stores; and the two obligations about them (R100 to R104). -/

namespace Sys2Proof.Machine

/-! ### The records picked (R102) -/

/-- The bytes of records, one after another. -/
def bytesOf (l : List JRecord) : Nat := (l.map fun r => (recordBytes r).length).sum

@[simp] theorem bytesOf_nil : bytesOf [] = 0 := rfl

@[simp] theorem bytesOf_cons (r : JRecord) (l : List JRecord) : bytesOf (r :: l) = (recordBytes r).length + bytesOf l := by
  simp [bytesOf]

theorem fitting_prefix (count room : Nat) (l : List JRecord) : fitting count room l <+: l := by
  fun_induction fitting count room l with
  | case1 => exact List.nil_prefix
  | case2 => exact List.nil_prefix
  | case3 count room r l hr ih => exact List.cons_prefix_cons.mpr ⟨rfl, ih⟩
  | case4 => exact List.nil_prefix

theorem fitting_length_le (count room : Nat) (l : List JRecord) : (fitting count room l).length ≤ count := by
  fun_induction fitting count room l with
  | case1 => simp
  | case2 => simp
  | case3 count room r l hr ih => simpa using ih
  | case4 => simp

theorem bytesOf_fitting_le (count room : Nat) (l : List JRecord) : bytesOf (fitting count room l) ≤ room := by
  fun_induction fitting count room l with
  | case1 => simp
  | case2 => simp
  | case3 count room r l hr ih => rw [bytesOf_cons]; omega
  | case4 => simp

/-- The record after those picked is one too many or has no room: none is passed over. -/
theorem fitting_greatest {count room : Nat} {l rest : List JRecord} {r : JRecord} (h : l = fitting count room l ++ r :: rest) :
    (fitting count room l).length = count ∨ room < bytesOf (fitting count room l) + (recordBytes r).length := by
  fun_induction fitting count room l with
  | case1 => exact .inl rfl
  | case2 => simp at h
  | case3 count room x l hx ih =>
    have htail : l = fitting count (room - (recordBytes x).length) l ++ r :: rest := (List.cons.inj h).2
    rw [bytesOf_cons, List.length_cons]
    have := ih htail
    omega
  | case4 count room x l hx =>
    have hhead : x = r := (List.cons.inj h).1
    subst hhead
    rw [bytesOf_nil]
    omega

/-- Marking by the serials in a list, membership as a proposition. -/
theorem markHanded_eq (l : List Nat) (s : State) : markHanded l s =
    { s with sjn.records := s.sjn.records.map fun r => if r.serial ∈ l then { r with handed := true } else r } := by
  simp only [markHanded, List.contains_iff_mem]

/-! ### JOURNAL-READ (R102) -/

section
variable {first count : Nat} {s : State}

theorem journalReadRule_range (h : ¬(1 ≤ first ∧ first ≤ 16777215 ∧ 1 ≤ count ∧ count ≤ 8)) :
    journalReadRule first count s = (s, refuse .range .field) := by
  have hbad : (within 1 lastSerial first && within 1 8 count) = false := by
    rw [← Bool.not_eq_true, Bool.and_eq_true, within_serial_iff, within_iff]
    omega
  simp only [journalReadRule, hbad, Bool.not_false, if_true]

variable (h : 1 ≤ first ∧ first ≤ 16777215 ∧ 1 ≤ count ∧ count ≤ 8)
include h

theorem journalRead_inRange : (within 1 lastSerial first && within 1 8 count) = true := by
  rw [Bool.and_eq_true, within_serial_iff, within_iff]
  omega

theorem journalReadRule_none (hnone : selected first count s = []) : journalReadRule first count s =
    (s, ⟨.noneLeft, .none, .noRecords (newestSerial s) s.sjn.records.length⟩) := by
  simp only [journalReadRule, journalRead_inRange h, hnone, Bool.not_true, Bool.false_eq_true, if_false, List.isEmpty_nil,
    if_true]

theorem journalReadRule_some (hsome : selected first count s ≠ []) : journalReadRule first count s =
    (markHanded ((selected first count s).map (·.serial)) s,
      done (.records (selected first count s) (newestSerial s) s.sjn.records.length)) := by
  have hmore : (selected first count s).isEmpty = false := by simpa using hsome
  simp only [journalReadRule, journalRead_inRange h, hmore, Bool.not_true, Bool.false_eq_true, if_false]

end

/-! ### JOURNAL-RELEASE (R103, R104) -/

section
variable {n : Nat} {s : State}

theorem journalReleaseRule_range (h : 16777215 < n) : journalReleaseRule n s = (s, refuse .range .field) := if_pos h

variable (h : n ≤ 16777215)
include h

theorem not_lastSerial_lt : ¬lastSerial < n := Nat.not_lt.mpr h

theorem journalReleaseRule_already (hn : n ≤ s.sjn.released) : journalReleaseRule n s =
    (s, done (.released 0 ⟨0, 0, 0⟩ s.sjn.released s.sjn.records.length (freeCount s))) := by
  simp only [journalReleaseRule, not_lastSerial_lt h, hn, if_false, if_true]

variable (hn : s.sjn.released < n)
include hn

/-- The first record on the way that is not handed out is the one named. -/
theorem journalReleaseRule_unread {before after : List JRecord} {r : JRecord}
    (hgone : s.sjn.records.filter (fun x => decide (x.serial ≤ n)) = before ++ r :: after)
    (hbefore : ∀ x ∈ before, x.handed = true) (hr : r.handed = false) : journalReleaseRule n s =
      (s, ⟨.range, .handed, .releaseRefused (some r.serial) s.sjn.released s.sjn.records.length (freeCount s)⟩) := by
  have hfind : (before ++ r :: after).find? (fun x => !x.handed) = some r :=
    List.find?_eq_some_iff_append.mpr ⟨by simp [hr], before, after, rfl, fun x hx => by simp [hbefore x hx]⟩
  simp only [journalReleaseRule, not_lastSerial_lt h, Nat.not_le.mpr hn, if_false, hgone, hfind]

variable (hread : ∀ r ∈ s.sjn.records.filter (fun x => decide (x.serial ≤ n)), r.handed = true)
include hread

theorem journalReleaseRule_read : journalReleaseRule n s =
    if (newestSerial s).all fun m => decide (m < n) then
      (s, ⟨.range, .beyond, .releaseRefused (newestSerial s) s.sjn.released s.sjn.records.length (freeCount s)⟩)
    else
      (reportFree (releaseThrough n s),
        done (.released (s.sjn.records.filter fun x => decide (x.serial ≤ n)).length
          (PerPayment.build fun k => faresOf k (s.sjn.records.filter fun x => decide (x.serial ≤ n)))
          (reportFree (releaseThrough n s)).sjn.released (reportFree (releaseThrough n s)).sjn.records.length
          (freeCount (reportFree (releaseThrough n s))))) := by
  have hfind : (s.sjn.records.filter fun x => decide (x.serial ≤ n)).find? (fun x => !x.handed) = none :=
    List.find?_eq_none.mpr fun x hx => by simp [hread x hx]
  simp only [journalReleaseRule, not_lastSerial_lt h, Nat.not_le.mpr hn, if_false, hfind]

theorem journalReleaseRule_beyond (hnew : ∀ m, newestSerial s = some m → m < n) : journalReleaseRule n s =
    (s, ⟨.range, .beyond, .releaseRefused (newestSerial s) s.sjn.released s.sjn.records.length (freeCount s)⟩) := by
  rw [journalReleaseRule_read h hn hread, if_pos]
  simpa [Option.all_eq_true] using hnew

theorem journalReleaseRule_accepted (hnew : ∃ m, newestSerial s = some m ∧ n ≤ m) : journalReleaseRule n s =
    (reportFree (releaseThrough n s),
      done (.released (s.sjn.records.filter fun x => decide (x.serial ≤ n)).length
        (PerPayment.build fun k => faresOf k (s.sjn.records.filter fun x => decide (x.serial ≤ n))) n
        (reportFree (releaseThrough n s)).sjn.records.length (freeCount (reportFree (releaseThrough n s))))) := by
  obtain ⟨m, hm, hle⟩ := hnew
  rw [journalReleaseRule_read h hn hread, if_neg (by simpa [hm] using hle), reportFree_sjn]
  rfl

end

/-! ### JOURNAL-SETTINGS (R101) -/

/-- A low threshold stored and both thresholds evaluated. -/
def lowStored (n : Nat) (s : State) : State := evaluateThresholds { s with sjn.low := n }

/-- The free count does not depend on the thresholds. -/
theorem lowStored_sjn (n : Nat) (s : State) : (lowStored n s).sjn =
    { s.sjn with low := n, lowArmed := decide (n < freeCount s), fullArmed := decide (0 < freeCount s) } := by
  rw [lowStored, evaluateThresholds_eq]
  rfl

theorem freeCount_lowStored (n : Nat) (s : State) : freeCount (lowStored n s) = freeCount s := by
  simp only [freeCount, lowStored_sjn]

theorem lowStored_notices (n : Nat) (s : State) : (lowStored n s).hlk.notices =
    raisedIf (s.sjn.fullArmed && decide (freeCount s = 0)) 3
      (raisedIf (s.sjn.lowArmed && decide (freeCount s ≤ n)) 5 s.hlk.notices) := by
  rw [lowStored, evaluateThresholds_eq]
  rfl

section
variable {n : Nat} {s : State} (hlen : s.hlk.notices.length = sourceCount)
include hlen

theorem lowStored_raises_low (harmed : s.sjn.lowArmed = true) (hlow : freeCount s ≤ n) :
    (noticeOf (lowStored n s) .journalLow).pending = true := by
  change (noticeIn (lowStored n s).hlk.notices 5).pending = true
  rw [lowStored_notices]
  simp [pending_raisedIf, hlen, sourceCount, harmed, hlow]

theorem lowStored_raises_full (harmed : s.sjn.fullArmed = true) (hfull : freeCount s = 0) :
    (noticeOf (lowStored n s) .journalFull).pending = true := by
  change (noticeIn (lowStored n s).hlk.notices 3).pending = true
  rw [lowStored_notices]
  simp [pending_raisedIf, hlen, sourceCount, harmed, hfull]

end

theorem journalSettingsRule_range {n : Nat} {s : State} (h : 512 < n) :
    journalSettingsRule (some n) s = (s, refuse .range .field) := if_pos h

theorem journalSettingsRule_stored {n : Nat} {s : State} (h : n ≤ 512) : journalSettingsRule (some n) s =
    (lowStored n s,
      done (.journalSettings n (freeCount s) (lowStored n s).sjn.lowArmed (lowStored n s).sjn.fullArmed)) := by
  have hrule : journalSettingsRule (some n) s = (lowStored n s, done (.journalSettings (lowStored n s).sjn.low
      (freeCount (lowStored n s)) (lowStored n s).sjn.lowArmed (lowStored n s).sjn.fullArmed)) :=
    if_neg (Nat.not_lt.mpr h)
  rw [hrule, freeCount_lowStored, lowStored_sjn]

/-! ### The obligations -/

/-- Settles O37: the records picked are the greatest first part that count and room admit, and their serials are those marked. -/
theorem journalReadHandsOut : Obligations.JournalReadHandsOut := by
  intro first count s hl w
  have hs : w.sjn = s.sjn := atOwner_sjn s
  have hnewest : newestSerial w = newestSerial s := newestSerial_atOwner s
  rw [← hs, ← hnewest]
  refine ⟨fun h => does_of_rule hl rfl rfl rfl (journalReadRule_range h), fun h => ⟨selected first count w, ?_⟩⟩
  refine ⟨fitting_prefix .., fitting_length_le .., bytesOf_fitting_le .., fun r rest hrest => fitting_greatest hrest,
    fun hnone => does_of_rule hl rfl rfl rfl (journalReadRule_none h hnone), fun hsome => ?_⟩
  have hrule := journalReadRule_some h hsome
  rw [markHanded_eq] at hrule
  exact does_of_rule hl rfl rfl rfl hrule

/-- Settles O38: each request by its cases; a release and a stored threshold through what reporting and evaluating the free count
leave. -/
theorem journalReleasesAndThresholds : Obligations.JournalReleasesAndThresholds := by
  refine ⟨fun n s hl => ?release, fun n s hl hlen => ?settings⟩
  case release =>
    intro w
    have hs : w.sjn = s.sjn := atOwner_sjn s
    have hfree : freeCount w = freeCount s := freeCount_atOwner s
    have hnewest : newestSerial w = newestSerial s := newestSerial_atOwner s
    rw [← hs, ← hfree, ← hnewest]
    refine ⟨fun h => does_of_rule hl rfl rfl rfl (journalReleaseRule_range h), fun h => ?_⟩
    refine ⟨fun hn => does_of_rule hl rfl rfl rfl (journalReleaseRule_already h hn),
      fun before r after hn hgone hb hr => does_of_rule hl rfl rfl rfl (journalReleaseRule_unread h hn hgone hb hr),
      fun hn hread hnew => does_of_rule hl rfl rfl rfl (journalReleaseRule_beyond h hn hread hnew),
      fun hn hread hnew => ⟨reportFree (releaseThrough n w),
        does_of_rule hl rfl rfl rfl (journalReleaseRule_accepted h hn hread hnew), ?_⟩⟩
    rw [freeCount_reportFree, reportFree_sjn, reportFree_slc]
    exact ⟨rfl, rfl, fun k => PerPayment.get_build _ k, rfl, rfl, rfl, rfl, rfl⟩
  case settings =>
    intro w
    have hs : w.sjn = s.sjn := atOwner_sjn s
    have hfree : freeCount w = freeCount s := freeCount_atOwner s
    have hnotices : w.hlk.notices.length = sourceCount := (atOwner_notices_length s).trans hlen
    rw [← hs, ← hfree]
    refine ⟨fun h => does_of_rule hl rfl rfl rfl (journalSettingsRule_range h),
      fun h => ⟨lowStored n w, does_of_rule hl rfl rfl rfl (journalSettingsRule_stored h), ?_⟩,
      does_of_rule hl rfl rfl rfl rfl⟩
    rw [lowStored_sjn]
    exact ⟨rfl, rfl, lowStored_raises_low hnotices, rfl, lowStored_raises_full hnotices, rfl, rfl⟩

end Sys2Proof.Machine
end

section
/-! SUPPORT. The refresh credit and the refresh queue (R120, R122): what the two invariants speak of, the operations that leave
both alone, and those that ask for refreshes, serve an entry or give the Board Composer another level. -/

namespace Sys2Proof.Machine

/-! ### The relation -/

/-- The two invariants of the boards hold in `s` if they held in `r`. -/
structure Paced (r s : State) : Prop where
  credit : CreditWithinDepth r → CreditWithinDepth s
  queue : QueueOrdered r → QueueOrdered s

theorem Paced.refl (s : State) : Paced s s := ⟨id, id⟩

/-- What the two invariants speak of: the queue, the credit and the depth of the present level. -/
def load (s : State) : List QueueEntry × Nat × Nat := (s.bdc.queue, s.bdc.credit, (presentEntry s).depth)

section
variable {r s t : State}

/-- The invariants speak of nothing else. -/
theorem Paced.of_load (h : Paced r s) (e : load t = load s) : Paced r t := by
  simp only [load, Prod.mk.injEq] at e
  obtain ⟨hqueue, hcredit, hdepth⟩ := e
  refine ⟨fun hr => ?_, fun hr => ?_⟩
  · have := h.credit hr
    rwa [CreditWithinDepth, hcredit, hdepth]
  · have := h.queue hr
    rwa [QueueOrdered, hqueue]

theorem Paced.foldl {α : Type} {f : State → α → State} (hf : ∀ s a, Paced r s → Paced r (f s a)) (l : List α)
    (h : Paced r s) : Paced r (l.foldl f s) := by
  induction l generalizing s with
  | nil => exact h
  | cons a l ih => exact ih (hf s a h)

/-! ### The queue (R120, R121) -/

/-- An urgent entry stands behind urgent ones only. -/
def UrgentFirst (q : List QueueEntry) : Prop := q.Pairwise fun a b => b.urgent = true → a.urgent = true

/-- Urgent entries before ordinary ones. -/
theorem urgentFirst_append {p q : List QueueEntry} (hp : ∀ e ∈ p, e.urgent = true) (hq : ∀ e ∈ q, e.urgent = false) :
    UrgentFirst (p ++ q) := by
  refine List.pairwise_append.mpr ⟨?_, ?_, fun e he _ _ _ => hp e he⟩
  · exact List.Pairwise.imp_of_mem (fun ha _ _ _ => hp _ ha) (List.pairwise_of_forall (R := fun _ _ => True) fun _ _ => trivial)
  · exact List.Pairwise.imp_of_mem (fun _ hb _ hu => absurd hu (by simp [hq _ hb]))
      (List.pairwise_of_forall (R := fun _ _ => True) fun _ _ => trivial)

/-- A request leaves the urgent entries first. -/
theorem urgentFirst_enqueue (a : Addr) (urgent : Bool) {q : List QueueEntry} (h : UrgentFirst q) :
    UrgentFirst (enqueue a urgent q) := by
  have hgroups (p : QueueEntry → Bool) :
      UrgentFirst (q.filter (·.urgent) ++ ⟨a, true⟩ :: q.filter fun e => !e.urgent && p e) := by
    rw [List.append_cons]
    refine urgentFirst_append (fun e he => ?_) fun e he => ?_
    · rcases List.mem_append.mp he with he | he
      · exact (List.mem_filter.mp he).2
      · rw [List.mem_singleton.mp he]
    · simpa using (Bool.and_eq_true_iff.mp (List.mem_filter.mp he).2).1
  unfold enqueue
  split
  · split
    · simpa using hgroups fun _ => true
    · exact List.pairwise_append.mpr ⟨h, List.pairwise_singleton _ _, by simp⟩
  · split
    · exact hgroups _
    · exact h

theorem paced_requestRefresh (urgent : Bool) (a : Addr) (h : Paced r s) : Paced r (requestRefresh urgent s a) := by
  unfold requestRefresh
  split
  · refine ⟨h.credit, fun hr => ?_⟩
    obtain ⟨hdistinct, hfirst⟩ := h.queue hr
    exact ⟨(enqueue_placedEntry hdistinct).2, urgentFirst_enqueue a urgent hfirst⟩
  · exact h

theorem paced_requestEach (want : Profile → Option Bool) (h : Paced r s) : Paced r (requestEach want s) := by
  refine Paced.foldl (fun s a h => ?_) _ h
  split
  · exact paced_requestRefresh _ _ h
  · exact h

/-- Entries that leave leave the others in their order. -/
theorem Paced.filtered (h : Paced r s) (f : QueueEntry → Bool) (hq : t.bdc.queue = s.bdc.queue.filter f)
    (hc : (t.bdc.credit, (presentEntry t).depth) = (s.bdc.credit, (presentEntry s).depth)) : Paced r t := by
  rw [Prod.mk.injEq] at hc
  refine ⟨fun hr => ?_, fun hr => ?_⟩
  · have := h.credit hr
    rwa [CreditWithinDepth, hc.1, hc.2]
  · obtain ⟨hdistinct, hfirst⟩ := h.queue hr
    rw [QueueOrdered, hq]
    exact ⟨hdistinct.sublist (List.filter_sublist.map _), List.Pairwise.sublist List.filter_sublist hfirst⟩

theorem paced_decideSales (h : Paced r s) : Paced r (decideSales s) := by
  unfold decideSales
  dsimp only
  split
  · exact h
  · exact paced_requestEach _ (h.of_load rfl)

theorem load_keepMessages (f : HostEntry → Bool) (g : AutoEntry → Bool) (s : State) :
    load (keepMessages f g s) = load s := by
  obtain ⟨p, hp⟩ := keepMessages_eq f g s
  rw [hp]
  rfl

theorem paced_removeHost (f : HostEntry → Bool) (h : Paced r s) : Paced r (removeHost f s) := by
  have hkept : Paced r (keepMessages (fun e => !f e) (fun _ => true) s) := h.of_load (load_keepMessages _ _ s)
  unfold removeHost
  dsimp only
  split
  · exact paced_requestEach _ hkept
  · exact hkept

theorem paced_tableEvent (h : Paced r s) : Paced r (tableEvent s) :=
   (paced_requestEach _ h).of_load (load_keepMessages _ _ _)

/-! ### The target, activity and wakes -/

theorem load_withdraw (why : Withdrawal) (s : State) : load (withdraw why s) = load s := by
  rw [withdraw_eq]; rfl

theorem load_followRailMode (s : State) : load (followRailMode s) = load s := by rw [followRailMode_eq]; rfl

theorem paced_startLowering (d : Level) (h : Paced r s) : Paced r (startLowering d s) := by
  have hd : Paced r { s with enm.transition := .lowering d } := h.of_load rfl
  unfold startLowering
  dsimp only
  split
  · exact (paced_decideSales hd).of_load (load_withdraw _ _)
  · exact hd

theorem paced_retarget (h : Paced r s) : Paced r (retarget s) := by
  have ht : Paced r { s with enm.target := computeTarget s } := h.of_load rfl
  exact retarget_induction (fun _ => ht) (fun _ _ => ht.of_load (load_followRailMode _)) fun _ _ => paced_startLowering _ ht

theorem paced_endBrief (h : Paced r s) : Paced r (endBrief s) := paced_retarget (h.of_load (load_followRailMode _))

theorem paced_startBrief (h : Paced r s) : Paced r (startBrief s) := paced_retarget (h.of_load (load_followRailMode _))

theorem paced_judgeBriefStart (h : Paced r s) : Paced r (judgeBriefStart s) := by
  unfold judgeBriefStart
  split
  · exact paced_startBrief h
  · exact h

theorem load_restartDemandTimer (s : State) : load (restartDemandTimer s) = load s := by
  unfold restartDemandTimer
  split <;> rfl

theorem paced_activity (h : Paced r s) : Paced r (activity s) := by
  have hd : Paced r (restartDemandTimer { s with awu.demand := s.enm.effective }) := h.of_load (load_restartDemandTimer _)
  unfold activity
  dsimp only
  split
  · exact paced_endBrief hd
  · exact paced_retarget hd

theorem paced_wake (source : WokeSource) (edge : Option Edge) (h : Paced r s) : Paced r (wake source edge s) := by
  have ha := paced_activity h
  cases source <;> exact ha.of_load rfl

theorem paced_internalEvent (flag : Bool) (source : WokeSource) (h : Paced r s) :
    Paced r (internalEvent flag source s) := by
  unfold internalEvent
  split
  · exact paced_wake _ _ h
  · exact h

/-! ### A level given to the boards (R122, R160) -/

/-- The Board Composer given a level's settings lowers the credit to its depth, whatever it was. -/
theorem paced_takeLoadSettings (h : QueueOrdered r → QueueOrdered s) : Paced r (takeLoadSettings s) :=
  ⟨fun _ => Nat.min_le_right _ _, h⟩

theorem paced_dormantCredit (l : Level) (h : Paced r s) : Paced r (dormantCredit l s) := by
  unfold dormantCredit
  split
  next hl => exact ⟨fun _ => hl.2.2, h.queue⟩
  next => exact h

theorem paced_completeAt (d : Level) (h : QueueOrdered r → QueueOrdered s) : Paced r (completeAt d s) := by
  have hlevel := paced_decideSales (paced_dormantCredit s.enm.present (paced_takeLoadSettings (r := r)
    (s := { s with enm.present := d, enm.previous := some s.enm.present, enm.transition := .none }) h))
  have htold := hlevel.of_load (t := raiseNotice .levelChanged _) rfl
  unfold completeAt
  dsimp only
  split
  · exact paced_retarget (paced_judgeBriefStart htold)
  · exact paced_retarget htold

theorem paced_completeLowering (d : Level) (h : Paced r s) : Paced r (completeLowering d s) := by
  have hrail : Paced r (followRailMode { s with enm.draw := (levelEntry s d).draw, plc.railLevel := d }) :=
    h.of_load (load_followRailMode _)
  exact paced_completeAt d hrail.queue

/-! ### The reactions of a taking -/

theorem paced_setCold (l : Option Level) (h : Paced r s) : Paced r (setCold l s) := by
  unfold setCold
  split
  · exact h
  · exact paced_retarget (h.of_load rfl)

theorem paced_reportUrgent (h : Paced r s) : Paced r (reportUrgent s) := by
  have hu : Paced r { s with awu.urgent := urgentWaiting s } := h.of_load rfl
  unfold reportUrgent
  dsimp only
  split
  · exact paced_judgeBriefStart hu
  · exact hu

theorem load_beginTransaction (a : Addr) (w : Work) (p : LinePhase) (s : State) :
    load (beginTransaction a w p s) = load s := by
  unfold beginTransaction
  dsimp only
  split
  · rfl
  · split <;> rfl

theorem load_startRefresh (a : Addr) (p : Page) (s : State) : load (startRefresh a p s) = load s := by
  unfold startRefresh
  dsimp only
  split
  · rfl
  · exact load_beginTransaction _ _ _ _

theorem paced_serve (a : Addr) (h : Paced r s) : Paced r (serve a s) := by
  have hsettled : Paced r (if (s.bdc.profiles.get a).kind = .messages then settlePosition s else s) := by
    split
    · exact h.of_load rfl
    · exact h
  unfold serve
  dsimp only
  generalize (if (s.bdc.profiles.get a).kind = .messages then settlePosition s else s) = u at hsettled ⊢
  split
  · exact hsettled.filtered _ rfl rfl
  · exact (hsettled.filtered (t := { u with bdc.queue := _, bdc.composed := _ }) _ rfl rfl).of_load (load_startRefresh _ _ _)

theorem paced_react (hr : react s = some t) (h : Paced r s) : Paced r t := by
  unfold react at hr
  split at hr
  · cases hr; exact paced_reportUrgent h
  split at hr
  · cases hr; exact paced_setCold _ (h.of_load rfl)
  split at hr
  · cases hr; exact h.of_load (load_beginTransaction _ _ _ _)
  · cases hr; exact paced_serve _ h
  · split at hr
    · cases hr; exact paced_endBrief h
    · obtain ⟨d, -, rfl⟩ := Option.map_eq_some_iff.mp hr
      exact paced_completeLowering d h

theorem paced_settle (h : Paced r s) : Paced r (settle s) := by
  have hloop : ∀ n s, Paced r s → Paced r (settleLoop n s) := by
    intro n
    induction n with
    | zero => exact fun s h => h
    | succ n ih =>
      intro s h
      unfold settleLoop
      cases hr : react s with
      | none => exact h
      | some t => exact ih t (paced_react hr h)
  have hfollow (u : State) : load (followRotation u) = load u := by
    unfold followRotation
    split <;> rfl
  exact (hloop _ s h).of_load (hfollow _)

theorem paced_beginTaking (h : Paced r s) : Paced r (beginTaking s) :=
  paced_settle (paced_internalEvent _ _ (h.of_load rfl))

end

end Sys2Proof.Machine
end

section
/-! SUPPORT. The same through the panel line, the boards' requests and timers, the services, tables, tariffs, levels, sales and the
clock, up to the step; and StepKeepsCreditAndQueue. -/

namespace Sys2Proof.Machine

section
variable {r s t : State}

/-! ### The panel line -/

theorem load_endTransaction (s : State) : load (endTransaction s) = load s := by
  unfold endTransaction
  dsimp only
  split
  · rfl
  · split <;> rfl
  · rfl

theorem paced_failAttempt (silent : Bool) (t : Transaction) (h : Paced r s) : Paced r (failAttempt silent t s) := by
  unfold failAttempt goOffline
  dsimp only
  split
  · exact h.of_load rfl
  · split
    · exact h.of_load (load_endTransaction _)
    · exact paced_requestRefresh _ _ (h.of_load (load_endTransaction _))

theorem paced_probeAgain (silent : Bool) (t : Transaction) (x : Refresh) (left : Nat) (h : Paced r s) :
    Paced r (probeAgain silent t x left s) := by
  unfold probeAgain stuck
  split
  · exact h.of_load rfl
  · exact paced_failAttempt _ _ (h.of_load rfl)

/-- The first SHOW of a refresh takes a credit, and no operation of the line adds one (R122). -/
theorem paced_takeShow (t : Transaction) (x : Refresh) (h : Paced r s) : Paced r (takeShow t x s) := by
  unfold takeShow
  dsimp only
  split
  · exact h.of_load rfl
  · exact ⟨fun hr => (Nat.sub_le _ _).trans (h.credit hr), h.queue⟩

theorem paced_takeDrawingState (t : Transaction) (x : Refresh) (left : Nat) (toggle busy : Bool) (h : Paced r s) :
    Paced r (takeDrawingState t x left toggle busy s) := by
  unfold takeDrawingState
  dsimp only
  split_ifs
  · exact paced_probeAgain _ _ _ _ h
  · exact h.of_load (load_endTransaction _)
  · exact paced_failAttempt _ _ (h.of_load rfl)

theorem paced_resynchronise (a : Addr) (toggle : Bool) (t : Int) (h : Paced r s) : Paced r (resynchronise a toggle t s) := by
  have hend (p : PanelRecord) : Paced r (endTransaction (setPanel a p s)) := h.of_load (load_endTransaction _)
  unfold resynchronise
  dsimp only
  split_ifs
  · exact (paced_requestRefresh _ _ (hend _)).of_load rfl
  · exact (hend _).of_load rfl
  · exact paced_requestRefresh _ _ (hend _)
  · exact (hend _).of_load rfl

theorem paced_takeProbeState (a : Addr) (toggle : Bool) (t : Int) (h : Paced r s) :
    Paced r (takeProbeState a toggle t s) := by
  unfold takeProbeState
  split
  · exact paced_resynchronise _ _ _ h
  · exact paced_resynchronise _ _ _ h
  · unfold takeColdState
    dsimp only
    split
    · exact paced_requestRefresh _ _ (h.of_load (load_endTransaction _))
    · exact h.of_load (load_endTransaction _)
  · exact h.of_load (load_endTransaction _)

theorem paced_takeAnswer (t : Transaction) (answer : PanelAnswer) (h : Paced r s) : Paced r (takeAnswer t answer s) := by
  have happly {u : State} (hu : Paced r u) : Paced r (applyAnswer t answer u) := by
    unfold applyAnswer
    split
    · exact hu.of_load rfl
    · exact paced_takeShow _ _ hu
    · exact hu.of_load (load_endTransaction _)
    · exact paced_failAttempt _ _ hu
    · exact paced_takeDrawingState _ _ _ _ _ hu
    · exact paced_takeProbeState _ _ _ hu
    · exact hu
  unfold takeAnswer
  split
  · exact h.of_load (load_endTransaction _)
  · exact happly (h.of_load rfl)

theorem paced_takeSilence (t : Transaction) (h : Paced r s) : Paced r (takeSilence t s) := by
  unfold takeSilence goOffline
  dsimp only
  split_ifs
  · exact h.of_load (load_endTransaction _)
  · exact h.of_load (load_endTransaction _)
  · split
    · exact h.of_load (load_endTransaction _)
    · unfold refreshSilent
      split
      · exact paced_probeAgain _ _ _ _ (h.of_load rfl)
      · exact paced_failAttempt _ _ (h.of_load rfl)

theorem paced_replyWait (h : Paced r s) : Paced r (replyWait s) := by
  unfold replyWait
  split
  · split
    · exact paced_takeSilence _ h
    · exact h
  · exact h

theorem paced_panelReplied (source : Addr) (ok : Bool) (answer : PanelAnswer) (h : Paced r s) :
    Paced r (panelReplied source ok answer s) := by
  unfold panelReplied
  split
  · split_ifs
    · exact h
    · exact paced_takeAnswer _ _ h
    · exact paced_takeSilence _ h
  · exact h

theorem load_railSettled (s : State) : load (railSettled s) = load s := by
  have hfirst (t : Transaction) (u : State) : load (firstFrame t u) = load u := by
    unfold firstFrame
    split <;> rfl
  unfold railSettled
  split
  · dsimp only
    split
    · split
      · exact hfirst _ _
      · rfl
    · rfl
  · rfl

/-! ### The boards' requests and timers -/

theorem paced_changeProfile (a : Addr) (p : Profile) (h : Paced r s) : Paced r (changeProfile a p s) := by
  unfold changeProfile
  dsimp only
  split
  · unfold panelAbsent
    rw [(discardTransaction_state a _).1]
    exact h.filtered _ rfl rfl
  · exact paced_requestRefresh _ _ (h.of_load rfl)
  · split
    · exact h.of_load rfl
    · exact paced_requestRefresh _ _ (h.of_load rfl)
  · exact h.of_load rfl

theorem paced_panelProfileRule (n : Nat) (presence : Option (Coded Bool)) (k : Option (Coded PanelKind)) (rows : Option Nat)
    (f : Option (Coded DirFilter)) (th : Option Nat) (h : Paced r s) :
    Paced r (panelProfileRule n presence k rows f th s).1 := by
  unfold panelProfileRule
  split
  · exact h
  · split
    · exact h
    · exact paced_changeProfile _ _ h

theorem paced_boardTextRule (id : Nat) (p : Coded MsgPriority) (lines : List Text) (expiry : Option Nat) (h : Paced r s) :
    Paced r (boardTextRule id p lines expiry s).1 := by
  have hadd (q : MsgPriority) (kept : List HostEntry) : Paced r (addHost id q lines expiry kept s) := by
    unfold addHost
    exact paced_requestEach _ (h.of_load rfl)
  unfold boardTextRule
  split
  · exact h
  · split_ifs
    · exact h
    · exact h
    · unfold placeHost
      dsimp only
      split_ifs
      · exact hadd _ _
      · exact hadd _ _
      · split
        · exact h
        · exact hadd _ _

theorem paced_boardTextDropRule (id : Option Nat) (h : Paced r s) : Paced r (boardTextDropRule id s).1 := by
  unfold boardTextDropRule
  dsimp only
  split
  · exact h
  · exact paced_removeHost _ h

theorem paced_boardRefreshRule (n : Option Nat) (u : Coded Bool) (h : Paced r s) : Paced r (boardRefreshRule n u s).1 := by
  unfold boardRefreshRule
  split
  · exact h
  · dsimp only
    unfold requestAll
    exact paced_requestEach _ h
  · split
    · exact h
    · split
      · exact paced_requestRefresh _ _ h
      · exact h

/-- The accrual adds a credit below the depth alone (R122). -/
theorem paced_accrualExpiry (h : Paced r s) : Paced r (accrualExpiry s) := by
  unfold accrualExpiry
  split
  · refine ⟨fun hr => ?_, h.queue⟩
    show (if s.bdc.credit < (presentEntry s).depth then s.bdc.credit + 1 else s.bdc.credit) ≤ (presentEntry s).depth
    split
    next hlt => exact hlt
    next => exact h.credit hr
  · exact h

theorem paced_rotationExpiry (h : Paced r s) : Paced r (rotationExpiry s) := by
  unfold rotationExpiry
  split
  · exact paced_requestEach _ (h.of_load rfl)
  · exact h

theorem paced_serveFirst (h : Paced r s) : Paced r (serveFirst s) := by
  unfold serveFirst
  split
  · exact paced_serve _ h
  · exact h

theorem load_probeFirst (s : State) : load (probeFirst s) = load s := by
  unfold probeFirst
  cases probeReady s with
  | none => rfl
  | some a => exact load_beginTransaction _ _ _ _

/-! ### Services, tables and tariffs -/

theorem paced_changeEvent (old new : Service) (c : ChangeCause) (h : Paced r s) : Paced r (changeEvent old new s c) := by
  cases c
  case cancel =>
    have hput : Paced r (putAuto new.plan.number new.plan.minute (terminus new) s) := h.of_load rfl
    unfold changeEvent
    dsimp only
    split
    · exact paced_requestEach _ hput
    · exact paced_requestEach _ h
  case reinstate =>
    unfold changeEvent
    exact paced_requestEach _ (h.of_load (load_keepMessages _ _ s))
  all_goals exact paced_requestEach _ h

theorem load_statusEvent (s : State) (p : Service × Service) : load (statusEvent s p) = load s := by
  unfold statusEvent
  split
  · split
    · split
      · exact load_withdraw _ _
      · rfl
    · rfl
  · rfl

theorem paced_approachStart (p : Service × Service) (h : Paced r s) : Paced r (approachStart s p) := by
  unfold approachStart
  split
  · exact paced_internalEvent _ _ (paced_activity h)
  · exact h

theorem paced_handOn (pairs : List (Service × Service)) (h : Paced r s) : Paced r (handOn pairs s) := by
  have hstarts := Paced.foldl (fun _ p h => paced_approachStart p h) pairs (paced_retarget h)
  have hstatus := Paced.foldl (fun u p h => h.of_load (load_statusEvent u p)) pairs hstarts
  exact Paced.foldl (fun _ p h => Paced.foldl (fun _ c h => paced_changeEvent p.1 p.2 c h) _ h) pairs hstatus

theorem paced_minuteEvaluation (now : Nat) (h : Paced r s) : Paced r (minuteEvaluation now s) := by
  unfold minuteEvaluation
  split
  · exact h
  · exact paced_handOn _ (h.of_load rfl)

theorem paced_evaluateNow (h : Paced r s) : Paced r (evaluateNow s) := by
  unfold evaluateNow
  cases nowMinute s with
  | none => exact h
  | some m => exact paced_minuteEvaluation m h

theorem paced_runningRule (number stamp : Nat) (kind : Coded RunKind) (arg : Int) (h : Paced r s) :
    Paced r (runningRule number stamp kind arg s).1 := by
  cases kind with
  | other n => exact h
  | named k =>
    unfold runningRule
    dsimp only
    split
    · exact h
    · split
      · exact h
      · split
        · exact h
        · split_ifs
          · exact h
          · exact h
          · exact paced_handOn _ (h.of_load rfl)

theorem paced_placeCurrent (t : Option CurrentTable) (h : Paced r s) : Paced r (placeCurrent t s) :=
  paced_tableEvent (paced_retarget (h.of_load rfl))

theorem paced_promote (t : NextTable) (h : Paced r s) : Paced r (promote t s) := paced_placeCurrent _ (h.of_load rfl)

theorem paced_tablePromoteRule (version : Nat) (h : Paced r s) : Paced r (tablePromoteRule version s).1 := by
  unfold tablePromoteRule
  split
  · split_ifs
    · exact h
    · exact h
    · exact h
    · exact paced_evaluateNow (paced_promote _ h)
  · exact h

theorem paced_serviceSettingsRule (g w m : Option Nat) (h : Paced r s) : Paced r (serviceSettingsRule g w m s).1 := by
  unfold serviceSettingsRule
  dsimp only
  split_ifs
  · exact h
  · exact h.of_load rfl
  · exact paced_evaluateNow (h.of_load rfl)

theorem paced_ttsRollover (entered : Date) (cause : RolloverCause) (h : Paced r s) :
    Paced r (ttsRollover entered cause s) := by
  have hempty {u : State} (hu : Paced r u) : Paced r (emptyCurrent u) := (paced_placeCurrent none hu).of_load rfl
  unfold ttsRollover rolloverTables
  split
  · exact paced_tableEvent h
  · split
    · exact hempty h
    · split_ifs
      · exact hempty h
      · exact paced_promote _ h
      · exact hempty (h.of_load rfl)
      · exact hempty h

theorem paced_activate (t : Tariff) (h : Paced r s) : Paced r (activate t s) := by
  have hactive : Paced r { s with tfe.active := some t, tfe.pending := none } := h.of_load rfl
  have hsales := paced_decideSales (hactive.of_load (load_withdraw .tariff _))
  unfold activate namesEvent
  exact paced_requestEach _ hsales

theorem paced_tfeRollover (entered : Date) (h : Paced r s) : Paced r (tfeRollover entered s) := by
  unfold tfeRollover
  cases tariffDue entered s with
  | none => exact h
  | some t => exact paced_activate t h

theorem paced_tariffCloseRule (h : Paced r s) : Paced r (tariffCloseRule s).1 := by
  unfold tariffCloseRule
  split
  · exact h
  · split
    · exact h
    · split
      · exact h
      · split
        · exact paced_activate _ h
        · exact h.of_load rfl

/-! ### Limits, ceiling and demand -/

theorem paced_setBattery (l : Option Level) (h : Paced r s) : Paced r (setBattery l s) := by
  have hl : Paced r (raiseNotice .limitChanged { s with enm.battery := l }) := h.of_load rfl
  unfold setBattery
  dsimp only
  split_ifs
  · exact h
  · exact paced_endBrief hl
  · exact paced_retarget hl
  · exact paced_judgeBriefStart (paced_retarget hl)
  · exact paced_retarget hl

theorem paced_setQuiet (l : Option Level) (h : Paced r s) : Paced r (setQuiet l s) := by
  unfold setQuiet
  split
  · exact h
  · exact paced_retarget (h.of_load rfl)

theorem paced_quietOnMinute (h : Paced r s) : Paced r (quietOnMinute s) := by
  unfold quietOnMinute
  dsimp only
  split
  · exact paced_internalEvent _ _ (paced_setQuiet _ h)
  · exact paced_setQuiet _ h

theorem load_followCeiling (s : State) : load (followCeiling s) = load s := by
  unfold followCeiling
  dsimp only
  split
  · rfl
  · exact load_restartDemandTimer _

theorem paced_recomputeCeiling (h : Paced r s) : Paced r (recomputeCeiling s) :=
  paced_retarget (h.of_load (load_followCeiling s))

theorem paced_staleExpiry (h : Paced r s) : Paced r (staleExpiry s) := by
  unfold staleExpiry
  split
  · exact h
  · exact paced_setBattery _ (h.of_load rfl)

theorem paced_demandExpiry (h : Paced r s) : Paced r (demandExpiry s) := by
  unfold demandExpiry
  split
  · exact paced_retarget (h.of_load rfl)
  · exact h

theorem paced_raiseSettled (h : Paced r s) : Paced r (raiseSettled s) := by
  unfold raiseSettled
  split
  · exact paced_completeAt _ h.queue
  · exact h

theorem paced_drainFirst (h : Paced r s) : Paced r (drainFirst s) := by
  unfold drainFirst
  cases drainReady s with
  | none => exact h
  | some d => exact paced_completeLowering d h

theorem paced_returnFirst (h : Paced r s) : Paced r (returnFirst s) := by
  unfold returnFirst
  split
  · exact paced_endBrief h
  · exact h

/-! ### An entry of the level table (R146) -/

/-- The table with a new entry, and the draw allowance and the demand timer that follow it at its level (R146, R166). -/
def entryStored (l : Level) (e : LevelEntry) (s : State) : State := { s with
  enm.table := s.enm.table.set l e
  enm.draw := if e.draw ≠ (levelEntry s l).draw ∧ drawLevel s = l then e.draw else s.enm.draw
  awu.timer :=
    if e.timeout ≠ (levelEntry s l).timeout ∧ s.awu.demand = l ∧ s.awu.timer ≠ .held then demandTimerOf e else s.awu.timer }

/-- An entry stored, and of the present level given to the boards. -/
def entryGiven (l : Level) (e : LevelEntry) (s : State) : State :=
  if l = s.enm.present then takeLoadSettings (entryStored l e s) else entryStored l e s

/-- An accepted LEVEL-TABLE stores the entry, gives it to the boards, and with a changed draw recomputes the ceiling. -/
theorem applyEntry_eq (l : Level) (e : LevelEntry) (s : State) : applyEntry l e s =
    if e.draw ≠ (levelEntry s l).draw then recomputeCeiling (entryGiven l e s) else entryGiven l e s := by
  have hrestart (draw : Nat) (hd : s.awu.demand = l) :
      restartDemandTimer { s with enm.table := s.enm.table.set l e, enm.draw := draw } =
        { s with
          enm.table := s.enm.table.set l e
          enm.draw := draw
          awu.timer := if s.awu.timer ≠ .held then demandTimerOf e else s.awu.timer } := by
    have hfresh : freshDemandTimer { s with enm.table := s.enm.table.set l e, enm.draw := draw } = demandTimerOf e := by
      rw [freshDemandTimer_eq]
      show demandTimerOf ((s.enm.table.set l e).get s.awu.demand) = _
      rw [PerLevel.get_set, if_pos hd]
    unfold restartDemandTimer
    rw [hfresh]
    split
    next hh => rw [if_neg (not_not.mpr hh)]
    next => simp
  have hstored : (let s1 := { s with enm.table := s.enm.table.set l e }
      let s2 := if e.draw ≠ (levelEntry s l).draw ∧ drawLevel s1 = l then { s1 with enm.draw := e.draw } else s1
      if e.timeout ≠ (levelEntry s l).timeout ∧ s2.awu.demand = l then restartDemandTimer s2 else s2) =
      entryStored l e s := by
    dsimp only
    have hlevel : drawLevel { s with enm.table := s.enm.table.set l e } = drawLevel s := rfl
    rw [hlevel]
    by_cases hdraw : e.draw ≠ (levelEntry s l).draw ∧ drawLevel s = l <;>
      by_cases htime : e.timeout ≠ (levelEntry s l).timeout ∧ s.awu.demand = l
    · rw [if_pos hdraw, if_pos htime, hrestart e.draw htime.2, entryStored, if_pos hdraw]
      simp [htime]
    · rw [if_pos hdraw, if_neg htime, entryStored, if_pos hdraw, if_neg fun ⟨ht, hd, _⟩ => htime ⟨ht, hd⟩]
    · rw [if_neg hdraw, if_pos htime, hrestart s.enm.draw htime.2, entryStored, if_neg hdraw]
      simp [htime]
    · rw [if_neg hdraw, if_neg htime, entryStored, if_neg hdraw, if_neg fun ⟨ht, hd, _⟩ => htime ⟨ht, hd⟩]
  unfold applyEntry
  dsimp only at hstored ⊢
  rw [hstored]
  rfl

/-- A new entry of the present level gives its settings to the boards; one of another level leaves their depth alone. -/
theorem paced_applyEntry (l : Level) (e : LevelEntry) (h : Paced r s) : Paced r (applyEntry l e s) := by
  have hgiven : Paced r (entryGiven l e s) := by
    unfold entryGiven
    split
    next hl => exact paced_takeLoadSettings h.queue
    next hl =>
      refine h.of_load (Prod.ext rfl (Prod.ext rfl ?_))
      show ((s.enm.table.set l e).get s.enm.present).depth = (s.enm.table.get s.enm.present).depth
      rw [PerLevel.get_set, if_neg (Ne.symm hl)]
  rw [applyEntry_eq]
  split
  · exact paced_recomputeCeiling hgiven
  · exact hgiven

theorem paced_levelTableRule (sel : Coded Level) (a b c d e f : Option Nat) (h : Paced r s) :
    Paced r (levelTableRule sel a b c d e f s).1 := by
  unfold levelTableRule
  split
  · exact h
  · split_ifs
    · exact h
    · exact h
    · exact paced_applyEntry _ _ h

theorem paced_levelCeilingRule (v : Option Nat) (h : Paced r s) : Paced r (levelCeilingRule v s).1 := by
  unfold levelCeilingRule
  split
  · exact h
  · split
    · exact h
    · exact paced_recomputeCeiling (h.of_load rfl)

theorem paced_levelLimitRule (v : LimitField) (h : Paced r s) : Paced r (levelLimitRule v s).1 := by
  have hstore (l : Option Level) : Paced r (storeHost l s).1 := by
    refine paced_settle ?_
    unfold setHost
    split
    · exact h
    · exact paced_retarget (h.of_load rfl)
  unfold levelLimitRule
  split
  · exact h
  · exact hstore _
  · split
    · exact h
    · exact hstore _
  · exact h

theorem paced_supplyCapacityRule (v : Option Nat) (h : Paced r s) : Paced r (supplyCapacityRule v s).1 := by
  unfold supplyCapacityRule
  split
  · exact h
  · split
    · exact h
    · exact paced_recomputeCeiling (h.of_load rfl)

theorem paced_supplyReportRule (c : Int) (h : Paced r s) : Paced r (supplyReportRule c s).1 := by
  refine paced_settle (paced_setBattery _ ?_)
  split <;> exact h.of_load rfl

theorem paced_energySettingsRule (a b c d : Option Nat) (h : Paced r s) : Paced r (energySettingsRule a b c d s).1 := by
  unfold energySettingsRule
  dsimp only
  split_ifs
  · exact h
  · exact paced_setQuiet _ (h.of_load rfl)
  · exact h.of_load rfl

/-! ### The field inputs and the notices -/

theorem paced_inputEvent (i : FieldInput) (high : Bool) (h : Paced r s) : Paced r (inputEvent i high s) := by
  unfold inputEvent
  dsimp only
  split
  · have hwake := paced_wake (.field i) (some (if high then .rising else .falling)) h
    split
    · exact hwake.of_load rfl
    · exact hwake
  · split
    · exact paced_activity h
    · exact h

theorem paced_filteredChange (i : FieldInput) (high : Bool) (h : Paced r s) : Paced r (filteredChange i high s) := by
  have hdoor : load (doorChange i high { s with awu.filtered := fiveSet s.awu.filtered i (some high) }) = load s := by
    unfold doorChange
    split <;> rfl
  have hlock (u : State) : load (if i = .call then { u with awu.lock := passLock high u.awu.lock } else u) = load u := by
    split <;> rfl
  unfold filteredChange inputEdge
  dsimp only
  generalize doorChange i high { s with awu.filtered := fiveSet s.awu.filtered i (some high) } = u at hdoor ⊢
  have hu := h.of_load ((hlock u).trans hdoor)
  generalize (if i = .call then { u with awu.lock := passLock high u.awu.lock } else u) = v at hu ⊢
  split_ifs
  exacts [paced_inputEvent i high hu, hu, paced_inputEvent i high hu, hu, h]

theorem load_firstTaking (i : FieldInput) (high : Bool) (s : State) : load (firstTaking i high s) = load s := by
  unfold firstTaking
  dsimp only
  split_ifs <;> rfl

theorem load_foldl {α : Type} {f : State → α → State} (hf : ∀ s a, load (f s a) = load s) (l : List α) (s : State) :
    load (l.foldl f s) = load s := by
  induction l generalizing s with
  | nil => rfl
  | cons a l ih => exact (ih _).trans (hf s a)

theorem load_noticeClearRule (l : List Nat) (s : State) : load (noticeClearRule l s).1 = load s := by
  have hfold := load_foldl (f := clearNotice) fun _ _ => rfl
  unfold noticeClearRule
  dsimp only
  split
  · rfl
  · split <;> exact hfold _ s

theorem load_noticeConfigRule (l : List NoticeField) (d : Option (Coded DoorSense)) (s : State) :
    load (noticeConfigRule l d s).1 = load s := by
  have hfold := load_foldl (f := storeNotice) fun _ _ => rfl
  unfold noticeConfigRule storeDoorSense
  dsimp only
  split
  · rfl
  · split <;> exact hfold l s

/-! ### The sales and the journal -/

theorem load_evaluateThresholds (s : State) : load (evaluateThresholds s) = load s := by rw [evaluateThresholds_eq]; rfl

theorem load_putSlot (slot : Slot) (s : State) : load (putSlot slot s) = load s := by
  obtain ⟨timer, ht⟩ := putSlot_state slot s
  rw [ht]
  rfl

theorem paced_offerSold (date : Date) (number quantity : Nat) (h : Paced r s) :
    Paced r (offerSold date number quantity s) := by
  have hevent (v : Service) {u : State} (hu : Paced r u) : Paced r (soldEvent v u) := by
    unfold soldEvent
    split
    · exact paced_requestEach _ (hu.of_load rfl)
    · exact hu
  unfold offerSold
  split
  · exact h
  · split
    · exact h
    · split
      · exact h
      · dsimp only
        split
        · exact hevent _ (h.of_load rfl)
        · exact h.of_load rfl

theorem paced_conclude (x : Sale) (kind : RecordKind) (h : Paced r s) : Paced r (conclude x kind s) := by
  have hend {u : State} (hu : Paced r u) : Paced r (putSlot .idle u) := hu.of_load (load_putSlot _ _)
  unfold conclude
  dsimp only
  refine hend ?_
  split
  · split
    · exact paced_offerSold _ _ _ (h.of_load rfl)
    · exact h.of_load rfl
  · exact h.of_load rfl

theorem paced_reportFree (h : Paced r s) : Paced r (reportFree s) :=
  paced_decideSales (h.of_load (load_evaluateThresholds s))

theorem load_saleQuoteRule (code : Nat) (k : Coded TicketType) (cls q : Nat) (sel : Coded ServiceSel) (n : Option Nat)
    (s : State) : load (saleQuoteRule code k cls q sel n s).1 = load s := by
  have hbound (t : Tariff) (k : TicketType) (v : Option Service) : load (quoteBound t code k cls q v s).1 = load s := by
    unfold quoteBound
    dsimp only
    split
    · rfl
    · rfl
    · exact load_putSlot _ _
  have hfrom (t : Tariff) (k : TicketType) (sel : ServiceSel) : load (quoteFrom t code k cls q sel n s).1 = load s := by
    unfold quoteFrom
    split_ifs
    · rfl
    · rfl
    · split
      · rfl
      · rfl
      · exact hbound _ _ _
      · exact hbound _ _ _
  unfold saleQuoteRule
  split
  · split
    · rfl
    · split
      · rfl
      · split_ifs
        · rfl
        · rfl
        · rfl
        · rfl
        · exact hfrom _ _ _
  · rfl

theorem paced_saleCommitRule (p : Coded Payment) (ref : Option Text) (h : Paced r s) :
    Paced r (saleCommitRule p ref s).1 := by
  cases p with
  | other n => exact h
  | named k =>
    unfold saleCommitRule
    dsimp only
    split
    · exact h
    · split
      · split
        · exact h
        · split
          · exact h
          · split
            · exact h
            · split
              · exact h
              · split
                · exact h.of_load (load_withdraw _ s)
                · exact paced_reportFree (h.of_load (load_putSlot _ _))
      · exact h

theorem paced_salePrintedRule (n : Nat) (o : Coded PrintOutcome) (h : Paced r s) : Paced r (salePrintedRule n o s).1 := by
  unfold salePrintedRule
  split
  · exact h
  · split
    · exact h
    · split
      · split
        · exact paced_conclude _ _ h
        · exact h
      · exact h

theorem load_saleCancelRule (s : State) : load (saleCancelRule s).1 = load s := by
  unfold saleCancelRule
  split
  · rfl
  · exact load_putSlot _ _

theorem paced_salesCloseRule (h : Paced r s) : Paced r (salesCloseRule s).1 := by
  have hclosed : Paced r { s with slc.hostClosed := true } := h.of_load rfl
  unfold salesCloseRule
  exact (paced_decideSales hclosed).of_load (load_withdraw _ _)

theorem paced_printExpiry (h : Paced r s) : Paced r (printExpiry s) := by
  unfold printExpiry
  split
  · exact (paced_conclude _ _ h).of_load rfl
  · exact h

theorem paced_journalReleaseRule (n : Nat) (h : Paced r s) : Paced r (journalReleaseRule n s).1 := by
  unfold journalReleaseRule
  dsimp only
  split
  · exact h
  · split
    · exact h
    · split
      · exact h
      · split
        · exact h
        · exact paced_reportFree (h.of_load rfl)

/-! ### The clock -/

theorem paced_minuteEvent (e : MinuteEvent) (h : Paced r s) : Paced r (minuteEvent e s) :=
  paced_quietOnMinute ((paced_removeHost _ (paced_minuteEvaluation _ h)).of_load rfl)

theorem paced_slotAndTariff (entered : Date) (h : Paced r s) : Paced r (slotAndTariff entered s) := by
  obtain ⟨n, hn | hn⟩ := slotAndTariff_cases entered s
  all_goals
    have hfree : Paced r { s with free := n } := h.of_load rfl
    rw [hn]
  · exact (paced_tfeRollover _ hfree).of_load (load_withdraw _ _)
  · exact paced_tfeRollover _ (hfree.of_load (load_withdraw _ _))

theorem paced_enterDate (c : ClockSetting) (left : Option Date) (day : RolloverCause) (m : MinuteCause) (h : Paced r s) :
    Paced r (enterDate c left day m s) := by
  have hboards {u : State} (hu : Paced r u) : Paced r (boardsRollover u) := by
    unfold boardsRollover requestAll
    exact paced_requestEach _ (hu.of_load (load_keepMessages _ _ _))
  have hrollover (e : RolloverEvent) : Paced r (rolloverEvent e s) :=
    (paced_internalEvent _ _ (hboards (paced_slotAndTariff _ (paced_ttsRollover _ _ h)))).of_load rfl
  exact paced_minuteEvent _ (hrollover _)

theorem paced_clockSecondEvent (h : Paced r s) : Paced r (clockSecondEvent s) := by
  have hunset : Paced r (unsetClock s) := by
    have htts : Paced r (ttsUnset { s with clock := none }) := by
      unfold ttsUnset
      exact paced_retarget (h.of_load rfl)
    have hlamp : Paced r (setLamp (decideSales (ttsUnset { s with clock := none }))) := (paced_decideSales htts).of_load rfl
    exact paced_setQuiet _ hlamp
  cases hc : s.clock with
  | none => rwa [clockSecondEvent_unset hc]
  | some c =>
    rw [clockSecondEvent_set hc]
    unfold clockTick
    dsimp only
    split_ifs
    · exact paced_minuteEvent _ (h.of_load rfl)
    · exact h.of_load rfl
    · exact paced_enterDate _ _ _ _ (h.of_load rfl)
    · exact hunset

theorem paced_clockSetRule (y mo d hh mi sec : Nat) (h : Paced r s) : Paced r (clockSetRule y mo d hh mi sec s).1 := by
  unfold clockSetRule
  dsimp only
  split
  · exact h
  · split
    · exact paced_enterDate _ _ _ _ (paced_decideSales (h.of_load rfl))
    · unfold stepClock
      dsimp only
      split_ifs
      · exact h
      · exact h
      · exact paced_minuteEvent _ (h.of_load rfl)
      · exact paced_enterDate _ _ _ _ (h.of_load rfl)

/-! ### CLEAR-RETAINED and the restarts -/

theorem paced_clearAll (h : Paced r s) : Paced r (clearAll s) := by
  have htables : Paced r (clearTables s) := paced_placeCurrent none (h.of_load rfl)
  have hsales : Paced r (clearSales (clearTables s)) := paced_decideSales (htables.of_load rfl)
  have hprofiles : Paced r (clearProfiles (clearSales (clearTables s))) :=
    Paced.foldl (fun _ a h => paced_changeProfile a _ h) _ hsales
  generalize hu : clearProfiles (clearSales (clearTables s)) = u at hprofiles
  have hqueue : (followCeiling (defaultEnergy u)).bdc.queue = u.bdc.queue :=
    congrArg Prod.fst (load_followCeiling (defaultEnergy u))
  have henergy : Paced r (clearEnergy u) := by
    have hgiven : Paced r (takeLoadSettings { followCeiling (defaultEnergy u) with
        enm.quietLimit := quietNow (followCeiling (defaultEnergy u)) }) :=
      paced_takeLoadSettings fun hr => by
        have := hprofiles.queue hr
        rwa [QueueOrdered, hqueue]
    unfold clearEnergy
    dsimp only
    split
    · exact paced_retarget hgiven
    · exact paced_retarget (hgiven.of_load rfl)
  rw [clearAll, hu]
  exact henergy.of_load rfl

theorem paced_clearRetainedRule (h : Paced r s) : Paced r (clearRetainedRule s).1 := by
  unfold clearRetainedRule
  split
  · exact paced_clearAll h
  · exact h

/-- A loss leaves no entry and no credit (R187). -/
theorem paced_lose (r s : State) : Paced r (lose s) :=
  ⟨fun _ => Nat.zero_le _, fun _ => ⟨List.nodup_nil, List.Pairwise.nil⟩⟩

theorem paced_restartAt (strap : Bool) (r s : State) : Paced r (restartAt strap s) := by
  have hlost : Paced r (lostAt strap s) := (paced_lose r { s with strap := strap }).of_load rfl
  have hconvert : Paced r (convertSale (lostAt strap s)) := by
    unfold convertSale
    split
    · dsimp only
      refine Paced.of_load (s := Option.elim _ _ _) ?_ rfl
      cases Sale.quote _ |>.bound with
      | none => exact hlost.of_load rfl
      | some b => exact paced_offerSold _ _ _ (hlost.of_load rfl)
    · exact hlost
  have hreport (u : State) : load (startBoards (startDemand (raiseNotice .woke (reportTimetable u)))) = load u := by
    rw [reportTimetable_eq]
    rfl
  exact paced_settle (paced_retarget (hconvert.of_load ((hreport _).trans (load_evaluateThresholds _))))

/-! ### Every owner's rule and every event -/

theorem paced_saleRule {rule : State → State × Answer} (hrule : ∀ {s}, Paced r s → Paced r (rule s).1) (h : Paced r s) :
    Paced r (saleRule rule s).1 := hrule (paced_settle (paced_activity h))

/-- The rules of the loads, the settings and the journal's readings speak of neither queue, credit nor level table. -/
theorem load_tableOpenRule (date : Date) (k : Coded DayType) (a b v : Nat) (s : State) :
    load (tableOpenRule date k a b v s).1 = load s := by
  unfold tableOpenRule
  split
  · rfl
  · split <;> rfl

theorem load_tableAddRule (number : Nat) (d : Coded Direction) (minute platform : Nat) (calls : List Nat) (s : State) :
    load (tableAddRule number d minute platform calls s).1 = load s := by
  unfold tableAddRule
  repeat' split
  all_goals rfl

theorem load_tableCloseRule (s : State) : load (tableCloseRule s).1 = load s := by
  unfold tableCloseRule
  split <;> rfl

theorem load_tariffOpenRule (v : Nat) (date : Date) (s : State) : load (tariffOpenRule v date s).1 = load s := by
  unfold tariffOpenRule
  split <;> rfl

theorem load_tariffStationRule (code : Nat) (name : Text) (distance : Nat) (side : Coded Direction) (s : State) :
    load (tariffStationRule code name distance side s).1 = load s := by
  unfold tariffStationRule
  repeat' split
  all_goals rfl

theorem load_tariffRulesRule (rules : Rules) (s : State) : load (tariffRulesRule rules s).1 = load s := by
  unfold tariffRulesRule
  repeat' split
  all_goals rfl

theorem load_saleSettingsRule (k : Option (List (Coded Payment))) (t : Option (List (Coded TicketType))) (s : State) :
    load (saleSettingsRule k t s).1 = load s := by
  unfold saleSettingsRule
  split <;> rfl

theorem load_journalSettingsRule (low : Option Nat) (s : State) : load (journalSettingsRule low s).1 = load s := by
  unfold journalSettingsRule
  dsimp only
  split
  · rfl
  · split
    · rfl
    · exact load_evaluateThresholds _

theorem load_journalReadRule (a b : Nat) (s : State) : load (journalReadRule a b s).1 = load s := by
  unfold journalReadRule
  dsimp only
  split
  · rfl
  · split <;> rfl

theorem load_panelResetRule (n : Nat) (s : State) : load (panelResetRule n s).1 = load s := by
  unfold panelResetRule
  split
  · rfl
  · dsimp only
    split_ifs <;> rfl

theorem load_wakeConfigRule (f : WakeFields) (s : State) : load (wakeConfigRule f s).1 = load s := by
  unfold wakeConfigRule
  dsimp only
  split <;> rfl

theorem paced_ownerRule {c : Instr} {rule : State → State × Answer} (hc : ownerRule c = some rule) (h : Paced r s) :
    Paced r (rule s).1 := by
  cases c <;> cases hc
  case identify => exact h
  case restart => exact h.of_load rfl
  case clearRetained => exact paced_clearRetainedRule h
  case noticeRead => exact h.of_load rfl
  case noticeClear => exact h.of_load (load_noticeClearRule _ s)
  case noticeConfig => exact h.of_load (load_noticeConfigRule _ _ s)
  case clockSet => exact paced_clockSetRule _ _ _ _ _ _ h
  case clockRead => exact h
  case tableOpen => exact h.of_load (load_tableOpenRule _ _ _ _ _ s)
  case tableAdd => exact h.of_load (load_tableAddRule _ _ _ _ _ s)
  case tableClose => exact h.of_load (load_tableCloseRule s)
  case tableDrop => exact h.of_load rfl
  case tablePromote => exact paced_tablePromoteRule _ h
  case tableRead => exact h.of_load (congrArg load (tableReadRule_state _ _ s))
  case serviceSettings => exact paced_serviceSettingsRule _ _ _ h
  case running => exact paced_runningRule _ _ _ _ h
  case tariffOpen => exact h.of_load (load_tariffOpenRule _ _ s)
  case tariffStation => exact h.of_load (load_tariffStationRule _ _ _ _ s)
  case tariffRules => exact h.of_load (load_tariffRulesRule _ s)
  case tariffClose => exact paced_tariffCloseRule h
  case tariffRead => exact h.of_load (congrArg load (tariffReadRule_state _ _ _ s))
  case fareTrial => exact h.of_load (congrArg load (fareTrialRule_state _ _ _ _ _ _ s))
  case saleQuote => exact paced_saleRule (fun hu => hu.of_load (load_saleQuoteRule _ _ _ _ _ _ _)) h
  case saleCommit => exact paced_saleRule (paced_saleCommitRule _ _) h
  case salePrinted => exact paced_saleRule (paced_salePrintedRule _ _) h
  case saleCancel => exact paced_saleRule (fun hu => hu.of_load (load_saleCancelRule _)) h
  case saleStatus => exact paced_saleRule id h
  case salesClose => exact paced_salesCloseRule h
  case salesOpen =>
    have hopen : Paced r { s with slc.hostClosed := false } := h.of_load rfl
    exact paced_decideSales hopen
  case saleSettings => exact h.of_load (load_saleSettingsRule _ _ s)
  case journalRead => exact h.of_load (load_journalReadRule _ _ s)
  case journalRelease => exact paced_journalReleaseRule _ h
  case takingsRead => exact h
  case journalSettings => exact h.of_load (load_journalSettingsRule _ s)
  case panelProfile => exact paced_panelProfileRule _ _ _ _ _ _ h
  case boardText => exact paced_boardTextRule _ _ _ _ h
  case boardTextDrop => exact paced_boardTextDropRule _ h
  case boardRefresh => exact paced_boardRefreshRule _ _ h
  case boardStatus => exact h
  case panelReset => exact h.of_load (load_panelResetRule _ s)
  case panelStatus => exact h
  case levelTable => exact paced_levelTableRule _ _ _ _ _ _ _ h
  case levelCeiling => exact paced_levelCeilingRule _ h
  case levelLimit => exact paced_levelLimitRule _ h
  case supplyCapacity => exact paced_supplyCapacityRule _ h
  case supplyReport => exact paced_supplyReportRule _ h
  case energySettings => exact paced_energySettingsRule _ _ _ _ h
  case energyStatus => exact h
  case activity => exact paced_activity h
  case wakeConfig => exact h.of_load (load_wakeConfigRule _ s)
  case wakeStatus => exact h.of_load rfl

theorem load_drawingExpiry (s : State) : load (drawingExpiry s) = load s := by
  unfold drawingExpiry
  split <;> rfl

theorem load_intervalExpiry (s : State) : load (intervalExpiry s) = load s := by
  unfold intervalExpiry
  split <;> rfl

theorem load_retryExpiry (s : State) : load (retryExpiry s) = load s := by
  unfold retryExpiry
  split <;> rfl

theorem load_probeTimerExpiry (link : LinkState) (a : Addr) (s : State) :
    load (probeTimerExpiry link a s) = load s := by
  unfold probeTimerExpiry
  dsimp only
  split <;> rfl

theorem load_railIdleExpiry (s : State) : load (railIdleExpiry s) = load s := by
  unfold railIdleExpiry
  split <;> rfl

theorem load_returnExpiry (s : State) : load (returnExpiry s) = load s := by
  unfold returnExpiry
  split <;> rfl

theorem paced_eventRule {c : Instr} {f : State → State} (hc : eventRule c = some f) (h : Paced r s) : Paced r (f s) := by
  cases c <;> cases hc
  case clockSecond => exact paced_clockSecondEvent h
  case quoteTimerExpiry => exact h.of_load (load_withdraw _ s)
  case printTimerExpiry => exact paced_printExpiry h
  case accrualTimerExpiry => exact paced_accrualExpiry h
  case rotationTimerExpiry => exact paced_rotationExpiry h
  case serveEntry => exact paced_serveFirst h
  case probeStart => exact h.of_load (load_probeFirst s)
  case railSettleExpiry => exact h.of_load (load_railSettled s)
  case panelReply => exact paced_panelReplied _ _ _ h
  case replyWaitExpiry => exact paced_replyWait h
  case drawingWaitExpiry => exact h.of_load (load_drawingExpiry s)
  case probeIntervalExpiry => exact h.of_load (load_intervalExpiry s)
  case retryWaitExpiry => exact h.of_load (load_retryExpiry s)
  case unknownReprobeDelay => exact h.of_load (load_probeTimerExpiry _ _ s)
  case offlineProbeTimerExpiry => exact h.of_load (load_probeTimerExpiry _ _ s)
  case coldProbeTimerExpiry => exact h.of_load (load_probeTimerExpiry _ _ s)
  case railIdleExpiry => exact h.of_load (load_railIdleExpiry s)
  case raiseSettleExpiry => exact paced_raiseSettled h
  case loweringComplete => exact paced_drainFirst h
  case staleTimerExpiry => exact paced_staleExpiry h
  case fieldInputEdge => exact paced_filteredChange _ _ h
  case filterInitialLevel => exact h.of_load (load_firstTaking _ _ s)
  case demandTimerExpiry => exact paced_demandExpiry h
  case briefEpisodeStart => exact paced_judgeBriefStart h
  case returnTimerExpiry => exact h.of_load (load_returnExpiry s)
  case briefEpisodeReturn => exact paced_returnFirst h

/-! ### Requests and frames taken -/

theorem paced_takeRequest (k g : Byte) {rule : State → State × Answer} (hrule : ∀ {s}, Paced r s → Paced r (rule s).1)
    (h : Paced r s) : Paced r (takeRequest k g rule s) := by
  have hruled := paced_settle (hrule (paced_beginTaking h))
  exact hruled.of_load rfl

theorem paced_takeRow (c : Instr) (h : Paced r s) : Paced r (takeRow c s) := by
  unfold takeRow
  split
  next hr => exact paced_takeRequest _ _ (paced_ownerRule hr) h
  next => exact h

theorem paced_takeFrame (f : Frame) (h : Paced r s) : Paced r (takeFrame f s) := by
  refine paced_takeRequest _ _ (fun {u} hu => ?_) h
  unfold frameRule
  split
  · cases hr : (readBody f.kind f.body).bind ownerRule with
    | none => exact hu
    | some rule =>
      obtain ⟨c, _, hc⟩ := Option.bind_eq_some_iff.mp hr
      exact paced_ownerRule hc hu
  · exact hu

theorem paced_arrived (a : Arrival) {take : State → State} (htake : ∀ {s}, Paced r s → Paced r (take s)) (h : Paced r s) :
    Paced r (arrived a take s) := by
  unfold arrived
  split
  · exact htake h
  · split
    · exact h.of_load rfl
    · exact h

/-! ### The supply, the line and the step -/

theorem paced_supplyRule {c : Instr} {f : State → State} (hc : supplyRule c = some f) (h : Paced r s) : Paced r (f s) := by
  cases c <;> cases hc
  case powerOn strap =>
    unfold powerUp
    split
    · exact h
    · exact h.of_load rfl
    · exact paced_restartAt strap r s
    · exact paced_restartAt strap r s
  case resetnAsserted =>
    unfold holdPart
    split
    · exact h.of_load rfl
    · exact h.of_load rfl
    · exact h
    · exact h
  case resetnReleased strap =>
    unfold releasePart
    split
    · exact paced_restartAt strap r s
    · exact h.of_load rfl
    · exact h
    · exact h
  case powerLoss => exact (paced_lose r s).of_load rfl

theorem paced_replyEnded (h : Paced r s) : Paced r (replyEnded s) := by
  unfold replyEnded
  split
  · exact h
  · split
    · exact paced_restartAt _ r _
    · split
      · exact h.of_load rfl
      · exact paced_takeFrame _ (h.of_load rfl)
      · exact paced_takeRow _ (h.of_load rfl)

theorem paced_byteReceived (b : Byte) (h : Paced r s) : Paced r (byteReceived b s) := by
  unfold byteReceived
  split
  · split
    · exact h.of_load rfl
    · exact h
  next bytes _ =>
    unfold frameByte
    split
    · exact h.of_load rfl
    · split
      · cases checkedFrame (bytes ++ [b]) with
        | none => exact h.of_load rfl
        | some f => exact paced_arrived _ (paced_takeFrame f) (h.of_load rfl)
      · exact h.of_load rfl

theorem paced_lineRule {c : Instr} {f : State → State} (hc : lineRule c = some f) (h : Paced r s) : Paced r (f s) := by
  cases c <;> cases hc
  case frameComplete => exact paced_arrived _ (paced_takeFrame _) h
  case interByteGap => exact h.of_load rfl
  case replySent => exact paced_replyEnded h
  case hostByteReceived b => exact paced_byteReceived b h

theorem paced_whenOn {f : State → State} (hf : ∀ {s}, Paced r s → Paced r (f s)) (h : Paced r s) :
    Paced r (whenOn f s) := by
  unfold whenOn
  split
  · exact hf h
  · exact h

theorem paced_exec {c : Instr} (he : exec c s = .next t) (h : Paced r s) : Paced r t := by
  rcases command_cases c with ⟨rule, hr⟩ | ⟨f, hf⟩ | ⟨f, hf⟩ | ⟨f, hf⟩
  · rw [exec_of_ownerRule hr] at he
    cases he
    exact paced_whenOn (paced_arrived _ (paced_takeRow c)) h
  · rw [exec_of_eventRule hf] at he
    cases he
    exact paced_whenOn (fun hu => paced_settle (paced_eventRule hf hu)) h
  · rw [exec_of_lineRule hf] at he
    cases he
    exact paced_whenOn (paced_lineRule hf) h
  · rw [exec_of_supplyRule hf] at he
    cases he
    exact paced_supplyRule hf h

/-- A millisecond moves timers alone. -/
theorem load_millisecond (s : State) : load (millisecond s) = load s := by
  unfold millisecond
  split <;> rfl

/-- Every step keeps the two invariants of the boards. -/
theorem paced_step (hs : step s = .next t) : Paced s t := by
  cases hp : s.pending with
  | nil =>
    rw [step_of_empty hp] at hs
    cases hs
    exact (Paced.refl s).of_load (load_millisecond s)
  | cons c rest =>
    rw [step_of_pending hp] at hs
    exact paced_exec hs ((Paced.refl s).of_load rfl)

end

/-- Settles O59: every operation of the part keeps the credit within the depth and the queue in order, each a relation between
the state before and the state after. -/
theorem stepKeepsCreditAndQueue : Obligations.StepKeepsCreditAndQueue :=
  ⟨fun _ _ hcredit hs => (paced_step hs).credit hcredit, fun _ _ hqueue hs => (paced_step hs).queue hqueue⟩

end Sys2Proof.Machine
end

section
/-! SUPPORT. The boards' requests (R111, R112, R115, R116, R120, R121): an ordinary request, the end of a transaction and the
changes of a profile; and PanelProfileStored. -/

namespace Sys2Proof.Machine

/-! ### Requests and the end of a transaction -/

/-- An ordinary request leaves an entry that stands, of whatever class (R120). -/
theorem enqueue_ordinary (a : Addr) (q : List QueueEntry) :
    enqueue a false q = if q.any fun e => e.panel == a then q else q ++ [⟨a, false⟩] := by
  unfold enqueue
  cases hfind : q.find? fun e => e.panel == a with
  | none =>
    have hany : ¬(q.any fun e => e.panel == a) = true := by simpa using hfind
    rw [if_neg hany]
    rfl
  | some e =>
    have hown : (e.panel == a) = true := List.find?_some (p := fun e : QueueEntry => e.panel == a) hfind
    have hany : (q.any fun e => e.panel == a) = true := List.any_eq_true.mpr ⟨e, List.mem_of_find?_eq_some hfind, hown⟩
    rw [if_pos hany]
    exact if_neg (by simp)

theorem requestRefresh_present {s : State} {a : Addr} (urgent : Bool) (h : (s.bdc.profiles.get a).isPresent = true) :
    requestRefresh urgent s a = { s with bdc.queue := enqueue a urgent s.bdc.queue } := if_pos h

theorem requestRefresh_ordinary (s : State) (a : Addr) :
    requestRefresh false s a = { s with bdc.queue := ordinaryEntry a s } := by
  unfold requestRefresh ordinaryEntry
  by_cases hp : (s.bdc.profiles.get a).isPresent = true
  · have hor : ((s.bdc.profiles.get a).isPresent = false ∨ (s.bdc.queue.any fun e => e.panel == a) = true) ↔
        (s.bdc.queue.any fun e => e.panel == a) = true := by simp [hp]
    rw [if_pos hp, enqueue_ordinary]
    simp only [hor]
  · rw [if_neg hp, if_pos (.inl (by simpa using hp))]

/-- The queue after an ordinary request of every PRESENT panel of a kind, in ascending address (R120, R121). -/
def ordinaryRequests (k : PanelKind) (s : State) : List QueueEntry :=
  ([Addr.p1, .p2, .p3, .p4].filter fun a => (s.bdc.profiles.get a).isPresent && (s.bdc.profiles.get a).kind == k).foldl
    (init := s.bdc.queue) fun q a => if q.any fun e => e.panel == a then q else q ++ [⟨a, false⟩]

theorem requestKind_ordinary (k : PanelKind) (s : State) :
    requestKind k false s = { s with bdc.queue := ordinaryRequests k s } := by
  have hstep (p : Four Profile) (l : List Addr) (q : List QueueEntry) :
      l.foldl (fun q a => enqueueOf q a (requested (fun p => if p.kind = k then some false else none) p a)) q =
        (l.filter fun a => (p.get a).isPresent && (p.get a).kind == k).foldl (init := q) fun q a =>
          if q.any fun e => e.panel == a then q else q ++ [⟨a, false⟩] := by
    rw [List.foldl_filter]
    refine congrArg (fun f => List.foldl f q l) (funext fun q => funext fun a => ?_)
    by_cases hp : (p.get a).isPresent = true <;> by_cases hk : (p.get a).kind = k <;>
      simp [requested, enqueueOf, hp, hk, enqueue_ordinary]
  rw [requestKind, requestEach_state, requestEach_queue]
  exact congrArg (fun q => { s with bdc.queue := q }) (hstep s.bdc.profiles allPanels s.bdc.queue)

theorem endTransaction_eq (s : State) : endTransaction s = { s with plc := freedLine s.plc } := by
  obtain ⟨clock, tts, tfe, slc, sjn, bdc, ⟨panels, line, cold, mode, rail, idle, level⟩, enm, awu, hlk, strap, power, free,
    pending⟩ := s
  cases mode with
  | always => rfl
  | gated => cases rail <;> rfl
  | off => rfl

/-! ### PANEL-PROFILE (R111, R112) -/

theorem optCoded_named {α : Type} (x : α) (o : Option α) : optCoded x (o.map .named) = o.getD x := by cases o <;> rfl

theorem optNames_named {α : Type} (o : Option α) : optNames (o.map .named) = true := by cases o <;> rfl

section
variable {n : Nat} {pr : Option Bool} {k : Option PanelKind} {rows : Option Nat} {fl : Option DirFilter} {th : Option Nat}
  {a : Addr} {w : State}

theorem profileInRange_named : profileInRange (pr.map .named) (k.map .named) (fl.map .named) th = true ↔
    ∀ m, th = some m → m ≤ 10 := by
  simp [profileInRange, optNames_named, optWithin, Option.all_eq_true, within]

theorem panelProfileRule_refuses (h : panelOf n = none ∨ ∃ m, th = some m ∧ 10 < m) :
    panelProfileRule n (pr.map .named) (k.map .named) rows (fl.map .named) th w = (w, refuse .range .field) := by
  unfold panelProfileRule
  cases ha : panelOf n with
  | none => rfl
  | some a =>
    obtain ⟨m, hm, hlarge⟩ := h.resolve_left (by simp [ha])
    have hbad : ¬profileInRange (pr.map .named) (k.map .named) (fl.map .named) th = true := fun hr =>
      absurd (profileInRange_named.mp hr m hm) (by omega)
    exact if_pos (by simpa using hbad)

theorem panelProfileRule_stores (ha : panelOf n = some a) (hth : ∀ m, th = some m → m ≤ 10) :
    panelProfileRule n (pr.map .named) (k.map .named) rows (fl.map .named) th w =
      let old := w.bdc.profiles.get a
      let p : Profile := ⟨pr.getD old.isPresent, k.getD old.kind, (rows.map (clamp 1 8)).getD old.rows, fl.getD old.filter,
        th.getD old.threshold⟩
      (changeProfile a p w, done (.profile p (rows.any fun r => clamp 1 8 r != r))) := by
  have hclamped : (rows.any fun r => decide (clamp 1 8 r ≠ r)) = rows.any fun r => clamp 1 8 r != r := by
    cases rows with
    | none => rfl
    | some r => exact Bool.eq_iff_iff.mpr (by simp)
  unfold panelProfileRule
  rw [ha]
  dsimp only
  rw [if_neg (by rw [profileInRange_named.mpr hth]; simp), hclamped]
  simp only [storedProfile, optCoded_named]

end

section
variable {a : Addr} {p : Profile} {w : State}

theorem changeProfile_keeps (h : (w.bdc.profiles.get a).isPresent = p.isPresent)
    (hsame : p = w.bdc.profiles.get a ∨ p.isPresent = false) :
    changeProfile a p w = { w with bdc.profiles := w.bdc.profiles.set a p } := by
  unfold changeProfile
  dsimp only
  rw [h]
  cases hp : p.isPresent with
  | false => rfl
  | true =>
    exact if_pos (hsame.resolve_right (by simp [hp]))

/-- A request for the panel whose profile has just been stored. -/
theorem requestRefresh_stored {u : State} (hp : p.isPresent = true) (hu : u.bdc.profiles = w.bdc.profiles.set a p) :
    requestRefresh false u a = { u with
      bdc.queue := if u.bdc.queue.any fun e => e.panel == a then u.bdc.queue else u.bdc.queue ++ [⟨a, false⟩] } := by
  have hpresent : (u.bdc.profiles.get a).isPresent = true := by rw [hu, Four.get_set, if_pos rfl, hp]
  rw [requestRefresh_present _ hpresent, enqueue_ordinary]

theorem changeProfile_changed (h : (w.bdc.profiles.get a).isPresent = true) (hp : p.isPresent = true)
    (hne : p ≠ w.bdc.profiles.get a) : changeProfile a p w = { w with
      bdc.profiles := w.bdc.profiles.set a p
      bdc.queue := if w.bdc.queue.any fun e => e.panel == a then w.bdc.queue else w.bdc.queue ++ [⟨a, false⟩] } := by
  unfold changeProfile
  dsimp only
  rw [h, hp]
  dsimp only
  rw [if_neg hne, requestRefresh_stored hp rfl]

theorem changeProfile_appears (h : (w.bdc.profiles.get a).isPresent = false) (hp : p.isPresent = true) :
    changeProfile a p w = { w with
      bdc.profiles := w.bdc.profiles.set a p
      bdc.queue := if w.bdc.queue.any fun e => e.panel == a then w.bdc.queue else w.bdc.queue ++ [⟨a, false⟩]
      plc.panels := w.plc.panels.set a ⟨.unknown, none, none, none, none, 0, 0, true, none⟩ } := by
  unfold changeProfile
  dsimp only
  rw [h, hp]
  exact requestRefresh_stored hp rfl

/-- A panel that becomes ABSENT: its entry, page and record are gone, and its transaction is to be discarded (R112, R137). -/
def panelGone (a : Addr) (p : Profile) (w : State) : State := { w with
  bdc.profiles := w.bdc.profiles.set a p
  bdc.queue := w.bdc.queue.filter fun e => !(e.panel == a)
  bdc.composed := w.bdc.composed.set a none
  plc.panels := w.plc.panels.set a ⟨.absent, none, none, none, none, 0, 0, false, none⟩ }

theorem changeProfile_goes (h : (w.bdc.profiles.get a).isPresent = true) (hp : p.isPresent = false) :
    changeProfile a p w = discardTransaction a (panelGone a p w) := by
  unfold changeProfile
  dsimp only
  rw [h, hp]
  rfl

theorem discardTransaction_of_other (h : ∀ t, w.plc.line = some t → t.panel ≠ a) : discardTransaction a w = w := by
  unfold discardTransaction
  cases hl : w.plc.line with
  | none => rfl
  | some t => exact if_pos (h t hl)

theorem discardTransaction_of_own {t : Transaction} (hl : w.plc.line = some t) (ht : t.panel = a) :
    discardTransaction a w =
      if t.phase.awaits then { w with plc.line := some { t with discarded := true } }
      else { w with plc := freedLine w.plc } := by
  unfold discardTransaction
  rw [hl]
  dsimp only
  rw [if_neg (not_not.mpr ht), endTransaction_eq]
  rfl

end

/-- Settles O39: the rule's answer, and what the stored profile does by its presence before and after. -/
theorem panelProfileStored : Obligations.PanelProfileStored := by
  intro n pr k rows fl th s hl w c
  refine ⟨fun h => does_of_rule hl rfl rfl rfl (panelProfileRule_refuses h), fun a ha hth => ?_⟩
  intro old kept p stored queued gone answers
  have hprofiles : w.bdc.profiles = s.bdc.profiles := atOwner_bdc_profiles s
  have hrule {u : State} (hu : changeProfile a p w = u) : answers u := by
    refine does_of_rule hl rfl rfl rfl ((panelProfileRule_stores ha hth).trans ?_)
    dsimp only
    rw [hprofiles]
    exact congrArg (fun v => (v, _)) hu
  refine ⟨fun h hsame => hrule ?_, fun h hp hne => hrule ?_, fun h hp => hrule ?_, fun h hp => ?_⟩
  · rw [changeProfile_keeps (hprofiles ▸ h) (hprofiles ▸ hsame), hprofiles]
  · rw [changeProfile_changed (hprofiles ▸ h) hp (hprofiles ▸ hne), hprofiles]
  · rw [changeProfile_appears (hprofiles ▸ h) hp, hprofiles]
  · have hgone : panelGone a p w = gone := by rw [panelGone, hprofiles]
    have hgoes : changeProfile a p w = discardTransaction a gone := by
      rw [changeProfile_goes (hprofiles ▸ h) hp, hgone]
    refine ⟨fun hother => hrule (hgoes.trans (discardTransaction_of_other hother)), fun t hline ht => ?_⟩
    have hown : changeProfile a p w = _ := hgoes.trans (discardTransaction_of_own (w := gone) hline ht)
    refine ⟨fun hawaits => hrule ?_, fun hfree => hrule ?_⟩
    · rw [hown, if_pos hawaits]
    · rw [hown, if_neg (by simp [hfree])]

end Sys2Proof.Machine
end

section
/-! SUPPORT. BOARD-TEXT and BOARD-TEXT-DROP (R115, R116): what a request is read as, what the accepted ones place, remove and
queue; and HostMessagesPlaced. -/

namespace Sys2Proof.Machine

/-! ### What a placed entry queues (R121) -/

section
variable {id : Nat} {p : MsgPriority} {lines : List Text} {expiry : Option Nat} {w : State}

/-- A placed entry joins the kept ones with the next arrival number; the automatic list stays. -/
theorem addHost_lists (kept : List HostEntry) :
    (addHost id p lines expiry kept w).bdc.host = kept ++ [⟨id, p, lines, expiry, w.bdc.arrivals + 1⟩] ∧
      (addHost id p lines expiry kept w).bdc.arrivals = w.bdc.arrivals + 1 ∧
      (addHost id p lines expiry kept w).bdc.auto = w.bdc.auto := by
  rw [addHost, requestKind, requestEach_state]
  exact ⟨rfl, rfl, rfl⟩

/-- What a placed entry of a priority asks of the MESSAGES panels: each has an entry, an urgent one of an URGENT entry. -/
def MessagesAsked (p : MsgPriority) (w u : State) : Prop :=
  let shows := fun a => (w.bdc.profiles.get a).isPresent && (w.bdc.profiles.get a).kind == .messages
  (p = .normal → u.bdc.queue = ordinaryRequests .messages w) ∧
    (p = .urgent → ∀ a, (shows a = true → ∃ e ∈ u.bdc.queue, e.panel = a ∧ e.urgent = true) ∧
      (shows a = false → QueueOrdered w →
        u.bdc.queue.filter (fun e => e.panel == a) = w.bdc.queue.filter fun e => e.panel == a))

theorem messagesAsked_addHost (kept : List HostEntry) : MessagesAsked p w (addHost id p lines expiry kept w) := by
  refine ⟨fun hp => ?_, fun hp a => ⟨fun hshows => ?_, fun hshows hq => ?_⟩⟩
  · subst hp
    exact congrArg (·.bdc.queue) (requestKind_ordinary .messages _)
  · subst hp
    obtain ⟨hpresent, hkind⟩ : (w.bdc.profiles.get a).isPresent = true ∧ (w.bdc.profiles.get a).kind = .messages := by
      simpa using hshows
    obtain ⟨e, he, hea, hu⟩ := entry_requestEach (a := a) (urgent := true)
      (want := fun p => if p.kind = .messages then some true else none)
      (s := { w with
        bdc.host := kept ++ [⟨id, .urgent, lines, expiry, w.bdc.arrivals + 1⟩]
        bdc.arrivals := w.bdc.arrivals + 1 })
      hpresent (if_pos hkind)
    exact ⟨e, he, hea, hu rfl⟩
  · have hnone (q : Option Bool) :
        requested (fun p => if p.kind = .messages then q else none) w.bdc.profiles a = none := by
      unfold requested
      split
      next hpresent => exact if_neg fun hkind => by simp [hpresent, hkind] at hshows
      next => rfl
    rw [addHost, requestKind, requestEach_queue]
    exact entriesOf_foldl (hnone _) _ (length_entriesOf hq a)

/-! ### BOARD-TEXT (R115) -/

theorem messageInRange_iff : messageInRange id (.named p) lines expiry = true ↔
    1 ≤ id ∧ id ≤ 255 ∧ 1 ≤ lines.length ∧ lines.length ≤ 4 ∧
      (∀ l ∈ lines, l.length ≤ 24 ∧ ∀ c ∈ l, 0x20 ≤ c.toNat ∧ c.toNat ≤ 0x7E) ∧ ∀ m, expiry = some m → m ≤ 1439 := by
  simp [messageInRange, codedValue, displayText_iff, optWithin, Option.all_eq_true, and_assoc]

/-- A message is live until the minute of its expiry. -/
def Live (expiry : Option Nat) (s : State) : Prop := ∀ m now, expiry = some m → nowMinute s = some now → now < m

theorem messageExpired_iff : ((nowMinute w).any fun now => expiry.any fun e => decide (e ≤ now)) = true ↔ ¬Live expiry w := by
  unfold Live
  cases nowMinute w <;> cases expiry <;> simp

theorem boardTextRule_refuses (h : messageInRange id (.named p) lines expiry = false) :
    boardTextRule id (.named p) lines expiry w = (w, refuse .range .field) := by
  unfold boardTextRule
  dsimp only
  rw [h]
  rfl

theorem boardTextRule_expired (h : messageInRange id (.named p) lines expiry = true) (hl : ¬Live expiry w) :
    boardTextRule id (.named p) lines expiry w = (w, refuse .range .expired) := by
  unfold boardTextRule
  dsimp only
  rw [h, if_neg (by decide), if_pos (messageExpired_iff.mpr hl)]

theorem boardTextRule_places (h : messageInRange id (.named p) lines expiry = true) (hl : Live expiry w) :
    boardTextRule id (.named p) lines expiry w = placeHost id p lines expiry w := by
  unfold boardTextRule
  dsimp only
  rw [h, if_neg (by decide), if_neg fun he => messageExpired_iff.mp he hl]

/-- An entry of the same id is replaced. -/
theorem placeHost_replaces (h : ∃ x ∈ w.bdc.host, x.id = id) : placeHost id p lines expiry w =
    (addHost id p lines expiry (w.bdc.host.filter fun x => !(x.id == id)) w,
      done (.message true none ((w.bdc.host.filter fun x => !(x.id == id)).length + 1))) :=
  if_pos (by simpa using h)

/-- A list with room grows. -/
theorem placeHost_grows (h : ∀ x ∈ w.bdc.host, x.id ≠ id) (hroom : w.bdc.host.length < 8) :
    placeHost id p lines expiry w =
      (addHost id p lines expiry w.bdc.host w, done (.message false none (w.bdc.host.length + 1))) :=
  (if_neg (by simpa using h)).trans (if_pos hroom)

/-- A full list is judged by its NORMAL entry of the lowest arrival number. -/
theorem placeHost_full (h : ∀ x ∈ w.bdc.host, x.id ≠ id) (hfull : 8 ≤ w.bdc.host.length) :
    placeHost id p lines expiry w = match oldestNormal w.bdc.host with
      | none => (w, refuse .full .none)
      | some n => (addHost id p lines expiry (w.bdc.host.filter fun e => !(e.arrival == n)) w,
          done (.message false ((w.bdc.host.find? fun e => e.arrival == n).map (·.id))
            ((w.bdc.host.filter fun e => !(e.arrival == n)).length + 1))) :=
  (if_neg (by simpa using h)).trans (if_neg (Nat.not_lt.mpr hfull))

theorem oldestNormal_none {l : List HostEntry} (h : ∀ x ∈ l, x.priority = .urgent) : oldestNormal l = none := by
  have hnil : (l.filter fun e => e.priority == .normal) = [] := by
    refine List.filter_eq_nil_iff.mpr fun e he => ?_
    rw [h e he]
    decide
  rw [oldestNormal, hnil]
  rfl

theorem oldestNormal_least {l : List HostEntry} {d : HostEntry} (hd : d ∈ l) (hn : d.priority = .normal)
    (hleast : ∀ x ∈ l, x.priority = .normal → d.arrival ≤ x.arrival) : oldestNormal l = some d.arrival := by
  rw [oldestNormal, leastOf_eq_min?, List.min?_eq_some_iff]
  simp only [List.mem_map, List.mem_filter, beq_iff_eq]
  refine ⟨⟨d, ⟨hd, hn⟩, rfl⟩, ?_⟩
  rintro n ⟨x, ⟨hx, hxn⟩, rfl⟩
  exact hleast x hx hxn

/-- The one entry of an arrival number is the first found. -/
theorem find?_arrival {l : List HostEntry} {d : HostEntry} (hd : d ∈ l) (hone : ∀ x ∈ l, x ≠ d → x.arrival ≠ d.arrival) :
    l.find? (fun e => e.arrival == d.arrival) = some d := by
  cases hf : l.find? fun e => e.arrival == d.arrival with
  | none => exact absurd (List.find?_eq_none.mp hf d hd) (by simp)
  | some x =>
    have hx : x.arrival = d.arrival := by simpa using List.find?_some (p := fun e : HostEntry => e.arrival == d.arrival) hf
    by_contra hne
    exact hone x (List.mem_of_find?_eq_some hf) (fun h => hne (congrArg some h)) hx

/-! ### BOARD-TEXT-DROP (R116) -/

theorem boardTextDropRule_refuses (h : ¬(1 ≤ id ∧ id ≤ 255)) :
    boardTextDropRule (some id) w = (w, refuse .range .field) := by
  refine if_pos ?_
  rw [Option.any_some, Bool.not_eq_true', ← Bool.not_eq_true, within_iff]
  exact h

theorem boardTextDropRule_removes (h : 1 ≤ id ∧ id ≤ 255) : boardTextDropRule (some id) w =
    (removeHost (fun x => x.id == id) w, done (.removed (w.bdc.host.filter fun x => x.id == id).length)) := by
  refine if_neg ?_
  rw [Option.any_some, Bool.not_eq_true', ← Bool.not_eq_true, within_iff]
  exact not_not.mpr h

theorem boardTextDropRule_empties : boardTextDropRule none w =
    (removeHost (fun _ => true) w, done (.removed w.bdc.host.length)) := by
  have hall : w.bdc.host.filter (fun _ => true) = w.bdc.host := List.filter_true _
  conv_rhs => rw [← hall]
  rfl

/-- The entries that a test names leave; the rotation position stays while an entry of either list does (R118). -/
theorem removeHost_eq (leaves : HostEntry → Bool) (w : State) : removeHost leaves w = { w with
    bdc.host := w.bdc.host.filter fun e => !leaves e
    bdc.position :=
      if (w.bdc.host.filter fun e => !leaves e) = [] ∧ w.bdc.auto = [] then none else w.bdc.position
    bdc.queue := if w.bdc.host.any leaves then ordinaryRequests .messages w else w.bdc.queue } := by
  have hkept : keepMessages (fun e => !leaves e) (fun _ => true) w = { w with
      bdc.host := w.bdc.host.filter fun e => !leaves e
      bdc.position :=
        if (w.bdc.host.filter fun e => !leaves e) = [] ∧ w.bdc.auto = [] then none else w.bdc.position } := by
    unfold keepMessages clearPosition
    rw [List.filter_true]
    simp only [List.isEmpty_iff, Bool.and_eq_true]
    split <;> rfl
  unfold removeHost
  dsimp only
  rw [hkept, requestKind_ordinary]
  split <;> rfl

end

/-- Settles O40: each request by its checks; an accepted one by the entry placed or the entries that leave, and what that
asks of the MESSAGES panels. -/
theorem hostMessagesPlaced : Obligations.HostMessagesPlaced := by
  intro id p lines expiry s hl w c e live shows ordinary queued position
  have hhost : w.bdc.host = s.bdc.host := atOwner_bdc_host s
  have hauto : w.bdc.auto = s.bdc.auto := atOwner_bdc_auto s
  have harrivals : w.bdc.arrivals = s.bdc.arrivals := atOwner_bdc_arrivals s
  have hprofiles : w.bdc.profiles = s.bdc.profiles := atOwner_bdc_profiles s
  have hlive : live ↔ Live expiry w := by
    show Live expiry s ↔ Live expiry w
    rw [Live, Live, nowMinute_atOwner]
  have hordinary : ordinaryRequests .messages w = ordinary := by
    unfold ordinaryRequests
    rw [hprofiles]
  have hasked {u : State} (h : MessagesAsked p w u) : queued u := by
    unfold MessagesAsked at h
    rw [hordinary, hprofiles] at h
    exact h
  have hadded (kept : List HostEntry) : ∃ u, u = addHost id p lines expiry kept w ∧ u.bdc.host = kept ++ [e] ∧
      u.bdc.arrivals = s.bdc.arrivals + 1 ∧ u.bdc.auto = s.bdc.auto ∧ queued u := by
    obtain ⟨hlist, harr, hau⟩ := addHost_lists (id := id) (p := p) (lines := lines) (expiry := expiry) (w := w) kept
    exact ⟨_, rfl, by rw [hlist, harrivals], by rw [harr, harrivals], by rw [hau, hauto], hasked (messagesAsked_addHost kept)⟩
  have hremoved (leaves : HostEntry → Bool) : ∃ u, u = removeHost leaves w ∧
      u.bdc.host = s.bdc.host.filter (fun x => !leaves x) ∧ u.bdc.auto = s.bdc.auto ∧ position u ∧
      u.bdc.queue = if s.bdc.host.any leaves then ordinary else w.bdc.queue := by
    refine ⟨_, (removeHost_eq leaves w).symm, congrArg (List.filter _) hhost, hauto, rfl, ?_⟩
    rw [← hhost, ← hordinary]
  refine ⟨messageInRange_iff, fun h => does_of_rule hl rfl rfl rfl (boardTextRule_refuses h), fun h => ?text, fun h => ?_,
    fun h => ?_, ?_⟩
  case text =>
    refine ⟨fun hdead => ?_, fun hnow hsome => ?_, fun hnow hnew hroom => ?_, fun hnow hnew hfull hurgent => ?_,
      fun hnow d hd hnew hfull hnormal hone hleast => ?_⟩
    · exact does_of_rule hl rfl rfl rfl (boardTextRule_expired h fun hw => hdead (hlive.mpr hw))
    all_goals have hplaces := boardTextRule_places h (hlive.mp hnow)
    · obtain ⟨u, hu, hlist, hrest⟩ := hadded (s.bdc.host.filter fun x => !(x.id == id))
      refine ⟨u, does_of_rule hl rfl rfl rfl (hplaces.trans ?_), hlist, hrest⟩
      rw [placeHost_replaces (hhost ▸ hsome), hhost, ← hu, hlist, List.length_append]
      rfl
    · obtain ⟨u, hu, hlist, hrest⟩ := hadded s.bdc.host
      refine ⟨u, does_of_rule hl rfl rfl rfl (hplaces.trans ?_), hlist, hrest⟩
      rw [placeHost_grows (hhost ▸ hnew) (hhost ▸ hroom), hhost, ← hu]
    · refine does_of_rule hl rfl rfl rfl (hplaces.trans ?_)
      rw [placeHost_full (hhost ▸ hnew) (hhost ▸ hfull), hhost, oldestNormal_none hurgent]
    · obtain ⟨u, hu, hlist, hrest⟩ := hadded (s.bdc.host.filter fun x => !(x.arrival == d.arrival))
      refine ⟨u, does_of_rule hl rfl rfl rfl (hplaces.trans ?_), hlist, hrest⟩
      rw [placeHost_full (hhost ▸ hnew) (hhost ▸ hfull), hhost, oldestNormal_least hd hnormal hleast]
      dsimp only
      rw [find?_arrival hd hone, ← hu, hlist, List.length_append]
      rfl
  · exact does_of_rule hl rfl rfl rfl (boardTextDropRule_refuses h)
  · obtain ⟨u, hu, hrest⟩ := hremoved fun x => x.id == id
    refine ⟨u, does_of_rule hl rfl rfl rfl ?_, hrest⟩
    rw [boardTextDropRule_removes h, hhost, hu]
  · obtain ⟨u, hu, hlist, hau, hpos, hqueue⟩ := hremoved fun _ => true
    refine ⟨u, does_of_rule hl rfl rfl rfl ?_, by simpa using hlist, hau, hpos, ?_⟩
    · rw [boardTextDropRule_empties, hhost, hu]
    · rw [hqueue]
      cases s.bdc.host <;> rfl

end Sys2Proof.Machine
end

section
/-! SUPPORT. BOARD-REFRESH (R120, R121): the places of an entry asked for in an ordered queue; and RefreshRequestsQueue. -/

namespace Sys2Proof.Machine

/-! ### The places of entries (R120) -/

section
variable {a : Addr} {urgent : Bool} {q : List QueueEntry}

/-- An ordered queue is its urgent entries and its ordinary ones. -/
theorem UrgentFirst.groups (h : UrgentFirst q) : q.filter (·.urgent) ++ q.filter (!·.urgent) = q := by
  induction q with
  | nil => rfl
  | cons e q ih =>
    obtain ⟨hall, hrest⟩ := List.pairwise_cons.mp h
    cases hu : e.urgent with
    | true => simpa [hu] using ih hrest
    | false =>
      have hnone : ∀ x ∈ q, x.urgent = false := fun x hx => by
        have := hall x hx
        simpa [hu] using this
      have hurgent : q.filter (·.urgent) = [] := List.filter_eq_nil_iff.mpr fun x hx => by simp [hnone x hx]
      have hordinary : q.filter (!·.urgent) = q := List.filter_eq_self.mpr fun x hx => by simp [hnone x hx]
      simp [hu, hurgent, hordinary]

/-- No other panel's entry changes its flag or its place. -/
theorem placedEntry_others (h : UrgentFirst q) :
    (placedEntry a urgent q).filter (fun e => !(e.panel == a)) = q.filter fun e => !(e.panel == a) := by
  unfold placedEntry
  split
  · rfl
  · split
    · conv_rhs => rw [← h.groups, List.filter_append]
      simp only [List.filter_append, List.filter_cons, List.filter_filter, beq_self_eq_true, Bool.not_true,
        Bool.false_eq_true, if_false]
      congr 2
      funext e
      cases e.panel == a <;> simp
    · simp [List.filter_append]

/-- The panel has one entry, urgent where it was urgent or the request is. -/
theorem placedEntry_own (h : (entriesOf a q).length ≤ 1) :
    (placedEntry a urgent q).filter (fun e => e.panel == a) =
      [⟨a, urgent || q.any fun e => e.panel == a && e.urgent⟩] := by
  unfold placedEntry
  split
  next hany =>
    obtain ⟨e, he, hstands⟩ := List.any_eq_true.mp hany
    obtain ⟨hpanel, hflag⟩ : e.panel = a ∧ (e.urgent = true ∨ urgent = false) := by simpa using hstands
    have hmem : e ∈ entriesOf a q := List.mem_filter.mpr ⟨he, by simp [hpanel]⟩
    have hone : entriesOf a q = [e] := by
      obtain ⟨x, hx⟩ := List.length_eq_one_iff.mp (Nat.le_antisymm h (List.length_pos_of_mem hmem))
      rw [hx] at hmem ⊢
      rw [List.mem_singleton.mp hmem]
    have hurgent : (q.any fun e => e.panel == a && e.urgent) = e.urgent := by
      have hfiltered : (entriesOf a q).any (·.urgent) = e.urgent := by simp [hone]
      rwa [entriesOf, List.any_filter] at hfiltered
    rw [hurgent]
    refine hone.trans (congrArg (fun x => [x]) ?_)
    have hboth : (urgent || e.urgent) = e.urgent := by rcases hflag with hu | hu <;> simp [hu]
    rw [hboth, ← hpanel]
  next hany =>
    have hno : ∀ e ∈ q, e.panel = a → e.urgent = false ∧ urgent = true := by simpa using hany
    have hnone (f : QueueEntry → Bool) (hf : ∀ e ∈ q, f e = true → e.panel ≠ a) :
        (q.filter f).filter (fun e => e.panel == a) = [] := by
      refine List.filter_eq_nil_iff.mpr fun e he => ?_
      obtain ⟨hmem, hfe⟩ := List.mem_filter.mp he
      simpa using hf e hmem hfe
    split
    next hu =>
      have hfirst := hnone (·.urgent) fun e he hue hp => by simp [hno e he hp] at hue
      have hlast := hnone (fun e => !e.urgent && !(e.panel == a)) fun e _ hf => by simpa using (Bool.and_eq_true_iff.mp hf).2
      simp [List.filter_append, hfirst, hlast, hu]
    next hu =>
      have hq := hnone (fun _ => true) fun e he _ hp => hu (hno e he hp).2
      rw [List.filter_true] at hq
      have hold : (q.any fun e => e.panel == a && e.urgent) = false :=
        List.any_eq_false.mpr fun e he hx => by
          obtain ⟨hp, -⟩ := Bool.and_eq_true_iff.mp hx
          exact hu (hno e he (by simpa using hp)).2
      simp [List.filter_append, hq, hold, Bool.eq_false_of_not_eq_true hu]

/-- The requests for every PRESENT panel, one after another. -/
theorem foldl_enqueueOf_all {p : Four Profile} (l : List Addr) (h : PanelsDistinct q) :
    l.foldl (fun q a => enqueueOf q a (requested (fun _ => some urgent) p a)) q =
        (l.filter fun a => (p.get a).isPresent).foldl (fun q a => placedEntry a urgent q) q ∧
      PanelsDistinct (l.foldl (fun q a => enqueueOf q a (requested (fun _ => some urgent) p a)) q) := by
  induction l generalizing q with
  | nil => exact ⟨rfl, h⟩
  | cons a l ih =>
    by_cases hp : (p.get a).isPresent = true
    · obtain ⟨he, hd⟩ := enqueue_placedEntry (a := a) (urgent := urgent) h
      have hasked : requested (fun _ => some urgent) p a = some urgent := if_pos hp
      rw [List.filter_cons_of_pos (p := fun a => (p.get a).isPresent) hp, List.foldl_cons, List.foldl_cons, hasked,
        enqueueOf, Option.elim_some, ← he]
      exact ih hd
    · have hasked : requested (fun _ => some urgent) p a = none := if_neg hp
      rw [List.filter_cons_of_neg (p := fun a => (p.get a).isPresent) hp, List.foldl_cons, hasked, enqueueOf, Option.elim_none]
      exact ih h

end

/-! ### The request -/

section
variable {n : Nat} {urgent : Bool} {a : Addr} {w : State}

theorem boardRefreshRule_all : boardRefreshRule none (.named urgent) w =
    ({ w with bdc.queue := (requestAll urgent w).bdc.queue }, done (.queue (requestAll urgent w).bdc.queue)) :=
  congrArg (fun u : State => (u, done (.queue (requestAll urgent w).bdc.queue))) (requestEach_state _ w)

theorem boardRefreshRule_range (ha : panelOf n = none) :
    boardRefreshRule (some n) (.named urgent) w = (w, refuse .range .field) := by
  unfold boardRefreshRule
  dsimp only
  rw [ha]

theorem boardRefreshRule_absent (ha : panelOf n = some a) (hp : (w.bdc.profiles.get a).isPresent = false) :
    boardRefreshRule (some n) (.named urgent) w = (w, refuse .unknown .panel) := by
  unfold boardRefreshRule
  dsimp only
  rw [ha]
  exact if_neg (by simp [hp])

theorem boardRefreshRule_one (ha : panelOf n = some a) (hp : (w.bdc.profiles.get a).isPresent = true) :
    boardRefreshRule (some n) (.named urgent) w =
      ({ w with bdc.queue := enqueue a urgent w.bdc.queue }, done (.queue (enqueue a urgent w.bdc.queue))) := by
  unfold boardRefreshRule
  dsimp only
  rw [ha]
  dsimp only
  rw [if_pos hp, requestRefresh_present _ hp]

end

/-- Settles O41: the queue each request leaves, by the places that an ordered queue gives its entries. -/
theorem refreshRequestsQueue : Obligations.RefreshRequestsQueue := by
  intro n urgent s hl w c
  have hprofiles : w.bdc.profiles = s.bdc.profiles := atOwner_bdc_profiles s
  refine ⟨⟨_, does_of_rule hl rfl rfl rfl boardRefreshRule_all, fun a hp => ?_, fun hq => ?_⟩,
    fun ha => does_of_rule hl rfl rfl rfl (boardRefreshRule_range ha), fun a ha => ⟨fun hp => ?_, fun hp => ?_⟩⟩
  · exact entry_requestEach (hprofiles ▸ hp) rfl
  · obtain ⟨hfold, hdistinct⟩ := foldl_enqueueOf_all (urgent := urgent) (p := w.bdc.profiles) allPanels hq.1
    have hqueue : (requestAll urgent w).bdc.queue = _ := requestEach_queue _ _
    rw [hqueue]
    exact ⟨hdistinct, by rw [← hprofiles]; exact hfold⟩
  · exact does_of_rule hl rfl rfl rfl (boardRefreshRule_absent ha (hprofiles ▸ hp))
  · refine ⟨_, does_of_rule hl rfl rfl rfl (boardRefreshRule_one ha (hprofiles ▸ hp)), fun hq => ?_⟩
    rw [(enqueue_placedEntry hq.1).1]
    exact ⟨rfl, placedEntry_others hq.2, placedEntry_own (length_entriesOf hq a)⟩

end Sys2Proof.Machine
end

section
/-! SUPPORT. The boards' timers and the serving of entries (R118, R122 to R124, R133, R143); and BoardTimersAndServing. -/

namespace Sys2Proof.Machine

/-- An event row does what its rule says, with what the rule says written out. -/
theorem happens_of_rule {c : Instr} {s u : State} {f : State → State} (hp : s.power = .on) (hc : exec c s = event f s)
    (h : f s = u) : Happens c s u := h ▸ happens_of_event hp hc

/-! ### A transaction takes the line (R143) -/

section
variable {a : Addr} {w : Work} {first : LinePhase} {s : State}

/-- With the rail ON the first frame is sent. -/
theorem beginTransaction_sends (hr : s.plc.rail = .on) (hm : s.plc.mode ≠ .off) : beginTransaction a w first s =
    { s with plc.line := some ⟨a, w, first, false⟩, plc.idle := none } := by
  unfold beginTransaction
  dsimp only
  rw [if_pos ⟨hr, hm⟩]
  rfl

/-- With the rail OFF it is switched on. -/
theorem beginTransaction_switches (hr : s.plc.rail = .off) (hm : s.plc.mode ≠ .off) : beginTransaction a w first s =
    { s with plc.line := some ⟨a, w, .settle, false⟩, plc.rail := .settling 250, plc.idle := none } := by
  unfold beginTransaction
  dsimp only
  rw [if_neg fun h => by simp [hr] at h, if_pos ⟨hr, hm⟩]
  rfl

/-- With the rail settling, or the mode OFF, the transaction waits. -/
theorem beginTransaction_waits (h : (∃ n, s.plc.rail = .settling n) ∨ s.plc.mode = .off) :
    beginTransaction a w first s = { s with plc.line := some ⟨a, w, .settle, false⟩, plc.idle := none } := by
  have hon : ¬(s.plc.rail = .on ∧ s.plc.mode ≠ .off) := by rcases h with ⟨n, hn⟩ | hm <;> simp [*]
  have hoff : ¬(s.plc.rail = .off ∧ s.plc.mode ≠ .off) := by rcases h with ⟨n, hn⟩ | hm <;> simp [*]
  unfold beginTransaction
  dsimp only
  rw [if_neg hon, if_neg hoff]
  rfl

end

/-! ### The two timers (R118, R122) -/

theorem accrualExpiry_none {s : State} (h : s.bdc.accrual = none) : accrualExpiry s = s :=
  if_neg (by simp [h])

theorem rotationExpiry_none {s : State} (h : s.bdc.rotation = none) : rotationExpiry s = s :=
  if_neg (by simp [h])

theorem rotationExpiry_running {s : State} {left : Nat} (h : s.bdc.rotation = some left) : rotationExpiry s =
    { s with
      bdc.position := rotatedPosition s
      bdc.rotation := if rotates s then some ((presentEntry s).rotation * 1000) else none
      bdc.queue := ordinaryRequests .messages s } := by
  unfold rotationExpiry
  rw [if_pos (by simp [h]), requestKind_ordinary]
  rfl

section
variable {s : State} {before after : List Message} {m follow : Message}

theorem dropWhile_arrival {l : List Message} (hb : ∀ x ∈ before, x.arrival ≠ m.arrival) :
    (before ++ m :: l).dropWhile (fun x => !(x.arrival == m.arrival)) = m :: l := by
  rw [List.dropWhile_append_of_pos fun x hx => by simpa using hb x hx]
  exact List.dropWhile_cons_of_neg (by simp)

/-- The position moves to the next displayable message. -/
theorem rotatedPosition_next (h : displayable s = before ++ m :: follow :: after) (hp : s.bdc.position = some m.arrival)
    (hb : ∀ x ∈ before, x.arrival ≠ m.arrival) : rotatedPosition s = some follow.arrival := by
  rw [rotatedPosition, hp, h, Option.elim_some, messageAfter, dropWhile_arrival hb]
  rfl

/-- From the last one it moves to the first. -/
theorem rotatedPosition_last (h : displayable s = before ++ [m]) (hp : s.bdc.position = some m.arrival)
    (hb : ∀ x ∈ before, x.arrival ≠ m.arrival) : rotatedPosition s = (displayable s).head?.map Message.arrival := by
  rw [rotatedPosition, hp, Option.elim_some, messageAfter]
  have hdrop : (displayable s).dropWhile (fun x => !(x.arrival == m.arrival)) = [m] := by rw [h, dropWhile_arrival hb]
  rw [hdrop]

/-- A position that names no displayable message moves to the first. -/
theorem rotatedPosition_first (h : ∀ n, s.bdc.position = some n → ∀ x ∈ displayable s, x.arrival ≠ n) :
    rotatedPosition s = (displayable s).head?.map Message.arrival := by
  rw [rotatedPosition]
  cases hp : s.bdc.position with
  | none => rfl
  | some n =>
    have hnil : (displayable s).dropWhile (fun x => !(x.arrival == n)) = [] :=
      List.dropWhile_eq_nil_iff.mpr fun x hx => by simpa using h n hp x hx
    rw [Option.elim_some, messageAfter, hnil]

end

/-! ### Serving (R123, R124) -/

section
variable {s : State} {e : QueueEntry} {before after : List QueueEntry}

/-- A due probe goes first. -/
theorem probeReady_none (h : s.plc.mode = .off ∨ ∀ a, (panelAt s a).probeDue = false) : probeReady s = none := by
  unfold probeReady
  split
  next hc => exact List.find?_eq_none.mpr fun a _ => by simp [h.resolve_left hc.2 a]
  next => rfl

theorem firstServable_some (hq : s.bdc.queue = before ++ e :: after) (hb : ∀ x ∈ before, ¬Waits s x) (he : Waits s e)
    (hc : 1 ≤ s.bdc.credit) (hl : s.plc.line = none) : firstServable s = some e :=
  List.find?_eq_some_iff_append.mpr
    ⟨(servable_iff s e).mpr ⟨he, hc, hl⟩, before, after, hq, fun x hx => by
      have hx : ¬servable s x = true := fun hs => hb x hx ((servable_iff s x).mp hs).1
      simpa using hx⟩

theorem serveFirst_serves (hp : probeReady s = none) (he : firstServable s = some e) :
    serveFirst s = serve e.panel s := by
  unfold serveFirst
  rw [hp, he]

theorem serveFirst_none (h : s.plc.line.isSome ∨ s.bdc.credit = 0 ∨ (∀ e ∈ s.bdc.queue, ¬Waits s e) ∨
    (s.plc.mode ≠ .off ∧ ∃ a, (panelAt s a).probeDue = true)) : serveFirst s = s := by
  have hstays : (∃ a, probeReady s = some a) ∨ firstServable s = none := by
    by_cases hentry : s.plc.line.isSome ∨ s.bdc.credit = 0 ∨ ∀ e ∈ s.bdc.queue, ¬Waits s e
    · refine .inr (List.find?_eq_none.mpr fun e he hs => ?_)
      obtain ⟨hw, hc, hl⟩ := (servable_iff s e).mp hs
      rcases hentry with hp | hp | hp
      · simp [hl] at hp
      · omega
      · exact hp e he hw
    · have hline : s.plc.line.isNone = true := by
        cases hl : s.plc.line with
        | none => rfl
        | some t => exact absurd (.inl (by rw [hl]; rfl)) hentry
      obtain ⟨hmode, a, ha⟩ : s.plc.mode ≠ .off ∧ ∃ a, (panelAt s a).probeDue = true := by
        rcases h with h | h | h | h
        · exact absurd (.inl h) hentry
        · exact absurd (.inr (.inl h)) hentry
        · exact absurd (.inr (.inr h)) hentry
        · exact h
      refine .inl (Option.isSome_iff_exists.mp ?_)
      rw [probeReady, if_pos ⟨hline, hmode⟩, List.find?_isSome]
      exact ⟨a, by cases a <;> decide, ha⟩
  unfold serveFirst
  rcases hstays with ⟨a, ha⟩ | hnone
  · rw [ha]
  · rw [hnone]
    split
    next hn => cases hn
    next => rfl

theorem react_serve (ht : Told s) (hp : probeReady s = none) (he : firstServable s = some e) :
    react s = some (serve e.panel s) := by
  unfold react
  rw [if_neg (not_not.mpr ht.urgent_eq), if_neg (not_not.mpr ht.cold), hp, he]

/-- The served entry leaves the queue and its page is composed; a MESSAGES panel's page sets the rotation position (R118). -/
def entryTaken (a : Addr) (s : State) : State := { s with
  bdc.queue := s.bdc.queue.filter fun x => !(x.panel == a)
  bdc.composed := s.bdc.composed.set a (some (composePage (s.bdc.profiles.get a) s))
  bdc.position := if (s.bdc.profiles.get a).kind = .messages then (shownMessage s).map Message.arrival else s.bdc.position }

theorem serve_eq (a : Addr) (s : State) : serve a s =
    if (panelAt s a).page = some (composePage (s.bdc.profiles.get a) s) then entryTaken a s
    else startRefresh a (composePage (s.bdc.profiles.get a) s) (entryTaken a s) := by
  have htaken : { (if (s.bdc.profiles.get a).kind = .messages then settlePosition s else s) with
      bdc.queue := (if (s.bdc.profiles.get a).kind = .messages then settlePosition s else s).bdc.queue.filter
        fun e => !(e.panel == a)
      bdc.composed := (if (s.bdc.profiles.get a).kind = .messages then settlePosition s else s).bdc.composed.set a
        (some (composePage (s.bdc.profiles.get a) s)) } = entryTaken a s := by
    unfold entryTaken
    split <;> rfl
  unfold serve
  dsimp only
  rw [htaken]
  rfl

/-- A panel below −15 °C becomes COLD and its refresh is dropped (R133, R141). -/
theorem startRefresh_cold {a : Addr} {p : Page} {t : Int} (ht : (panelAt s a).temperature = some t) (hcold : t < -15) :
    startRefresh a p s = { s with
      plc.panels := s.plc.panels.set a { panelAt s a with link := .cold, probeTimer := some 600000 }
      hlk.notices := raisedAt 9 s.hlk.notices } := by
  unfold startRefresh
  dsimp only
  rw [if_pos (by simp [ht, hcold])]
  rfl

theorem startRefresh_begins {a : Addr} {p : Page} (h : ∀ t, (panelAt s a).temperature = some t → -15 ≤ t) :
    startRefresh a p s = beginTransaction a (.refresh ⟨p, (panelAt s a).next, false, 0, 0⟩) .load
      { s with plc.panels := s.plc.panels.set a { panelAt s a with attempts := 0 } } := by
  have hwarm : ¬((panelAt s a).temperature.any fun t => decide (t < -15)) = true := by
    cases ht : (panelAt s a).temperature with
    | none => simp
    | some t => simpa using h t ht
  unfold startRefresh
  dsimp only
  rw [if_neg hwarm]
  rfl

end

/-! ### The rotation timer of itself (R118) -/

/-- The reactions do not ask about the rotation timer. -/
theorem react_of_quiet_rotation {s : State} {old : Option Nat} (h : Quiet { s with bdc.rotation := old }) :
    react s = none := by
  obtain ⟨hurgent, hcold, hprobe, hentry, hbrief, hdrain, -⟩ := h
  have hu : urgentWaiting s = s.awu.urgent := hurgent
  have hc : coldNow s = s.plc.cold := hcold
  have hp : probeReady s = none := hprobe
  have he : firstServable s = none := hentry
  have hb : briefReturns s = false := hbrief
  have hd : drainReady s = none := hdrain
  simp [react, hu, hc, hp, he, hb, hd]

theorem bringsAbout_restartRotation {s : State} {old : Option Nat} (h : Quiet { s with bdc.rotation := old })
    (hchanged : rotates s ≠ s.bdc.rotation.isSome) : BringsAbout s (restartRotation s) := by
  have hnone := react_of_quiet_rotation h
  obtain ⟨hurgent, hcold, hprobe, hentry, hbrief, hdrain, -⟩ := h
  have hrotation : rotates s = (if rotates s then some ((presentEntry s).rotation * 1000) else none).isSome := by
    split <;> simp_all
  have hquiet : Quiet (restartRotation s) := ⟨hurgent, hcold, hprobe, hentry, hbrief, hdrain, hrotation⟩
  refine bringsAbout_of_settle ?_
  rw [settle_of_none hnone, settle_of_quiet hquiet]
  exact if_neg hchanged

theorem rotates_iff_exists (s : State) : rotates s = true ↔ 0 < (presentEntry s).rotation ∧
    2 ≤ s.bdc.host.length + s.bdc.auto.length ∧
      ∃ a, (s.bdc.profiles.get a).isPresent = true ∧ (s.bdc.profiles.get a).kind = .messages := by
  have hany (f : Addr → Bool) : [Addr.p1, .p2, .p3, .p4].any f = true ↔ ∃ a, f a = true :=
    List.any_eq_true.trans ⟨fun ⟨a, _, ha⟩ => ⟨a, ha⟩, fun ⟨a, ha⟩ => ⟨a, by cases a <;> decide, ha⟩⟩
  rw [rotates_iff, hany]
  simp only [Bool.and_eq_true, beq_iff_eq]
  rfl

/-- Settles O43: each timer by its equation, serving by what the first servable entry leads to, and the rotation timer by its
condition. -/
theorem boardTimersAndServing : Obligations.BoardTimersAndServing := by
  refine ⟨fun s hp => ⟨fun left ha => ?accrual, fun ha => ?_, fun left hr => ⟨?rotation, fun _ _ _ _ => rotatedPosition_next,
    fun _ _ => rotatedPosition_last, rotatedPosition_first⟩, fun hr => ?_⟩, fun s hp => ?serving,
    fun s old hq => ⟨fun hruns hnone => ?_, fun hruns hsome => ?_⟩⟩
  case accrual =>
    have hexpiry : accrualExpiry s = _ := if_pos (by simp [ha])
    exact happens_of_rule hp rfl hexpiry
  case rotation =>
    have hexpiry := rotationExpiry_running hr
    simp only [rotates_iff] at hexpiry
    exact happens_of_rule hp rfl hexpiry
  case serving =>
    intro level ready
    refine ⟨?serves, fun h => happens_of_rule hp rfl (serveFirst_none h)⟩
    intro before e after hqueue hbefore hready hcredit hline hprobe profile page p v take begun comes
    have hno := probeReady_none hprobe
    have hfirst := firstServable_some hqueue hbefore hready hcredit hline
    have hcomes {u : State} (hu : serve e.panel s = u) : comes u :=
      ⟨happens_of_rule hp rfl ((serveFirst_serves hno hfirst).trans hu),
        fun ht => bringsAbout_of_react (hu ▸ react_serve ht hno hfirst)⟩
    have hstarts (hpage : p.page ≠ some page) : serve e.panel s = startRefresh e.panel page v :=
      (serve_eq e.panel s).trans (if_neg hpage)
    refine ⟨fun hpage => hcomes ((serve_eq e.panel s).trans (if_pos hpage)), fun t hpage ht hcold => hcomes ?_,
      fun hpage hwarm => ?_⟩
    · exact (hstarts hpage).trans (startRefresh_cold (s := v) ht hcold)
    · have hbegins : serve e.panel s = beginTransaction e.panel (.refresh ⟨page, p.next, false, 0, 0⟩) .load
          { v with plc.panels := s.plc.panels.set e.panel { p with attempts := 0 } } :=
        (hstarts hpage).trans (startRefresh_begins (s := v) hwarm)
      exact ⟨fun hon hmode => hcomes (hbegins.trans (beginTransaction_sends hon hmode)),
        fun hoff hmode => hcomes (hbegins.trans (beginTransaction_switches hoff hmode)),
        fun hwaits => hcomes (hbegins.trans (beginTransaction_waits hwaits))⟩
  · exact happens_of_rule hp rfl (accrualExpiry_none ha)
  · exact happens_of_rule hp rfl (rotationExpiry_none hr)
  · have hrotates : rotates s = true := (rotates_iff_exists s).mpr hruns
    have hcomes := bringsAbout_restartRotation hq (by rw [hrotates, hnone]; decide)
    rwa [restartRotation, if_pos hrotates] at hcomes
  · have hrotates : ¬rotates s = true := fun h => hruns ((rotates_iff_exists s).mp h)
    have hcomes := bringsAbout_restartRotation hq fun h => hrotates (h.trans hsome)
    rwa [restartRotation, if_neg hrotates] at hcomes

end Sys2Proof.Machine
end

section
/-! SUPPORT. Answers on the panel line (R131 to R142): a transaction ended at a panel's record, the STATE of a probe, and the
cold flag; and ProbesAndTheirStates. -/

namespace Sys2Proof.Machine

/-! ### A transaction ended with a record (R143) -/

theorem Four.set_set {α : Type} (f : Four α) (a : Addr) (v w : α) : (f.set a v).set a w = f.set a w := by cases a <;> rfl

/-- The end of a transaction does not touch the records. -/
theorem freedLine_panels (p : Plc) (x : Four PanelRecord) :
    (freedLine p).panels = p.panels ∧ { freedLine p with panels := x } = freedLine { p with panels := x } := by
  obtain ⟨panels, line, cold, mode, rail, idle, level⟩ := p
  cases mode <;> exact ⟨rfl, rfl⟩

/-- A panel's record stored and the transaction ended. -/
def endedWith (a : Addr) (p : PanelRecord) (s : State) : State :=
  { s with plc := freedLine { s.plc with panels := s.plc.panels.set a p } }

section
variable {a : Addr} {p q : PanelRecord} {s : State}

theorem endTransaction_setPanel : endTransaction (setPanel a p s) = endedWith a p s := endTransaction_eq _

theorem setPanel_setPanel : setPanel a p (setPanel a q s) = setPanel a p s :=
  congrArg (fun x => { s with plc.panels := x }) (Four.set_set _ a q p)

theorem panelAt_endedWith : panelAt (endedWith a p s) a = p := by
  have hpanels : (endedWith a p s).plc.panels = s.plc.panels.set a p := (freedLine_panels _ s.plc.panels).1
  rw [panelAt, hpanels, Four.get_set, if_pos rfl]

theorem setPanel_endedWith : setPanel a p (endedWith a q s) = endedWith a p s := by
  have hpanels : (endedWith a q s).plc.panels = s.plc.panels.set a q := (freedLine_panels _ s.plc.panels).1
  rw [setPanel, hpanels, Four.set_set, endedWith]
  exact congrArg (fun x => { s with plc := x }) (freedLine_panels _ _).2

theorem goCold_endedWith : goCold a (endedWith a p s) =
    { endedWith a { p with link := .cold, probeTimer := some 600000 } s with hlk.notices := raisedAt 9 s.hlk.notices } := by
  unfold goCold
  rw [panelAt_endedWith, setPanel_endedWith]
  rfl

theorem requestRefresh_endedWith : requestRefresh false (endedWith a p s) a =
    { endedWith a p s with bdc.queue := ordinaryEntry a s } := requestRefresh_ordinary _ _

end

/-- An allowed answer of the panel is recorded and applied (R131). -/
theorem panelReplied_allowed {s : State} {t : Transaction} {answer : PanelAnswer} (h : s.plc.line = some t)
    (hd : t.discarded = false) (hw : t.phase.awaits = true) (ha : t.phase.allows answer = true) :
    panelReplied t.panel true answer s =
      applyAnswer t answer (setPanel t.panel (noteAnswer answer (panelAt s t.panel)) s) := by
  unfold panelReplied
  rw [h]
  dsimp only
  rw [if_neg (by simp [hw]), if_pos ⟨rfl, rfl, ha⟩, takeAnswer, if_neg (by simp [hd])]

/-! ### The STATE of a probe (R139, R141) -/

section
variable {s : State} {a : Addr} {left : Nat} {tog busy : Bool} {temp : Int}

theorem recordedTemperature_of_within (hlow : -40 ≤ temp) (hhigh : temp ≤ 85) : recordedTemperature temp = temp := by
  unfold recordedTemperature clampInt
  rw [if_neg (by omega), if_neg (by omega)]

/-- The record of a panel whose probe has been answered by a STATE: the answer recorded, and the toggles taken from it. -/
def probeHeard (a : Addr) (tog : Bool) (temp : Int) (s : State) : PanelRecord :=
  { panelAt s a with shown := some tog, next := some !tog, temperature := some temp, silences := 0 }

theorem panelReplied_probe (h : s.plc.line = some ⟨a, .probe, .probing left, false⟩) (hlow : -40 ≤ temp) (hhigh : temp ≤ 85) :
    panelReplied a true (.state tog busy temp) s =
      takeProbeState a tog temp (setPanel a { panelAt s a with temperature := some temp, silences := 0 } s) := by
  have hanswer := panelReplied_allowed (answer := .state tog busy temp) h rfl rfl rfl
  rw [noteAnswer, recordedTemperature_of_within hlow hhigh] at hanswer
  rw [hanswer]
  unfold applyAnswer
  dsimp only
  rw [recordedTemperature_of_within hlow hhigh]

/-- A panel that answers with −15 °C or more is READY, with a refresh of it queued (R139). -/
theorem resynchronise_warm (hwarm : -15 ≤ temp) :
    resynchronise a tog temp (setPanel a { panelAt s a with temperature := some temp, silences := 0 } s) =
      { endedWith a { probeHeard a tog temp s with page := none, attempts := 0, probeTimer := none, link := .ready } s with
        bdc.queue := ordinaryEntry a s
        hlk.notices := if (panelAt s a).link = .offline then raisedAt 8 s.hlk.notices else s.hlk.notices } := by
  unfold resynchronise
  simp only [panelAt_setPanel, if_true, setPanel_setPanel, endTransaction_setPanel, if_pos hwarm,
    requestRefresh_endedWith]
  split
  · rfl
  · rfl

/-- A colder one is COLD (R139, R141). -/
theorem resynchronise_cold (hcold : temp < -15) :
    resynchronise a tog temp (setPanel a { panelAt s a with temperature := some temp, silences := 0 } s) =
      { endedWith a { probeHeard a tog temp s with
          page := none, attempts := 0, link := .cold, probeTimer := some 600000 } s with
        hlk.notices :=
          if (panelAt s a).link = .offline then raisedAt 8 (raisedAt 9 s.hlk.notices) else raisedAt 9 s.hlk.notices } := by
  have hnot : ¬(-15 ≤ temp) := by omega
  unfold resynchronise
  simp only [panelAt_setPanel, if_true, setPanel_setPanel, endTransaction_setPanel, if_neg hnot,
    goCold_endedWith]
  split
  · rfl
  · rfl

theorem takeColdState_warm (hwarm : -13 ≤ temp) :
    takeColdState a tog temp (setPanel a { panelAt s a with temperature := some temp, silences := 0 } s) =
      { endedWith a { probeHeard a tog temp s with link := .ready, probeTimer := none } s with
        bdc.queue := ordinaryEntry a s } := by
  unfold takeColdState
  simp only [panelAt_setPanel, if_true, setPanel_setPanel, endTransaction_setPanel, if_pos hwarm,
    requestRefresh_endedWith]
  rfl

theorem takeColdState_cold (hcold : temp < -13) :
    takeColdState a tog temp (setPanel a { panelAt s a with temperature := some temp, silences := 0 } s) =
      endedWith a { probeHeard a tog temp s with probeTimer := some 600000 } s := by
  unfold takeColdState
  simp only [panelAt_setPanel, if_true, setPanel_setPanel, endTransaction_setPanel,
    if_neg (show ¬(-13 ≤ temp) by omega)]
  rfl

theorem takeProbeState_resynchronises (h : (panelAt s a).link = .unknown ∨ (panelAt s a).link = .offline) :
    takeProbeState a tog temp s = resynchronise a tog temp s := by
  unfold takeProbeState
  rcases h with h | h <;> rw [h]

theorem takeProbeState_of_cold (h : (panelAt s a).link = .cold) :
    takeProbeState a tog temp s = takeColdState a tog temp s := by
  unfold takeProbeState
  rw [h]

end

/-! ### A due probe (R132) -/

section
variable {s : State} {a : Addr}

/-- The lowest due panel is probed. -/
theorem probeReady_lowest (hl : s.plc.line = none) (hm : s.plc.mode ≠ .off) (hd : (panelAt s a).probeDue = true)
    (hb : ∀ b ∈ [Addr.p1, .p2, .p3, .p4].takeWhile (fun x => decide (x ≠ a)), (panelAt s b).probeDue = false) :
    probeReady s = some a := by
  have hsplit : ∃ after, allPanels = [Addr.p1, .p2, .p3, .p4].takeWhile (fun x => decide (x ≠ a)) ++ a :: after := by
    cases a <;> exact ⟨_, rfl⟩
  obtain ⟨after, hafter⟩ := hsplit
  rw [probeReady, if_pos ⟨by simp [hl], hm⟩]
  exact List.find?_eq_some_iff_append.mpr ⟨hd, _, after, hafter, fun b hmem => by simp [hb b hmem]⟩

theorem probeReady_none_of (h : s.plc.line.isSome ∨ s.plc.mode = .off ∨ ∀ a, (panelAt s a).probeDue = false) :
    probeReady s = none := by
  rcases h with h | h | h
  · exact if_neg fun hc => by simp [Option.isNone_iff_eq_none.mp hc.1] at h
  · exact probeReady_none (.inl h)
  · exact probeReady_none (.inr h)

end

/-! ### The cold flag (R142) -/

/-- A temperature that the cold flag is judged by: the last one of a panel READY or REFRESHING. -/
def Drawn (s : State) (a : Addr) (t : Int) : Prop :=
  ((panelAt s a).link = .ready ∨ (panelAt s a).link = .refreshing) ∧ (panelAt s a).temperature = some t

/-- The least of a list of temperatures. -/
theorem foldl_least (l : List Int) : l.foldl (fun (acc : Option Int) t => some (acc.elim t fun u => min u t)) none = l.min? := by
  have hgo (l : List Int) (u : Int) :
      l.foldl (fun (acc : Option Int) t => some (acc.elim t fun u => min u t)) (some u) = some (l.foldl min u) := by
    induction l generalizing u with
    | nil => rfl
    | cons t l ih => exact ih (min u t)
  cases l with
  | nil => rfl
  | cons t l => exact hgo l t

theorem mem_drawn (s : State) (t : Int) : (t ∈ allPanels.filterMap fun a =>
    if (s.plc.panels.get a).link = .ready ∨ (s.plc.panels.get a).link = .refreshing then (s.plc.panels.get a).temperature
    else none) ↔ ∃ a, Drawn s a t := by
  rw [List.mem_filterMap]
  constructor
  · rintro ⟨a, -, ha⟩
    split at ha
    next hlink => exact ⟨a, hlink, ha⟩
    next => cases ha
  · rintro ⟨a, hlink, ht⟩
    exact ⟨a, by cases a <;> decide, (if_pos hlink).trans ht⟩

theorem coldestTemperature_eq (s : State) : coldestTemperature s = (allPanels.filterMap fun a =>
    if (s.plc.panels.get a).link = .ready ∨ (s.plc.panels.get a).link = .refreshing then (s.plc.panels.get a).temperature
    else none).min? := foldl_least _

theorem coldestTemperature_some {s : State} {t : Int} :
    coldestTemperature s = some t ↔ (∃ a, Drawn s a t) ∧ ∀ b x, Drawn s b x → t ≤ x := by
  rw [coldestTemperature_eq, List.min?_eq_some_iff]
  simp only [mem_drawn]
  exact and_congr_right fun _ => ⟨fun h b x hx => h x ⟨b, hx⟩, fun h x ⟨b, hx⟩ => h b x hx⟩

theorem coldestTemperature_none {s : State} : coldestTemperature s = none ↔ ∀ a t, ¬Drawn s a t := by
  rw [coldestTemperature_eq, List.min?_eq_none_iff, List.eq_nil_iff_forall_not_mem]
  simp only [mem_drawn, not_exists]
  exact ⟨fun h a t => h t a, fun h t a => h a t⟩

section
variable {s : State}

theorem coldNow_of_none (h : coldestTemperature s = none) : coldNow s = s.plc.cold := by rw [coldNow, h]

theorem coldNow_of_some {t : Int} (h : coldestTemperature s = some t) :
    coldNow s = if t < -5 then true else if -2 ≤ t then false else s.plc.cold := by rw [coldNow, h]

theorem coldNow_set {a : Addr} {t : Int} (h : Drawn s a t) (ht : t < -5) : coldNow s = true := by
  cases hc : coldestTemperature s with
  | none => exact absurd h (coldestTemperature_none.mp hc a t)
  | some u =>
    have hle := (coldestTemperature_some.mp hc).2 a t h
    rw [coldNow_of_some hc, if_pos (by omega)]

theorem coldNow_cleared {a : Addr} {t : Int} (h : Drawn s a t) (hall : ∀ b x, Drawn s b x → -2 ≤ x) : coldNow s = false := by
  cases hc : coldestTemperature s with
  | none => exact absurd h (coldestTemperature_none.mp hc a t)
  | some u =>
    obtain ⟨b, hb⟩ := (coldestTemperature_some.mp hc).1
    have hu := hall b u hb
    rw [coldNow_of_some hc, if_neg (by omega), if_pos hu]

theorem coldNow_kept (hall : ∀ a t, Drawn s a t → -5 ≤ t) (h : (∀ a t, ¬Drawn s a t) ∨ ∃ a t, Drawn s a t ∧ t < -2) :
    coldNow s = s.plc.cold := by
  cases hc : coldestTemperature s with
  | none => exact coldNow_of_none hc
  | some u =>
    obtain ⟨⟨b, hb⟩, hleast⟩ := coldestTemperature_some.mp hc
    have hu := hall b u hb
    rcases h with hnone | ⟨a, t, ha, ht⟩
    · exact absurd hb (hnone b u)
    · have hle := hleast a t ha
      rw [coldNow_of_some hc, if_neg (by omega), if_neg (by omega)]

theorem react_judgeCold (hu : urgentWaiting s = s.awu.urgent) (hc : coldNow s ≠ s.plc.cold) :
    react s = some (judgeCold s) := by
  unfold react
  rw [if_neg (not_not.mpr hu), if_pos hc]

end

/-- Settles O45: the probe by the lowest due panel, a STATE by the panel's link state and the temperature, and the cold flag
by the coldest temperature. -/
theorem probesAndTheirStates : Obligations.ProbesAndTheirStates := by
  refine ⟨fun s hp => ⟨?probe, fun h => ?_⟩, fun s a left tog busy temp hp hline hlow hhigh => ?state, fun s => ?cold⟩
  case probe =>
    intro a hl hm hd hb v comes
    have hready := probeReady_lowest hl hm hd hb
    have hfirst : probeFirst s = startProbe a s := by rw [probeFirst, hready, Option.elim_some]
    have hcomes {u : State} (hu : startProbe a s = u) : comes u :=
      ⟨happens_of_rule hp rfl (hfirst.trans hu),
        fun ht => bringsAbout_of_react (hu ▸ react_probe ht.urgent_eq ht.cold hready)⟩
    exact ⟨fun hon => hcomes (beginTransaction_sends hon hm), fun hoff => hcomes (beginTransaction_switches hoff hm),
      fun n hn => hcomes (beginTransaction_waits (.inl ⟨n, hn⟩))⟩
  case state =>
    intro c heard q ends back
    have htaken {u : State} (h : takeProbeState a tog temp
        (setPanel a { panelAt s a with temperature := some temp, silences := 0 } s) = u) : Happens c s u :=
      happens_of_rule hp rfl ((panelReplied_probe hline hlow hhigh).trans h)
    refine ⟨fun hlink => ?_, fun hlink => ?_⟩
    · have hsync := takeProbeState_resynchronises (a := a) (tog := tog) (temp := temp)
        (s := setPanel a { panelAt s a with temperature := some temp, silences := 0 } s) (by simpa using hlink)
      exact ⟨fun hwarm => htaken (hsync.trans (resynchronise_warm hwarm)),
        fun hcold => htaken (hsync.trans (resynchronise_cold hcold))⟩
    · have hstate := takeProbeState_of_cold (a := a) (tog := tog) (temp := temp)
        (s := setPanel a { panelAt s a with temperature := some temp, silences := 0 } s) (by simpa using hlink)
      exact ⟨fun hwarm => htaken (hstate.trans (takeColdState_warm hwarm)),
        fun hcold => htaken (hstate.trans (takeColdState_cold hcold))⟩
  case cold =>
    refine ⟨fun a t => coldNow_set, fun a t => coldNow_cleared, coldNow_kept, fun hu hc => ?_, fun h => ?_, fun h => ?_⟩
    · have hurgent : urgentWaiting s = s.awu.urgent := by
        rw [Bool.eq_iff_iff, hu]
        simp [urgentWaiting]
      exact bringsAbout_of_react (react_judgeCold hurgent hc)
    · exact if_pos h
    · exact if_neg h
  have hfirst : probeFirst s = s := by rw [probeFirst, probeReady_none_of h, Option.elim_none]
  exact happens_of_rule hp rfl hfirst

end Sys2Proof.Machine
end

section
/-! SUPPORT. The answers to a refresh (R133 to R136): a failed attempt, FAULT, the drawing and the STATE of a drawing panel; and
TakenLeadsToDrawingToTheToggle. -/

namespace Sys2Proof.Machine

section
variable {s : State} {t : Transaction} {p : PanelRecord}

/-- A failed attempt by the record it finds (R135). -/
theorem failAttempt_setPanel (silent : Bool) : failAttempt silent t (setPanel t.panel p s) = attemptFailed silent t p s := by
  have hcount : p.attempts + 1 < 3 ↔ p.attempts < 2 := by omega
  unfold failAttempt attemptFailed
  simp only [panelAt_setPanel, if_true, setPanel_setPanel, hcount, endTransaction_setPanel, requestRefresh_endedWith]
  split
  · rfl
  · split
    · unfold goOffline
      rw [panelAt_setPanel, if_pos rfl, setPanel_setPanel, endTransaction_eq]
      rfl
    · rfl

/-- The next PROBE, or after the last a failed attempt with the page unknown (R134). -/
theorem probeAgain_setPanel (silent : Bool) (r : Refresh) (left : Nat) :
    probeAgain silent t r left (setPanel t.panel p s) =
      if r.probes ≤ 4 * r.duration then
        { s with plc.panels := s.plc.panels.set t.panel p, plc.line := some { t with phase := .interval left } }
      else attemptFailed silent t { p with page := none } s := by
  have hleft : probeLeft r = true ↔ r.probes ≤ 4 * r.duration := by simp [probeLeft]
  unfold probeAgain stuck
  simp only [hleft, panelAt_setPanel, if_true, setPanel_setPanel, failAttempt_setPanel]
  rfl

theorem takeFault_setPanel : takeFault t (setPanel t.panel p s) =
    { endedWith t.panel { p with link := .faulted, page := none } s with hlk.notices := raisedAt 4 s.hlk.notices } := by
  unfold takeFault
  rw [panelAt_setPanel, if_pos rfl, setPanel_setPanel, endTransaction_setPanel]
  rfl

/-- SHOW taken: the panel is REFRESHING, a credit is taken once in the refresh, and the drawing wait starts (R122, R134). -/
theorem takeShow_setPanel (r : Refresh) : takeShow t r (setPanel t.panel p s) = { s with
    plc.panels := s.plc.panels.set t.panel { p with link := .refreshing }
    plc.line := some { t with
      work := .refresh { r with credited := true, duration := drawingDuration p.temperature }
      phase := .drawing (drawingDuration p.temperature * 1000) }
    bdc.credit := if r.credited then s.bdc.credit else s.bdc.credit - 1 } := by
  unfold takeShow
  simp only [panelAt_setPanel, if_true, setPanel_setPanel]
  split
  · rfl
  · rfl

theorem takeDrawingState_busy (r : Refresh) (left : Nat) (tog : Bool) :
    takeDrawingState t r left tog true s = probeAgain false t r left s := by
  unfold takeDrawingState
  exact if_pos rfl

/-- With the toggle sent the refresh completes. -/
theorem takeDrawingState_done {r : Refresh} {left : Nat} {tog : Bool} (h : r.toggle = some tog) :
    takeDrawingState t r left tog false (setPanel t.panel p s) =
      endedWith t.panel { p with link := .ready, shown := some tog, next := some !tog, page := some r.page } s := by
  unfold takeDrawingState
  simp only [panelAt_setPanel, if_true, setPanel_setPanel, endTransaction_setPanel, Bool.false_eq_true, if_false, if_pos h]

/-- With the other toggle the attempt fails. -/
theorem takeDrawingState_other {r : Refresh} {left : Nat} {tog : Bool} (h : r.toggle ≠ some tog) :
    takeDrawingState t r left tog false (setPanel t.panel p s) =
      attemptFailed false t { p with shown := some tog, next := some !tog, page := none } s := by
  unfold takeDrawingState
  simp only [panelAt_setPanel, if_true, setPanel_setPanel, Bool.false_eq_true, if_false, if_neg h, failAttempt_setPanel]

end

/-- Settles O47: each answer to LOAD, SHOW and the PROBE of a drawing panel by what it applies to the recorded panel. -/
theorem takenLeadsToDrawingToTheToggle : Obligations.TakenLeadsToDrawingToTheToggle := by
  refine ⟨fun s a r ph hp hph hline => ?frames, fun s a r left tog temp hp hline => ?drawing⟩
  case frames =>
    intro q
    have hanswer {answer : PanelAnswer} {u : State} (hallows : ph.allows answer = true)
        (hnote : noteAnswer answer (panelAt s a) = q)
        (h : applyAnswer ⟨a, .refresh r, ph, false⟩ answer (setPanel a q s) = u) :
        Happens (.panelReply a true answer) s u := by
      have hawaits : ph.awaits = true := by rcases hph with rfl | rfl <;> rfl
      refine happens_of_rule hp rfl ((panelReplied_allowed hline rfl hawaits hallows).trans ?_)
      rw [hnote, h]
    refine ⟨fun hload => ?_, fun hshow => ?_, ?_, ?_⟩
    · subst hload
      exact hanswer rfl rfl rfl
    · subst hshow
      exact hanswer rfl rfl (takeShow_setPanel (t := ⟨a, .refresh r, .show, false⟩) r)
    · have hbusy : applyAnswer ⟨a, .refresh r, ph, false⟩ .busy (setPanel a q s) =
          failAttempt false ⟨a, .refresh r, ph, false⟩ (setPanel a q s) := by rcases hph with rfl | rfl <;> rfl
      exact hanswer (by rcases hph with rfl | rfl <;> rfl) rfl (hbusy.trans (failAttempt_setPanel false))
    · have hfault : applyAnswer ⟨a, .refresh r, ph, false⟩ .fault (setPanel a q s) =
          takeFault ⟨a, .refresh r, ph, false⟩ (setPanel a q s) := by rcases hph with rfl | rfl <;> rfl
      exact hanswer (by rcases hph with rfl | rfl <;> rfl) rfl (hfault.trans takeFault_setPanel)
  case drawing =>
    intro t q told
    have hstate {busy : Bool} {u : State} (h : takeDrawingState t r left tog busy (setPanel a q s) = u) :
        Happens (.panelReply a true (.state tog busy temp)) s u :=
      happens_of_rule hp rfl ((panelReplied_allowed hline rfl rfl rfl).trans h)
    have hbusy := (takeDrawingState_busy (t := t) r left tog).trans (probeAgain_setPanel (p := q) (s := s) false r left)
    exact ⟨fun h => hstate (takeDrawingState_done (t := t) h), fun h => hstate (takeDrawingState_other (t := t) h),
      fun h => hstate (hbusy.trans (if_pos h)), fun h => hstate (hbusy.trans (if_neg (Nat.not_le.mpr h)))⟩

end Sys2Proof.Machine
end

section
/-! SUPPORT. The settings of the energy levels (R146 to R149, R152): what each request is read as, what the ceiling follows, and
what an entry of the level table moves; and EnergyAndLevelSettingsStored. -/

namespace Sys2Proof.Machine

/-! ### The enabled levels and the ceiling (R148, R149) -/

section
variable {s : State} {l : Level}

theorem enabledSet_get (s : State) (x : Level) : (enabledSet s).get x = levelEnabled s x := by cases x <;> rfl

theorem levelEnabled_highestEnabled (s : State) (l : Level) : levelEnabled s (highestEnabled s l) = true := by
  unfold highestEnabled
  cases h : (levelsFrom l).find? (levelEnabled s) with
  | none => exact (levelEnabled_iff s .el5).mpr (.inr (.inl rfl))
  | some m => exact List.find?_some h

theorem levelRank_highestEnabled_le {x : Level} (hx : levelEnabled s x = true) (hl : levelRank l ≤ levelRank x) :
    levelRank (highestEnabled s l) ≤ levelRank x := by
  have hmem := mem_levelsFrom hl
  unfold highestEnabled
  cases h : (levelsFrom l).find? (levelEnabled s) with
  | none => exact absurd hx (List.find?_eq_none.mp h x hmem)
  | some m =>
    obtain ⟨-, before, after, hsplit, hbefore⟩ := List.find?_eq_some_iff_append.mp h
    have hsorted := pairwise_levelsFrom l
    rw [hsplit] at hmem hsorted
    rcases List.mem_append.mp hmem with hb | ha
    · exact absurd hx (by simpa using hbefore x hb)
    · rcases List.mem_cons.mp ha with rfl | ha
      · exact Nat.le_refl _
      · exact List.rel_of_pairwise_cons (List.pairwise_append.mp hsorted).2.1 ha

/-- The highest enabled level speaks of the level table and the capacity alone. -/
theorem highestEnabled_congr {t : State} (ht : t.enm.table = s.enm.table) (hc : t.enm.capacity = s.enm.capacity) :
    highestEnabled t l = highestEnabled s l := by
  unfold highestEnabled levelEnabled levelEntry
  rw [ht, hc]

theorem restartDemandTimer_eq (s : State) : restartDemandTimer s =
    { s with awu.timer := if s.awu.timer = .held then .held else demandTimerOf (s.enm.table.get s.awu.demand) } := by
  unfold restartDemandTimer
  split
  next hheld => rw [← hheld]
  next => rw [freshDemandTimer_eq]

/-- The effective ceiling moves to the highest enabled level, and with it the demand level and its timer (R149, R166). -/
theorem followCeiling_eq {top : Level} (h : ceilingNow s = top) : followCeiling s =
    if top = s.enm.effective then s
    else { s with
      enm.effective := top
      awu.demand := top
      awu.timer := if s.awu.timer = .held then .held else demandTimerOf (s.enm.table.get top) } := by
  unfold followCeiling
  dsimp only
  rw [h]
  split
  · rfl
  · exact restartDemandTimer_eq _

theorem followCeiling_bdc (s : State) : (followCeiling s).bdc = s.bdc := by
  rw [followCeiling_eq rfl]
  split <;> rfl

theorem followCeiling_enm (s : State) : (followCeiling s).enm = { s.enm with effective := ceilingNow s } := by
  rw [followCeiling_eq rfl]
  split
  next h => rw [h]
  next => rfl

/-- A ceiling computed again leaves the effective one at the highest enabled level, and what asks for it as it was. -/
theorem recomputeCeiling_effective (s : State) : (recomputeCeiling s).enm.effective = ceilingNow s ∧
    (recomputeCeiling s).enm.ceiling = s.enm.ceiling ∧ (recomputeCeiling s).enm.capacity = s.enm.capacity ∧
    (recomputeCeiling s).enm.table = s.enm.table ∧ (recomputeCeiling s).enm.present = s.enm.present := by
  have haims := (aims_retarget (followCeiling s)).enm
  rw [followCeiling_enm] at haims
  rw [recomputeCeiling, haims]
  exact ⟨rfl, rfl, rfl, rfl, rfl⟩

/-- The draw allowance moves with the start of a raise alone (R157). -/
theorem retarget_draw (h : (retarget s).enm.transition = s.enm.transition) : (retarget s).enm.draw = s.enm.draw := by
  revert h
  refine retarget_induction (P := fun t => t.enm.transition = s.enm.transition → t.enm.draw = s.enm.draw) (fun _ _ => rfl)
    (fun ht _ h => ?_) fun _ _ _ => ?_
  · rw [startRaise_enm, ht] at h
    cases h
  · rw [startLowering_enm]

/-! ### LEVEL-CEILING and SUPPLY-CAPACITY -/

theorem levelOf_of_large {n : Nat} (h : 5 < n) : levelOf n = none := by
  match n, h with
  | n + 6, _ => rfl

theorem levelCeilingRule_range {n : Nat} (h : 5 < n) (w : State) :
    levelCeilingRule (some n) w = (w, refuse .range .field) := by
  unfold levelCeilingRule
  dsimp only
  rw [levelOf_of_large h]

theorem levelCeilingRule_stores {n : Nat} (h : levelOf n = some l) (w : State) :
    levelCeilingRule (some n) w =
      (recomputeCeiling { w with enm.ceiling := l }, done (.ceiling l (highestEnabled w l))) := by
  obtain ⟨heffective, hceiling, -⟩ := recomputeCeiling_effective { w with enm.ceiling := l }
  unfold levelCeilingRule
  dsimp only
  rw [h]
  dsimp only
  rw [heffective, hceiling]
  rfl

theorem supplyCapacityRule_range {n : Nat} (h : n < 50 ∨ 5000 < n) (w : State) :
    supplyCapacityRule (some n) w = (w, refuse .range .field) := by
  have hout : ¬within 50 5000 n = true := by rw [within_iff]; omega
  exact if_pos (by rw [Bool.eq_false_of_not_eq_true hout]; rfl)

theorem supplyCapacityRule_stores {n : Nat} (hlow : 50 ≤ n) (hhigh : n ≤ 5000) (w : State) :
    supplyCapacityRule (some n) w =
      (recomputeCeiling { w with enm.capacity := n }, done (.capacity n (enabledSet { w with enm.capacity := n }))) := by
  obtain ⟨-, -, hcapacity, htable, -⟩ := recomputeCeiling_effective { w with enm.capacity := n }
  have hset : enabledSet (recomputeCeiling { w with enm.capacity := n }) = enabledSet { w with enm.capacity := n } := by
    unfold enabledSet levelEnabled levelEntry
    rw [hcapacity, htable]
  have hin : ¬(!within 50 5000 n) = true := by simp [within_iff, hlow, hhigh]
  refine (if_neg hin).trans ?_
  dsimp only
  rw [hset, hcapacity]

end

/-! ### ENERGY-SETTINGS (R147, R152) -/

section
variable {q : Option (Nat × Nat)} {r d : Option Nat} {w : State}

theorem energyInRange_iff : energyInRange (q.map (·.1)) (q.map (·.2)) r d = true ↔
    (∀ x, q = some x → x.1 ≤ 1439 ∧ x.2 ≤ 1439) ∧ (∀ n, r = some n → 50 ≤ n ∧ n ≤ 2000) ∧
      ∀ n, d = some n → 50 ≤ n ∧ n ≤ 2000 := by
  have hwindow : (optWithin 0 1439 (q.map (·.1)) = true ∧ optWithin 0 1439 (q.map (·.2)) = true) ↔
      ∀ x, q = some x → x.1 ≤ 1439 ∧ x.2 ≤ 1439 := by
    cases q <;> simp [optWithin]
  have hboth : ((q.map (·.1)).isSome == (q.map (·.2)).isSome) = true := by cases q <;> rfl
  have hsettle (o : Option Nat) : optWithin 50 2000 o = true ↔ ∀ n, o = some n → 50 ≤ n ∧ n ≤ 2000 := by
    cases o <;> simp [optWithin]
  rw [energyInRange, Bool.and_eq_true, Bool.and_eq_true, Bool.and_eq_true, Bool.and_eq_true, hwindow, hsettle, hsettle,
    and_assoc, and_assoc]
  exact ⟨fun ⟨h1, h2, h3, _⟩ => ⟨h1, h2, h3⟩, fun ⟨h1, h2, h3⟩ => ⟨h1, h2, h3, hboth⟩⟩

/-- The settings of an accepted request, absent ones kept. -/
def energyStored (q : Option (Nat × Nat)) (r d : Option Nat) (w : State) : State := { w with
  enm.quietStart := (q.map (·.1)).getD w.enm.quietStart
  enm.quietEnd := (q.map (·.2)).getD w.enm.quietEnd
  enm.raiseSettle := r.getD w.enm.raiseSettle
  enm.dormantSettle := d.getD w.enm.dormantSettle }

theorem energySettingsRule_refuses {a b : Option Nat} (h : energyInRange a b r d = false) :
    energySettingsRule a b r d w = (w, refuse .range .field) := if_pos (by simp [h])

theorem setQuiet_eq (l : Option Level) (s : State) : setQuiet l s =
    if l = s.enm.quietLimit then s
    else retarget { s with enm.quietLimit := l, hlk.notices := raisedAt 11 s.hlk.notices } := rfl

/-- A QUIET limit evaluated leaves the settings. -/
theorem setQuiet_settings (l : Option Level) (s : State) : (setQuiet l s).enm.quietStart = s.enm.quietStart ∧
    (setQuiet l s).enm.quietEnd = s.enm.quietEnd ∧ (setQuiet l s).enm.raiseSettle = s.enm.raiseSettle ∧
      (setQuiet l s).enm.dormantSettle = s.enm.dormantSettle := by
  rw [setQuiet_eq]
  split
  · exact ⟨rfl, rfl, rfl, rfl⟩
  · rw [(aims_retarget _).enm]
    exact ⟨rfl, rfl, rfl, rfl⟩

theorem energySettingsRule_stores (h : energyInRange (q.map (·.1)) (q.map (·.2)) r d = true) :
    energySettingsRule (q.map (·.1)) (q.map (·.2)) r d w =
      (if q.isSome then setQuiet (quietNow (energyStored q r d w)) (energyStored q r d w) else energyStored q r d w,
        done (.energySettings ((q.map (·.1)).getD w.enm.quietStart) ((q.map (·.2)).getD w.enm.quietEnd)
          (r.getD w.enm.raiseSettle) (d.getD w.enm.dormantSettle))) := by
  have hstored : energySettingsRule (q.map (·.1)) (q.map (·.2)) r d w =
      let u := if (q.map (·.1)).isSome then evaluateQuiet (energyStored q r d w) else energyStored q r d w
      (u, done (.energySettings u.enm.quietStart u.enm.quietEnd u.enm.raiseSettle u.enm.dormantSettle)) :=
    if_neg (by simp [h])
  rw [hstored]
  cases q with
  | none => rfl
  | some x =>
    obtain ⟨hstart, hend, hraise, hdormant⟩ :=
      setQuiet_settings (quietNow (energyStored (some x) r d w)) (energyStored (some x) r d w)
    show (evaluateQuiet _, done (.energySettings (evaluateQuiet _).enm.quietStart (evaluateQuiet _).enm.quietEnd
      (evaluateQuiet _).enm.raiseSettle (evaluateQuiet _).enm.dormantSettle)) = _
    rw [evaluateQuiet, hstart, hend, hraise, hdormant]
    rfl

/-- The QUIET limit stands inside the window alone, and under a clock that is set alone (R152). -/
theorem quietNow_of_inside {s : State} {limit : Option Level} {inside : Prop}
    (h : inside ↔ ∃ c, s.clock = some c ∧
      ((s.enm.quietStart < s.enm.quietEnd ∧ s.enm.quietStart ≤ c.tod / 60 ∧ c.tod / 60 < s.enm.quietEnd) ∨
        (s.enm.quietEnd < s.enm.quietStart ∧ (s.enm.quietStart ≤ c.tod / 60 ∨ c.tod / 60 < s.enm.quietEnd))))
    (hin : inside → limit = some .el3) (hout : ¬inside → limit = none) : quietNow s = limit := by
  cases hc : s.clock with
  | none =>
    have hnow : nowMinute s = none := by rw [nowMinute, hc]; rfl
    have hnot : ¬inside := fun hi => by
      obtain ⟨c, hsome, -⟩ := h.mp hi
      rw [hc] at hsome
      cases hsome
    rw [quietNow, hnow, hout hnot]
  | some c =>
    have hnow : nowMinute s = some (c.tod / 60) := by rw [nowMinute, hc]; rfl
    rw [quietNow_eq hnow]
    split
    next hw => exact (hin (h.mpr ⟨c, hc, hw⟩)).symm
    next hw =>
      refine (hout fun hi => hw ?_).symm
      obtain ⟨c', hsome, hin'⟩ := h.mp hi
      rw [hc] at hsome
      cases hsome
      exact hin'

end

/-! ### LEVEL-TABLE (R146) -/

section
variable {l : Level} {draw rate depth rot lamp time : Option Nat} {w : State}

theorem entryInRange_iff : entryInRange l draw rate depth rot lamp time = true ↔ (∀ n, draw = some n → 1 ≤ n ∧ n ≤ 5000) ∧
    (∀ n, rate = some n → n ≤ 3600) ∧ (∀ n, depth = some n → n ≤ 15) ∧ (∀ n, rot = some n → n ≤ 3600) ∧
      (∀ n, lamp = some n → n ≤ 100) ∧ (l = .ela ∨ l = .el5 → time = none) := by
  have hwithin (lo hi : Nat) (o : Option Nat) : optWithin lo hi o = true ↔ ∀ n, o = some n → lo ≤ n ∧ n ≤ hi := by
    cases o <;> simp [optWithin]
  have htime : (time.isNone || !(l == .ela || l == .el5)) = true ↔ (l = .ela ∨ l = .el5 → time = none) := by
    rw [Bool.or_eq_true, Option.isNone_iff_eq_none, Bool.not_eq_true', Bool.or_eq_false_iff, beq_eq_false_iff_ne,
      beq_eq_false_iff_ne]
    tauto
  simp only [entryInRange, Bool.and_eq_true, hwithin, htime, and_assoc, Nat.zero_le, true_and]

theorem levelTableRule_reads (l : Level) (w : State) : levelTableRule (.named l) none none none none none none w =
    (w, done (.levelEntry (w.enm.table.get l) false)) := by
  have hin : entryInRange l none none none none none none = true :=
    entryInRange_iff.mpr ⟨nofun, nofun, nofun, nofun, nofun, fun _ => rfl⟩
  unfold levelTableRule
  dsimp only
  rw [hin]
  rfl

theorem levelTableRule_refuses (h : entryInRange l draw rate depth rot lamp time = false) :
    levelTableRule (.named l) draw rate depth rot lamp time w = (w, refuse .range .field) := if_pos (by simp [h])

/-- The entry that a request leaves stored (R146). -/
def entryOf (old : LevelEntry) (draw rate depth rot lamp time : Option Nat) : LevelEntry :=
  ⟨draw.getD old.draw, rate.getD old.rate, depth.getD old.depth, rot.getD old.rotation, lamp.getD old.lamp,
    (time.map storedTimeout).or old.timeout⟩

theorem storeEntry_eq (old : LevelEntry) : storeEntry old draw rate depth rot lamp time =
    entryOf old draw rate depth rot lamp time := by
  cases time <;> rfl

theorem levelTableRule_stores (h : entryInRange l draw rate depth rot lamp time = true)
    (hany : ¬(draw = none ∧ rate = none ∧ depth = none ∧ rot = none ∧ lamp = none ∧ time = none)) :
    levelTableRule (.named l) draw rate depth rot lamp time w =
      (applyEntry l (entryOf (w.enm.table.get l) draw rate depth rot lamp time) w,
        done (.levelEntry (entryOf (w.enm.table.get l) draw rate depth rot lamp time)
          (time.any fun t => storedTimeout t != t))) := by
  have hclamped : (time.any fun t => decide (storedTimeout t ≠ t)) = time.any fun t => storedTimeout t != t := by
    cases time with
    | none => rfl
    | some t => exact Bool.eq_iff_iff.mpr (by simp)
  have hread : ¬(draw.isNone && rate.isNone && depth.isNone && rot.isNone && lamp.isNone && time.isNone) = true := by
    simpa [Option.isNone_iff_eq_none, and_assoc] using hany
  unfold levelTableRule
  dsimp only
  rw [if_neg (by simp [h]), if_neg hread, hclamped, storeEntry_eq]
  rfl

end

section
variable {l : Level} {e : LevelEntry} {s : State}

/-- What the boards are given of the present level. -/
theorem takeLoadSettings_eq (s : State) : takeLoadSettings s = { s with
    bdc.credit := min s.bdc.credit (presentEntry s).depth
    bdc.accrual := if (presentEntry s).rate = 0 then none else some (3600 / (presentEntry s).rate * 1000)
    bdc.rotation := if rotates s then some ((presentEntry s).rotation * 1000) else none
    bdc.lamp := if lampLit s then (presentEntry s).lamp else 0 } := rfl

theorem entryGiven_enm_awu (l : Level) (e : LevelEntry) (s : State) :
    (entryGiven l e s).enm = (entryStored l e s).enm ∧ (entryGiven l e s).awu = (entryStored l e s).awu := by
  unfold entryGiven
  split <;> exact ⟨rfl, rfl⟩

theorem entryGiven_of_other (h : l ≠ s.enm.present) : entryGiven l e s = entryStored l e s := if_neg h

theorem entryGiven_of_present (h : l = s.enm.present) : (entryGiven l e s).bdc = { s.bdc with
    credit := min s.bdc.credit e.depth
    accrual := if e.rate = 0 then none else some (3600 / e.rate * 1000)
    rotation :=
      if 0 < e.rotation ∧ 2 ≤ s.bdc.host.length + s.bdc.auto.length ∧ ([Addr.p1, .p2, .p3, .p4].any fun a =>
        (s.bdc.profiles.get a).isPresent && (s.bdc.profiles.get a).kind == .messages) = true then some (e.rotation * 1000)
      else none
    lamp := if lampLit s then e.lamp else 0 } := by
  have hentry : presentEntry (entryStored l e s) = e := by
    show (s.enm.table.set l e).get s.enm.present = e
    rw [PerLevel.get_set, if_pos h.symm]
  have hrotates : rotates (entryStored l e s) = true ↔ 0 < e.rotation ∧
      2 ≤ s.bdc.host.length + s.bdc.auto.length ∧ ([Addr.p1, .p2, .p3, .p4].any fun a =>
        (s.bdc.profiles.get a).isPresent && (s.bdc.profiles.get a).kind == .messages) = true := by
    have hiff := rotates_iff (entryStored l e s)
    rwa [show (entryStored l e s).enm.table.get (entryStored l e s).enm.present = e from hentry] at hiff
  unfold entryGiven
  rw [if_pos h, takeLoadSettings_eq, hentry]
  simp only [hrotates]
  rfl

/-- A ceiling computed again leaves the boards but for the queue and the sales event. -/
theorem recomputeCeiling_bdc (s : State) : (recomputeCeiling s).bdc.credit = s.bdc.credit ∧
    (recomputeCeiling s).bdc.accrual = s.bdc.accrual ∧ (recomputeCeiling s).bdc.rotation = s.bdc.rotation ∧
      (recomputeCeiling s).bdc.lamp = s.bdc.lamp := by
  have haims := (aims_retarget (followCeiling s)).bdc
  rw [followCeiling_bdc] at haims
  rw [recomputeCeiling, haims]
  exact ⟨rfl, rfl, rfl, rfl⟩

/-- The demand level moves with the effective ceiling alone (R149). -/
theorem recomputeCeiling_demand (s : State) : (recomputeCeiling s).awu.demand =
    if ceilingNow s = s.enm.effective then s.awu.demand else ceilingNow s := by
  have haims := (aims_retarget (followCeiling s)).awu
  rw [recomputeCeiling, haims, followCeiling_eq rfl]
  split <;> rfl

/-- The boards after an accepted entry are those that it was given to. -/
theorem applyEntry_bdc (l : Level) (e : LevelEntry) (s : State) :
    (applyEntry l e s).bdc.credit = (entryGiven l e s).bdc.credit ∧
      (applyEntry l e s).bdc.accrual = (entryGiven l e s).bdc.accrual ∧
        (applyEntry l e s).bdc.rotation = (entryGiven l e s).bdc.rotation ∧
          (applyEntry l e s).bdc.lamp = (entryGiven l e s).bdc.lamp := by
  rw [applyEntry_eq]
  split
  · exact recomputeCeiling_bdc _
  · exact ⟨rfl, rfl, rfl, rfl⟩

theorem applyEntry_table (l : Level) (e : LevelEntry) (s : State) :
    (applyEntry l e s).enm.table = s.enm.table.set l e ∧ (applyEntry l e s).enm.present = s.enm.present ∧
      (applyEntry l e s).enm.capacity = s.enm.capacity := by
  have hgiven := (entryGiven_enm_awu l e s).1
  rw [applyEntry_eq]
  split
  · obtain ⟨-, -, hcapacity, htable, hpresent⟩ := recomputeCeiling_effective (entryGiven l e s)
    rw [htable, hpresent, hcapacity, hgiven]
    exact ⟨rfl, rfl, rfl⟩
  · rw [hgiven]
    exact ⟨rfl, rfl, rfl⟩

/-- An entry whose draw stays moves the demand timer at most (R166). -/
theorem applyEntry_same_draw (h : e.draw = (s.enm.table.get l).draw) :
    (applyEntry l e s).enm = { s.enm with table := s.enm.table.set l e } ∧ (applyEntry l e s).awu.demand = s.awu.demand ∧
      (applyEntry l e s).awu.timer =
        if e.timeout ≠ (s.enm.table.get l).timeout ∧ s.awu.demand = l ∧ s.awu.timer ≠ .held then demandTimerOf e
        else s.awu.timer := by
  obtain ⟨henm, hawu⟩ := entryGiven_enm_awu l e s
  have hdraw : (if e.draw ≠ (levelEntry s l).draw ∧ drawLevel s = l then e.draw else s.enm.draw) = s.enm.draw :=
    if_neg fun hn => hn.1 h
  rw [applyEntry_eq, if_neg (show ¬e.draw ≠ (levelEntry s l).draw from not_not.mpr h), henm, hawu, entryStored, hdraw]
  exact ⟨rfl, rfl, rfl⟩

/-- A changed draw has the ceiling computed again, and the draw allowance follows where it stands at the level (R146, R149). -/
theorem applyEntry_changed_draw (h : e.draw ≠ (s.enm.table.get l).draw) :
    let u := applyEntry l e s
    u.enm.effective = highestEnabled u s.enm.ceiling ∧ u.enm.target = computeTarget u ∧
      (u.enm.effective ≠ s.enm.effective → u.awu.demand = u.enm.effective) ∧
      (u.enm.effective = s.enm.effective → u.awu.demand = s.awu.demand) ∧
      (u.enm.transition = s.enm.transition → u.enm.draw = if drawLevel s = l then e.draw else s.enm.draw) := by
  intro u
  obtain ⟨henm, hawu⟩ := entryGiven_enm_awu l e s
  have hu : u = recomputeCeiling (entryGiven l e s) := (applyEntry_eq l e s).trans (if_pos h)
  have htold := targetTold_retarget (followCeiling (entryGiven l e s))
  have hdemand := recomputeCeiling_demand (entryGiven l e s)
  obtain ⟨heffective, -, hcapacity, htable, -⟩ := recomputeCeiling_effective (entryGiven l e s)
  have hold : (entryGiven l e s).enm.effective = s.enm.effective := by rw [henm]; rfl
  have hsame : (entryGiven l e s).awu.demand = s.awu.demand := by rw [hawu]; rfl
  have hceiling : (entryGiven l e s).enm.ceiling = s.enm.ceiling := by rw [henm]; rfl
  rw [← hu] at heffective hcapacity htable hdemand
  rw [← heffective, hold, hsame] at hdemand
  refine ⟨?_, by rw [hu]; exact htold, fun hne => hdemand.trans (if_neg hne), fun heq => hdemand.trans (if_pos heq),
    fun htransition => ?_⟩
  · rw [heffective, ceilingNow, hceiling, highestEnabled_congr htable hcapacity]
  · have hfollowed : (followCeiling (entryGiven l e s)).enm.transition = s.enm.transition := by
      rw [followCeiling_enm, henm]
      rfl
    have hkept : u.enm.draw = (followCeiling (entryGiven l e s)).enm.draw := by
      rw [hu]
      exact retarget_draw (by rw [hfollowed, ← htransition, hu]; rfl)
    rw [hkept, followCeiling_enm, henm]
    by_cases hl : drawLevel s = l
    · rw [if_pos hl]
      exact if_pos ⟨h, hl⟩
    · rw [if_neg hl]
      exact if_neg fun hb => hl hb.2

end

/-- Settles O49: each request by what it is read as and what it stores; the enabled levels by their order. -/
theorem energyAndLevelSettingsStored : Obligations.EnergyAndLevelSettingsStored := by
  refine ⟨fun q r d s hl => ?energy, fun s hl => ?levels, fun s l => ?order, by decide⟩
  case energy =>
    intro w c good first last v answers inside
    have henergy : energyStored q r d w = v := by
      simp only [energyStored, w, atOwner_enm_quietStart, atOwner_enm_quietEnd, atOwner_enm_raiseSettle,
        atOwner_enm_dormantSettle]
      rfl
    have hstores {u : State} (h : good) (hu : (if q.isSome then setQuiet (quietNow v) v else v) = u) : answers u := by
      refine does_of_rule hl rfl rfl rfl ((energySettingsRule_stores (energyInRange_iff.mpr h)).trans ?_)
      rw [henergy]
      simp only [atOwner_enm_quietStart, atOwner_enm_quietEnd, atOwner_enm_raiseSettle, atOwner_enm_dormantSettle]
      rw [hu]
    have hrefused {a b : Option Nat} (h : energyInRange a b r d = false) :
        Does (.energySettings a b r d) s 0xF5#8 (refuse .range .field) w :=
      does_of_rule hl rfl rfl rfl (energySettingsRule_refuses h)
    refine ⟨fun hbad => hrefused ?_, fun a => ⟨hrefused ?_, hrefused ?_⟩, fun hgood => ⟨fun hq => ?_,
      fun limit hq hin hout => ?_⟩⟩
    · exact Bool.eq_false_of_not_eq_true fun h => hbad (energyInRange_iff.mp h)
    · simp [energyInRange]
    · simp [energyInRange]
    · exact hstores hgood (if_neg (by simp [hq]))
    · have hnow : quietNow v = limit := quietNow_of_inside
        (by rw [show v.clock = s.clock from atOwner_clock s]) hin hout
      have hset {u : State} (hu : setQuiet limit v = u) : answers u :=
        hstores hgood ((if_pos hq).trans (by rw [hnow, hu]))
      have hlimit : v.enm.quietLimit = s.enm.quietLimit := atOwner_enm_quietLimit s
      exact ⟨fun heq => hset ((setQuiet_eq _ _).trans (if_pos (heq.trans hlimit.symm))),
        fun hne => hset ((setQuiet_eq _ _).trans (if_neg fun heq => hne (heq.trans hlimit)))⟩
  case levels =>
    intro w
    have htable : w.enm.table = s.enm.table := atOwner_enm_table s
    have hcapacity : w.enm.capacity = s.enm.capacity := atOwner_enm_capacity s
    have heffective : w.enm.effective = s.enm.effective := atOwner_enm_effective s
    have hceiling : w.enm.ceiling = s.enm.ceiling := atOwner_enm_ceiling s
    have hprofiles : w.bdc.profiles = s.bdc.profiles := atOwner_bdc_profiles s
    refine ⟨fun l => ?_, fun l dr ra de ro la ti => entryInRange_iff,
      fun l dr ra de ro la ti h => does_of_rule hl rfl rfl rfl (levelTableRule_refuses h),
      fun l draw rate depth rot lamp time hin hany => ?entry,
      fun n hn => does_of_rule hl rfl rfl rfl (levelCeilingRule_range hn w), ?_, fun n l hn => ?_, ?_,
      fun n hn => does_of_rule hl rfl rfl rfl (supplyCapacityRule_range hn w), fun n hlow hhigh => ?_⟩
    · exact does_of_rule hl rfl rfl rfl (htable ▸ levelTableRule_reads l w)
    case entry =>
      intro old kept e u budget
      have hold : w.enm.table.get l = old := by rw [htable]
      obtain ⟨hset, hpresent, hcap⟩ := applyEntry_table l e w
      obtain ⟨hcredit, haccrual, hrotation, hlamp⟩ := applyEntry_bdc l e w
      have hentry : entryOf (w.enm.table.get l) draw rate depth rot lamp time = e := by rw [hold]; rfl
      have hrule := levelTableRule_stores (w := w) hin hany
      rw [hentry] at hrule
      refine ⟨does_of_rule hl rfl rfl rfl hrule, htable ▸ hset, hpresent,
        hcap.trans hcapacity, fun hdraw => ?_, fun hdraw => ?_, fun hp => ?_, fun hp => ?_⟩
      · have hsame := applyEntry_same_draw (s := w) (l := l) (e := e) (by rw [hold]; exact hdraw)
        rw [hold, htable] at hsame
        exact hsame
      · have hchanged := applyEntry_changed_draw (s := w) (l := l) (e := e) (by rw [hold]; exact hdraw)
        rw [heffective, hceiling] at hchanged
        exact hchanged
      · have hgiven := entryGiven_of_present (e := e) hp
        rw [hgiven] at hcredit haccrual hrotation hlamp
        rw [hprofiles] at hrotation
        exact ⟨hcredit, haccrual, hrotation, hlamp⟩
      · rw [entryGiven_of_other hp] at hcredit haccrual hrotation hlamp
        exact ⟨hcredit, haccrual, hrotation, hlamp⟩
    · refine does_of_rule hl rfl rfl rfl ?_
      rw [← hceiling, ← heffective]
      rfl
    · intro top v moved
      have hfollow : followCeiling v = if top = s.enm.effective then v else moved := by
        rw [followCeiling_eq (s := v) (top := top) rfl, show v.enm.effective = s.enm.effective from heffective,
          show v.enm.table = s.enm.table from htable]
      refine does_of_rule hl rfl rfl rfl ((levelCeilingRule_stores hn w).trans ?_)
      exact congrArg (fun u => (retarget u, done (.ceiling l top))) hfollow
    · refine does_of_rule hl rfl rfl rfl ?_
      rw [← hcapacity]
      rfl
    · intro v top moved on
      have htop : ceilingNow v = top := by
        show highestEnabled v w.enm.ceiling = top
        rw [hceiling]
      have hon : enabledSet v = ⟨on .ela, on .el0, on .el1, on .el2, on .el3, on .el4, on .el5⟩ := by
        simp only [enabledSet, levelEnabled_eq, on, ← htable]
        rfl
      have hfollow : followCeiling v = if top = s.enm.effective then v else moved := by
        rw [followCeiling_eq htop, show v.enm.effective = s.enm.effective from heffective,
          show v.enm.table = s.enm.table from htable]
      refine does_of_rule hl rfl rfl rfl ((supplyCapacityRule_stores hlow hhigh w).trans ?_)
      rw [← hon]
      exact congrArg (fun u => (retarget u, done (.capacity n (enabledSet v)))) hfollow
  case order =>
    intro on top
    have hon (x : Level) : levelEnabled s x = true ↔ on x := levelEnabled_iff s x
    refine ⟨fun x => by rw [enabledSet_get, hon], (hon _).mp (levelEnabled_highestEnabled s l),
      levelRank_le_highestEnabled s l, fun x hx hrank => levelRank_highestEnabled_le ((hon x).mpr hx) hrank⟩

end Sys2Proof.Machine
end

section
/-! SUPPORT. Activity, the wake requests and the brief episodes (R164 to R174): what each leaves, and the reactions that start and
return an episode; and ActivityDemandAndBriefEpisodes. -/

namespace Sys2Proof.Machine

/-! ### Activity (R165) -/

section
variable {s : State}

theorem followRailMode_awu_slc (s : State) : (followRailMode s).awu = s.awu ∧ (followRailMode s).slc = s.slc := by
  rw [followRailMode_eq]
  exact ⟨rfl, rfl⟩

/-- Without a QUOTED sale nothing of the demand and the episodes moves with the target (R89, R166). -/
theorem retarget_awu (h : slotState s.slc.slot ≠ .quoted) : (retarget s).awu = s.awu := by
  refine retarget_induction (P := fun t => t.awu = s.awu) (fun _ => rfl) (fun _ _ => ?_) fun _ _ => ?_
  · exact (followRailMode_awu_slc _).1
  · by_cases hd : resting (computeTarget s) = true
    · rw [startLowering_resting hd, withdraw_unquoted .level (by rw [decideSales_eq]; exact h), decideSales_eq]
    · rw [startLowering_serving hd]

/-- The demand level and its timer by the ceiling (R165). -/
def demandRaised (s : State) : State := { s with
  awu.demand := s.enm.effective
  awu.timer := if s.awu.timer = .held then .held else demandTimerOf (s.enm.table.get s.enm.effective) }

/-- The state whose target activity computes: a brief episode is ended first (R174). -/
def activityBase (s : State) : State :=
  if s.awu.brief then
    followRailMode { demandRaised s with awu.brief := false, awu.returnTimer := .stopped }
  else demandRaised s

theorem activity_base (s : State) : activity s = retarget (activityBase s) := by
  rw [activity_eq, activated, activityBase, demandRaised]
  dsimp only
  split <;> rfl

theorem activityBase_awu_slc (s : State) : (activityBase s).awu.demand = s.enm.effective ∧
    (activityBase s).awu.brief = false ∧ (activityBase s).awu.woke = s.awu.woke ∧
      (activityBase s).awu.timer = (demandRaised s).awu.timer ∧ (activityBase s).slc = s.slc := by
  unfold activityBase
  split
  · obtain ⟨hawu, hslc⟩ := followRailMode_awu_slc { demandRaised s with awu.brief := false, awu.returnTimer := .stopped }
    rw [hawu, hslc]
    exact ⟨rfl, rfl, rfl, rfl, rfl⟩
  next hb => exact ⟨rfl, Bool.eq_false_of_not_eq_true hb, rfl, rfl, rfl⟩

theorem activity_leaves (s : State) : (activity s).awu.demand = s.enm.effective ∧ (activity s).awu.brief = false ∧
    (activity s).awu.woke = s.awu.woke := by
  obtain ⟨hdemand, hbrief, hwoke, -, -⟩ := activityBase_awu_slc s
  rw [activity_base, (aims_retarget _).awu]
  exact ⟨hdemand, hbrief, hwoke⟩

theorem activity_timer (h : slotState s.slc.slot ≠ .quoted) : (activity s).awu.timer = (demandRaised s).awu.timer := by
  obtain ⟨-, -, -, htimer, hslc⟩ := activityBase_awu_slc s
  rw [activity_base, retarget_awu (by rw [hslc]; exact h), htimer]

theorem activityRule_eq (s : State) : activityRule s = (activity s, done (.activity s.enm.effective
    (match (activity s).awu.timer with | .running ms => some (secondsLeft ms) | _ => none))) := by
  unfold activityRule
  dsimp only
  rw [(activity_leaves s).1]
  cases (activity s).awu.timer <;> rfl

end

/-! ### WAKE-CONFIG (R169) -/

theorem optNames_iff {α : Type} (o : Option (Coded α)) : optNames o = true ↔ ∀ n, o ≠ some (.other n) := by
  match o with
  | none => simp [optNames]
  | some (.named a) => simp [optNames, codedValue]
  | some (.other n) => simp [optNames, codedValue]

theorem wakeInRange_iff (f : WakeFields) : wakeInRange f = true ↔ (∀ i n, (fiveGet f.inputs i).sense ≠ some (.other n) ∧
    (fiveGet f.inputs i).activity ≠ some (.other n) ∧ (fiveGet f.inputs i).wake ≠ some (.other n)) ∧
    (∀ n, f.approach ≠ some (.other n) ∧ f.clock ≠ some (.other n) ∧ f.link ≠ some (.other n)) ∧
    ∀ n, f.returnTime = some n → 30 ≤ n ∧ n ≤ 600 := by
  have hinput (x : InputField) : inputNames x = true ↔
      ∀ n, x.sense ≠ some (.other n) ∧ x.activity ≠ some (.other n) ∧ x.wake ≠ some (.other n) := by
    simp only [inputNames, Bool.and_eq_true, optNames_iff, forall_and, and_assoc]
  have hinputs : (∀ i, inputNames (fiveGet f.inputs i) = true) ↔ inputNames f.inputs.call = true ∧
      inputNames f.inputs.presence = true ∧ inputNames f.inputs.card = true ∧ inputNames f.inputs.door = true ∧
        inputNames f.inputs.aux = true :=
    ⟨fun h => ⟨h .call, h .presence, h .card, h .door, h .aux⟩,
      fun ⟨hcall, hpresence, hcard, hdoor, haux⟩ i => by cases i <;> assumption⟩
  have htime : optWithin 30 600 f.returnTime = true ↔ ∀ n, f.returnTime = some n → 30 ≤ n ∧ n ≤ 600 := by
    cases f.returnTime <;> simp [optWithin]
  rw [(forall_congr' fun i => (hinput (fiveGet f.inputs i)).symm).trans hinputs]
  simp only [wakeInRange, Bool.and_eq_true, htime, optNames_iff, forall_and, and_assoc]

section
variable {f : WakeFields} {w : State}

theorem wakeConfigRule_refuses (h : wakeInRange f = false) : wakeConfigRule f w = (w, refuse .range .field) :=
  if_pos (by simp [h])

theorem wakeConfigRule_stores (h : wakeInRange f = true) : wakeConfigRule f w =
    ({ w with
        awu.config := storedWake f w.awu.config
        awu.lock :=
          if (storedWake f w.awu.config).inputs.call.sense = w.awu.config.inputs.call.sense then w.awu.lock else none },
      done (.wakeConfig (storedWake f w.awu.config))) := if_neg (by simp [h])

end

/-! ### The demand timer and the episodes (R164, R173, R174) -/

section
variable {s : State}

theorem demandExpiry_running {n : Nat} (h : s.awu.timer = .running n) : demandExpiry s = retarget { s with
    awu.demand := levelDown s.awu.demand
    awu.timer := demandTimerOf (s.enm.table.get (levelDown s.awu.demand)) } := by
  unfold demandExpiry
  rw [h]
  rfl

theorem demandExpiry_none (h : ∀ n, s.awu.timer ≠ .running n) : demandExpiry s = s := by
  unfold demandExpiry
  split
  next n hn => exact absurd hn (h n)
  next => rfl

theorem returnExpiry_running {n : Nat} (h : s.awu.returnTimer = .running n) :
    returnExpiry s = { s with awu.returnTimer := .expired } := by
  unfold returnExpiry
  rw [h]

theorem returnExpiry_none (h : ∀ n, s.awu.returnTimer ≠ .running n) : returnExpiry s = s := by
  unfold returnExpiry
  split
  next n hn => exact absurd hn (h n)
  next => rfl

theorem briefStarts_iff (s : State) : briefStarts s = true ↔
    s.enm.present = .el5 ∧ s.awu.urgent = true ∧ s.enm.battery ≠ some .el5 ∧ s.awu.brief = false := by
  simp [briefStarts, and_assoc]

theorem urgentWaiting_iff (s : State) : urgentWaiting s = true ↔ ∃ e ∈ s.bdc.queue, e.urgent = true := by
  simp [urgentWaiting]

theorem urgentWaiting_none (h : ∀ e ∈ s.bdc.queue, e.urgent = false) : urgentWaiting s = false :=
  Bool.eq_false_of_not_eq_true fun hu => by
    obtain ⟨e, he, hue⟩ := (urgentWaiting_iff s).mp hu
    rw [h e he] at hue
    cases hue

theorem briefReturns_iff (s : State) : briefReturns s = true ↔ s.awu.brief = true ∧ s.awu.returnTimer = .expired ∧
    (∀ e ∈ s.bdc.queue, e.urgent = false) ∧ s.plc.line = none := by
  simp [briefReturns, urgentWaiting, and_assoc]

theorem returnFirst_returns (h : briefReturns s = true) : returnFirst s =
    retarget (followRailMode { s with awu.brief := false, awu.returnTimer := .stopped }) := if_pos h

/-- A changed urgent-entry condition is reported before all else (R126). -/
theorem react_reportUrgent (h : urgentWaiting s ≠ s.awu.urgent) : react s = some (reportUrgent s) := if_pos h

theorem reportUrgent_waiting (h : urgentWaiting s = true) :
    reportUrgent s = judgeBriefStart { s with awu.urgent := true } := by
  unfold reportUrgent
  rw [h]
  exact if_pos rfl

theorem reportUrgent_none (h : urgentWaiting s = false) : reportUrgent s = { s with awu.urgent := false } := by
  unfold reportUrgent
  rw [h]
  exact if_neg (by decide)

/-- An episode returns once the freed line has been offered (log 21). -/
theorem react_return (h : LineOffered s) (hb : briefReturns s = true) : react s = some (endBrief s) := by
  unfold react
  rw [if_neg (not_not.mpr h.toTold.urgent_eq), if_neg (not_not.mpr h.toTold.cold), h.probeReady, h.firstServable]
  exact if_pos hb

end

/-- Settles O52: activity by the state whose target it computes, the wake requests by their fields, and the episodes by the
conditions under which they start and return. -/
theorem activityDemandAndBriefEpisodes : Obligations.ActivityDemandAndBriefEpisodes := by
  refine ⟨fun s hl => ?requests, fun s hp => ⟨fun n hn => ?_, fun hn => ?_⟩, fun s hp => ?episodes⟩
  case requests =>
    intro w v u level
    have heffective : w.enm.effective = s.enm.effective := atOwner_enm_effective s
    have htable : w.enm.table = s.enm.table := atOwner_enm_table s
    have hconfig : w.awu.config = s.awu.config := atOwner_awu_config s
    have hlock : w.awu.lock = s.awu.lock := atOwner_awu_lock s
    have hfiltered : w.awu.filtered = s.awu.filtered := atOwner_awu_filtered s
    have hraised : demandRaised w = v := by rw [demandRaised, heffective, htable]
    have hactivity : activity w = u := by
      rw [activity_base, activityBase, hraised]
      exact apply_ite retarget _ _ _
    have hreport : wakeReport w = ⟨w.awu.woke, w.awu.wokeFlags,
        ⟨level .call, level .presence, level .card, level .door, level .aux⟩, w.awu.lock.map (·.active), w.awu.demand,
        timerReport w.awu.timer, w.awu.brief, returnSeconds w.awu.returnTimer⟩ := by
      simp only [wakeReport, reportedLevel, hfiltered, level]
    obtain ⟨hdemand, hbrief, hwoke⟩ := activity_leaves w
    rw [hactivity] at hdemand hbrief hwoke
    refine ⟨?activity, hdemand.trans heffective, hbrief, hwoke, fun hslot => ?_, ?status, fun f => wakeInRange_iff f,
      fun f hf => does_of_rule hl rfl rfl rfl (wakeConfigRule_refuses hf), fun f hf => ?config⟩
    case activity =>
      have hrule := activityRule_eq w
      rw [hactivity, heffective] at hrule
      exact does_of_rule hl rfl rfl rfl hrule
    case status =>
      have hrule : wakeStatusRule w = _ := congrArg (fun r => ({ w with
        awu.woke := none, awu.wokeFlags := ⟨false, false, false, false, false⟩ }, done (.wakeStatus r))) hreport
      exact does_of_rule hl rfl rfl rfl hrule
    case config =>
      intro input new
      have hnew : storedWake f w.awu.config = new := by rw [hconfig]; rfl
      have hrule := wakeConfigRule_stores (w := w) hf
      rw [hnew, hconfig, hlock] at hrule
      exact does_of_rule hl rfl rfl rfl hrule
    · have htimer := activity_timer hslot
      rwa [hactivity, hraised] at htimer
  case episodes =>
    refine ⟨fun hpresent hurgent hbattery hbrief => ?_, fun h => ?_,
      fun n hn => happens_of_rule hp rfl (returnExpiry_running hn), fun hn => happens_of_rule hp rfl (returnExpiry_none hn),
      ?reported, fun hbrief hexpired hnone hline => ?_, fun h => ?_⟩
    case reported =>
      intro started starts
      have hstarts : briefStarts { s with awu.urgent := true } = true ↔ starts := by
        rw [briefStarts_iff]
        exact and_congr_right fun _ => and_iff_right rfl
      refine ⟨fun hany hurgent => ?_, fun hnone hurgent => ?_⟩
      · have hwaiting := (urgentWaiting_iff s).mpr hany
        have hreact := react_reportUrgent (s := s) (by rw [hwaiting, hurgent]; decide)
        rw [reportUrgent_waiting hwaiting, judgeBriefStart_eq] at hreact
        refine ⟨fun hs => ?_, fun hs => ?_⟩
        · rw [if_pos (hstarts.mpr hs)] at hreact
          exact bringsAbout_of_react hreact
        · rw [if_neg fun h => hs (hstarts.mp h)] at hreact
          exact bringsAbout_of_react hreact
      · have hwaiting := urgentWaiting_none hnone
        have hreact := react_reportUrgent (s := s) (by rw [hwaiting, hurgent]; decide)
        rw [reportUrgent_none hwaiting] at hreact
        exact bringsAbout_of_react hreact
    · exact happens_of_rule hp rfl (if_pos ((briefStarts_iff s).mpr ⟨hpresent, hurgent, hbattery, hbrief⟩))
    · have hnot : ¬briefStarts s = true := fun hs => by
        obtain ⟨hpresent, hurgent, hbattery, hbrief⟩ := (briefStarts_iff s).mp hs
        rcases h with h | h | h | h
        · exact h hpresent
        · rw [h] at hurgent; cases hurgent
        · exact hbattery h
        · rw [h] at hbrief; cases hbrief
      exact happens_of_rule (f := judgeBriefStart) hp rfl (if_neg hnot)
    · have hreturns := (briefReturns_iff s).mpr ⟨hbrief, hexpired, hnone, hline⟩
      exact ⟨happens_of_rule hp rfl (returnFirst_returns hreturns),
        fun hoffered => bringsAbout_of_react (react_return hoffered hreturns)⟩
    · have hnot : ¬briefReturns s = true := fun hr => by
        obtain ⟨hbrief, hexpired, hnone, hline⟩ := (briefReturns_iff s).mp hr
        rcases h with h | h | ⟨e, he, hu⟩ | h
        · rw [h] at hbrief; cases hbrief
        · exact h hexpired
        · rw [hnone e he] at hu; cases hu
        · rw [hline] at h; cases h
      exact happens_of_rule (f := returnFirst) hp rfl (if_neg hnot)
  · exact happens_of_rule hp rfl (demandExpiry_running hn)
  · exact happens_of_rule hp rfl (demandExpiry_none hn)

end Sys2Proof.Machine
end

section
/-! SUPPORT. PANEL-RESET (R140), the silences of a panel (R131, R137, R138), and the timers of the line, the rail and the probes
(R134, R135, R143); and PanelResetMakesUnknown, SilencesTakeAPanelOffline and LineRailAndProbeTimersExpire. -/

namespace Sys2Proof.Machine

/-! ### PANEL-RESET (R140) -/

theorem inFlightTo_iff (a : Addr) (s : State) : inFlightTo a s = true ↔ ∃ t, s.plc.line = some t ∧ t.panel = a := by
  simp [inFlightTo, Option.any_eq_true]

section
variable {n : Nat} {a : Addr} {w : State}

theorem panelResetRule_range (h : panelOf n = none) : panelResetRule n w = (w, refuse .range .field) := by
  unfold panelResetRule
  rw [h]

theorem panelResetRule_absent (ha : panelOf n = some a) (h : (panelAt w a).link = .absent) :
    panelResetRule n w = (w, refuse .unknown .panel) := by
  unfold panelResetRule
  rw [ha]
  exact if_pos h

theorem panelResetRule_busy (ha : panelOf n = some a) (h : (panelAt w a).link ≠ .absent)
    (hline : ∃ t, w.plc.line = some t ∧ t.panel = a) : panelResetRule n w = (w, refuse .busy .none) := by
  unfold panelResetRule
  rw [ha]
  dsimp only
  rw [if_neg h, if_pos ((inFlightTo_iff a w).mpr hline)]

theorem panelResetRule_resets (ha : panelOf n = some a) (h : (panelAt w a).link ≠ .absent)
    (hline : ∀ t, w.plc.line = some t → t.panel ≠ a) : panelResetRule n w =
      (setPanel a (unknownPanel (panelAt w a).temperature) w, done (.link (panelAt w a).link)) := by
  have hfree : ¬inFlightTo a w = true := fun hb => by
    obtain ⟨t, ht, hp⟩ := (inFlightTo_iff a w).mp hb
    exact hline t ht hp
  unfold panelResetRule
  rw [ha]
  dsimp only
  rw [if_neg h, if_neg hfree]

end

/-- Settles O44: the rule's checks one after another, and the record that it leaves. -/
theorem panelResetMakesUnknown : Obligations.PanelResetMakesUnknown := by
  intro n s hl w
  exact ⟨fun h => does_of_rule hl rfl rfl rfl (panelResetRule_range h), fun a ha =>
    ⟨fun h => does_of_rule hl rfl rfl rfl (panelResetRule_absent ha h),
      fun h hline => does_of_rule hl rfl rfl rfl (panelResetRule_busy ha h hline),
      fun h hline => does_of_rule hl rfl rfl rfl (panelResetRule_resets ha h hline)⟩⟩

/-! ### Silences (R131, R137, R138) -/

/-- The record of a panel that has not answered: the count rises, to 3 at most (R131). -/
def silenced (p : PanelRecord) : PanelRecord := { p with silences := min 3 (p.silences + 1) }

section
variable {s : State} {t : Transaction}

theorem replyWait_awaiting (h : s.plc.line = some t) (hw : t.phase.awaits = true) : replyWait s = takeSilence t s := by
  unfold replyWait
  rw [h]
  exact if_pos hw

/-- A reply that is no answer to the frame is its silence. -/
theorem panelReplied_silent {source : Addr} {ok : Bool} {answer : PanelAnswer} (h : s.plc.line = some t)
    (hw : t.phase.awaits = true) (hno : source ≠ t.panel ∨ ok = false ∨ t.phase.allows answer = false) :
    panelReplied source ok answer s = replyWait s := by
  have hnot : ¬(source = t.panel ∧ ok = true ∧ t.phase.allows answer = true) := by
    rintro ⟨hsource, hok, hallows⟩
    rcases hno with hno | hno | hno
    · exact hno hsource
    · rw [hok] at hno; cases hno
    · rw [hallows] at hno; cases hno
  rw [replyWait_awaiting h hw]
  unfold panelReplied
  rw [h]
  dsimp only
  rw [if_neg (by simp [hw]), if_neg hnot]

theorem takeSilence_discarded (hd : t.discarded = true) : takeSilence t s = { s with plc := freedLine s.plc } :=
  (if_pos hd).trans (endTransaction_eq s)

/-- Whatever replies, a discarded transaction ends with it (R137). -/
theorem panelReplied_discarded (source : Addr) (ok : Bool) (answer : PanelAnswer) (h : s.plc.line = some t)
    (hw : t.phase.awaits = true) (hd : t.discarded = true) :
    panelReplied source ok answer s = { s with plc := freedLine s.plc } := by
  by_cases hanswer : source = t.panel ∧ ok = true ∧ t.phase.allows answer = true
  · unfold panelReplied
    rw [h]
    dsimp only
    rw [if_neg (by simp [hw]), if_pos hanswer, takeAnswer, if_pos hd, endTransaction_eq]
  · have hno : source ≠ t.panel ∨ ok = false ∨ t.phase.allows answer = false := by
      simpa only [not_and_or, Bool.not_eq_true] using hanswer
    rw [panelReplied_silent h hw hno, replyWait_awaiting h hw, takeSilence_discarded hd]

/-- The third silence: the panel is OFFLINE at once (R138). -/
theorem takeSilence_third (hd : t.discarded = false) (hthird : 2 ≤ (panelAt s t.panel).silences)
    (hlink : (panelAt s t.panel).link ≠ .offline) : takeSilence t s =
      { endedWith t.panel { panelAt s t.panel with
          silences := 3, link := .offline, page := none, probeDue := false, probeTimer := some 60000 } s with
        hlk.notices := raisedAt 7 s.hlk.notices } := by
  have hcount : min 3 ((panelAt s t.panel).silences + 1) = 3 := by omega
  unfold takeSilence
  rw [if_neg (by simp [hd])]
  dsimp only
  rw [if_pos ⟨hthird, hlink⟩, hcount, goOffline, panelAt_setPanel, if_pos rfl, setPanel_setPanel, endTransaction_eq]
  rfl

theorem not_third_silence {p : PanelRecord} (h : p.silences < 2 ∨ p.link = .offline) :
    ¬(2 ≤ p.silences ∧ p.link ≠ .offline) := by
  rintro ⟨hthird, hlink⟩
  exact h.elim (fun h => by omega) hlink

/-- Any other silence of a probe starts the wait of the panel's link state (R138, R139, R141). -/
theorem takeSilence_probe (hd : t.discarded = false)
    (hbelow : (panelAt s t.panel).silences < 2 ∨ (panelAt s t.panel).link = .offline) (hwork : t.work = .probe) :
    takeSilence t s = probeSilent t.panel (setPanel t.panel (silenced (panelAt s t.panel)) s) := by
  unfold takeSilence
  rw [if_neg (by simp [hd])]
  dsimp only
  rw [if_neg (not_third_silence hbelow), hwork]
  rfl

/-- One of a refresh is left to its frame (R133, R134). -/
theorem takeSilence_refresh {r : Refresh} (hd : t.discarded = false)
    (hbelow : (panelAt s t.panel).silences < 2 ∨ (panelAt s t.panel).link = .offline) (hwork : t.work = .refresh r) :
    takeSilence t s = refreshSilent t r (setPanel t.panel (silenced (panelAt s t.panel)) s) := by
  unfold takeSilence
  rw [if_neg (by simp [hd])]
  dsimp only
  rw [if_neg (not_third_silence hbelow), hwork]
  rfl

theorem probeSilent_setPanel {a : Addr} {p : PanelRecord} : probeSilent a (setPanel a p s) = endedWith a { p with
    probeTimer := if p.link = .offline then some 60000 else if p.link = .unknown then some 1000
      else if p.link = .cold then some 600000 else none } s := by
  unfold probeSilent
  simp only [panelAt_setPanel, if_true, setPanel_setPanel, endTransaction_setPanel]
  cases p.link <;> rfl

theorem refreshSilent_frame (r : Refresh) {p : PanelRecord} (h : t.phase = .load ∨ t.phase = .show) :
    refreshSilent t r (setPanel t.panel p s) = attemptFailed true t p s := by
  rw [← failAttempt_setPanel]
  unfold refreshSilent
  rcases h with h | h <;> rw [h]

theorem refreshSilent_probing (r : Refresh) {p : PanelRecord} {left : Nat} (h : t.phase = .probing left) :
    refreshSilent t r (setPanel t.panel p s) =
      if r.probes ≤ 4 * r.duration then
        { s with plc.panels := s.plc.panels.set t.panel p, plc.line := some { t with phase := .interval left } }
      else attemptFailed true t { p with page := none } s := by
  rw [← probeAgain_setPanel]
  unfold refreshSilent
  rw [h]

end

/-- Settles O46: a discarded transaction by its end, and a silence by the count, the link state and the frame. -/
theorem silencesTakeAPanelOffline : Obligations.SilencesTakeAPanelOffline := by
  refine ⟨fun s t source ok answer hp hline hd hw => ?discarded, fun s t hp hline hd hw => ?counted⟩
  case discarded =>
    exact ⟨happens_of_rule hp rfl (panelReplied_discarded source ok answer hline hw hd),
      happens_of_rule hp rfl ((replyWait_awaiting hline hw).trans (takeSilence_discarded hd))⟩
  case counted =>
    intro p q ends wait
    have hsilence {u : State} (hu : takeSilence t s = u) : Happens .replyWaitExpiry s u :=
      happens_of_rule hp rfl ((replyWait_awaiting hline hw).trans hu)
    refine ⟨fun source ok answer hno => ?_, fun hthird hlink => hsilence (takeSilence_third hd hthird hlink),
      fun hbelow => ⟨fun hwork => hsilence ?_, fun r hwork => ?_⟩⟩
    · show event (panelReplied source ok answer) s = event replyWait s
      rw [event_eq hp, event_eq hp, panelReplied_silent hline hw hno]
    · exact (takeSilence_probe hd hbelow hwork).trans probeSilent_setPanel
    · have hrefresh {u : State} (hu : refreshSilent t r (setPanel t.panel q s) = u) : Happens .replyWaitExpiry s u :=
        hsilence ((takeSilence_refresh hd hbelow hwork).trans hu)
      exact ⟨fun hframe => hrefresh (refreshSilent_frame r hframe), fun left hprobing =>
        ⟨fun hmore => hrefresh ((refreshSilent_probing r hprobing).trans (if_pos hmore)),
          fun hlast => hrefresh ((refreshSilent_probing r hprobing).trans (if_neg (Nat.not_le.mpr hlast)))⟩⟩

/-! ### The waits of a refresh (R134, R135) -/

section
variable {s : State} {a : Addr} {r : Refresh} {n : Nat} {d : Bool}

theorem drawingExpiry_drawing (h : s.plc.line = some ⟨a, .refresh r, .drawing n, d⟩) : drawingExpiry s =
    { s with plc.line := some ⟨a, .refresh { r with probes := 1 }, .probing 500, d⟩ } := by
  unfold drawingExpiry
  rw [h]
  rfl

theorem intervalExpiry_interval (h : s.plc.line = some ⟨a, .refresh r, .interval n, d⟩) : intervalExpiry s =
    { s with plc.line := some ⟨a, .refresh { r with probes := r.probes + 1 }, .probing 500, d⟩ } := by
  unfold intervalExpiry
  rw [h]
  rfl

theorem retryExpiry_retry (h : s.plc.line = some ⟨a, .refresh r, .retry n, d⟩) : retryExpiry s =
    { s with plc.line := some ⟨a, .refresh { r with toggle := (panelAt s a).next, probes := 0 }, .load, d⟩ } := by
  unfold retryExpiry
  rw [h]
  rfl

/-- On a free line no wait stands. -/
theorem waits_none (h : s.plc.line = none) : drawingExpiry s = s ∧ intervalExpiry s = s ∧ retryExpiry s = s := by
  unfold drawingExpiry intervalExpiry retryExpiry
  rw [h]
  exact ⟨rfl, rfl, rfl⟩

/-! ### The rail (R143) -/

theorem railSettled_free (hr : s.plc.rail = .settling n) (h : s.plc.line = none) :
    railSettled s = { s with plc.rail := .on } := by
  unfold railSettled
  rw [hr]
  dsimp only
  rw [h]

theorem railSettled_waiting {w : Work} (hr : s.plc.rail = .settling n) (h : s.plc.line = some ⟨a, w, .settle, d⟩) :
    railSettled s = firstFrame ⟨a, w, .settle, d⟩ { s with plc.rail := .on } := by
  unfold railSettled
  rw [hr]
  dsimp only
  rw [h]
  rfl

theorem railSettled_settled (h : s.plc.rail = .off ∨ s.plc.rail = .on) : railSettled s = s := by
  unfold railSettled
  rcases h with h | h <;> rw [h]

theorem railIdleExpiry_running (h : s.plc.idle = some n) :
    railIdleExpiry s = { s with plc.rail := .off, plc.idle := none } := if_pos (by simp [h])

theorem railIdleExpiry_none (h : s.plc.idle = none) : railIdleExpiry s = s := if_neg (by simp [h])

/-! ### The probe timers (R138, R139, R141) -/

theorem probeTimerCounts_iff (link : LinkState) (rail : Rail) :
    probeTimerCounts link rail = true ↔ (link = .offline → rail = .on) := by
  simp [probeTimerCounts, imp_iff_not_or]

theorem probeTimerExpiry_due {link : LinkState} (hl : (panelAt s a).link = link) (ht : (panelAt s a).probeTimer = some n)
    (hr : link = .offline → s.plc.rail = .on) : probeTimerExpiry link a s =
      { s with plc.panels := s.plc.panels.set a { panelAt s a with probeDue := true, probeTimer := none } } :=
  if_pos ⟨hl, by simp [ht], (probeTimerCounts_iff _ _).mpr hr⟩

theorem probeTimerExpiry_other {link : LinkState}
    (h : (panelAt s a).link ≠ link ∨ (link = .offline ∧ s.plc.rail ≠ .on)) : probeTimerExpiry link a s = s := by
  refine if_neg ?_
  rintro ⟨hl, -, hc⟩
  rcases h with h | ⟨hoffline, hrail⟩
  · exact h hl
  · exact hrail ((probeTimerCounts_iff _ _).mp hc hoffline)

end

/-- RAILEN (R143, R176). -/
theorem railEnabled_iff (s : State) : railEnabled s = true ↔ s.power = .on ∧ s.plc.rail ≠ .off := by
  simp [railEnabled]

/-- Settles O48: each wait by what stands on the line, the rail's timers by its state, and a probe timer by its panel's link
state. -/
theorem lineRailAndProbeTimersExpire : Obligations.LineRailAndProbeTimersExpire := by
  refine ⟨fun s a r n d hp => ?waits, fun s a n hp => ?timers, railEnabled_iff⟩
  case waits =>
    refine ⟨fun h => happens_of_rule hp rfl (drawingExpiry_drawing h),
      fun h => happens_of_rule hp rfl (intervalExpiry_interval h), fun h => happens_of_rule hp rfl (retryExpiry_retry h),
      fun h => ?_⟩
    obtain ⟨hdrawing, hinterval, hretry⟩ := waits_none h
    exact ⟨happens_of_rule hp rfl hdrawing, happens_of_rule hp rfl hinterval, happens_of_rule hp rfl hretry⟩
  case timers =>
    have hprobe {c : Instr} {link : LinkState} (hc : eventRule c = some (probeTimerExpiry link a)) :
        ((panelAt s a).link = link → (panelAt s a).probeTimer = some n → (link = .offline → s.plc.rail = .on) →
          Happens c s
            { s with plc.panels := s.plc.panels.set a { panelAt s a with probeDue := true, probeTimer := none } }) ∧
        ((panelAt s a).link ≠ link ∨ (link = .offline ∧ s.plc.rail ≠ .on) → Happens c s s) :=
      ⟨fun hl ht hr => happens_of_rule hp (exec_of_eventRule hc s) (probeTimerExpiry_due hl ht hr),
        fun h => happens_of_rule hp (exec_of_eventRule hc s) (probeTimerExpiry_other h)⟩
    refine ⟨fun hr h => happens_of_rule hp rfl (railSettled_free hr h),
      fun d hr h => happens_of_rule hp rfl (railSettled_waiting hr h),
      fun r d hr h => happens_of_rule hp rfl (railSettled_waiting hr h),
      fun h => happens_of_rule hp rfl (railSettled_settled h), fun h => happens_of_rule hp rfl (railIdleExpiry_running h),
      fun h => happens_of_rule hp rfl (railIdleExpiry_none h), fun c link hc => ?_⟩
    simp only [List.mem_cons, List.not_mem_nil, or_false, Prod.mk.injEq] at hc
    rcases hc with ⟨rfl, rfl⟩ | ⟨rfl, rfl⟩ | ⟨rfl, rfl⟩
    · exact hprobe rfl
    · exact hprobe rfl
    · exact hprobe rfl

end Sys2Proof.Machine
end

section
/-! SUPPORT. The toggles of the panels (R130): what the invariant speaks of, the operations of the line, the profiles and the
restarts, which alone write toggles, and those of the other chapters, which leave every glass alone. -/

namespace Sys2Proof.Machine

/-! ### The relation -/

/-- The next toggle of a record is the other value of the shown one (R130). -/
def PanelRecord.Opposed (p : PanelRecord) : Prop := p.next = p.shown.map (!·)

section
variable {s t : State}

/-- Whatever keeps the stores keeps what the records hold of their glasses, the toggles among it. -/
theorem StoresKept.opposed (h : StoresKept s t) (hs : TogglesOpposed s) : TogglesOpposed t := fun a => by
  have hglass := h.glass a
  simp only [PanelRecord.glass, Prod.mk.injEq] at hglass
  obtain ⟨hshown, hnext, -⟩ := hglass
  rw [hshown, hnext]
  exact hs a

/-- The invariant speaks of the records alone. -/
theorem TogglesOpposed.of_panels (hs : TogglesOpposed s) (h : t.plc.panels = s.plc.panels) : TogglesOpposed t := fun a => by
  rw [panelAt, h]
  exact hs a

/-- A record whose toggles are opposed takes the place of another. -/
theorem opposed_setPanel {a : Addr} {p : PanelRecord} (hp : p.Opposed) (h : TogglesOpposed s) :
    TogglesOpposed (setPanel a p s) := fun b => by
  rw [panelAt_setPanel]
  split
  · exact hp
  · exact h b

theorem TogglesOpposed.foldl {α : Type} {f : State → α → State} (hf : ∀ {s} a, TogglesOpposed s → TogglesOpposed (f s a))
    (l : List α) (h : TogglesOpposed s) : TogglesOpposed (l.foldl f s) := by
  induction l generalizing s with
  | nil => exact h
  | cons a l ih => exact ih (hf a h)

/-! ### What the blocks do to each other at once -/

theorem opposed_requestRefresh (urgent : Bool) (a : Addr) (h : TogglesOpposed s) :
    TogglesOpposed (requestRefresh urgent s a) := (reacted_requestRefresh urgent s a).opposed h

theorem opposed_requestEach (want : Profile → Option Bool) (h : TogglesOpposed s) :
    TogglesOpposed (requestEach want s) := (reacted_requestEach want s).opposed h

theorem opposed_decideSales (h : TogglesOpposed s) : TogglesOpposed (decideSales s) := (reacted_decideSales s).opposed h

theorem opposed_withdraw (why : Withdrawal) (h : TogglesOpposed s) : TogglesOpposed (withdraw why s) :=
  (reacted_withdraw why s).opposed h

theorem opposed_retarget (h : TogglesOpposed s) : TogglesOpposed (retarget s) := (reacted_retarget s).opposed h

theorem opposed_endBrief (h : TogglesOpposed s) : TogglesOpposed (endBrief s) := (reacted_endBrief s).opposed h

theorem opposed_judgeBriefStart (h : TogglesOpposed s) : TogglesOpposed (judgeBriefStart s) :=
  (reacted_judgeBriefStart s).opposed h

theorem opposed_activity (h : TogglesOpposed s) : TogglesOpposed (activity s) := (stores_activity s).opposed h

theorem opposed_wake (source : WokeSource) (edge : Option Edge) (h : TogglesOpposed s) :
    TogglesOpposed (wake source edge s) := (stores_wake source edge s).opposed h

theorem opposed_internalEvent (flag : Bool) (source : WokeSource) (h : TogglesOpposed s) :
    TogglesOpposed (internalEvent flag source s) := (stores_internalEvent flag source s).opposed h

theorem opposed_settle (h : TogglesOpposed s) : TogglesOpposed (settle s) := (reacted_settle s).opposed h

/-! ### Attempts and silences (R131 to R138) -/

theorem opposed_endTransaction (h : TogglesOpposed s) : TogglesOpposed (endTransaction s) :=
  (reacted_endTransaction s).opposed h

theorem opposed_goOffline (a : Addr) (h : TogglesOpposed s) : TogglesOpposed (goOffline a s) :=
  opposed_setPanel (h a) h

theorem opposed_goCold (a : Addr) (h : TogglesOpposed s) : TogglesOpposed (goCold a s) := (reacted_goCold a s).opposed h

theorem opposed_failAttempt (silent : Bool) (t : Transaction) (h : TogglesOpposed s) :
    TogglesOpposed (failAttempt silent t s) := by
  unfold failAttempt
  dsimp only
  split
  · exact opposed_setPanel (h t.panel) h
  · split
    · exact opposed_endTransaction (opposed_goOffline _ (opposed_setPanel (h t.panel) h))
    · exact opposed_requestRefresh _ _ (opposed_endTransaction (opposed_setPanel (h t.panel) h))

theorem opposed_probeAgain (silent : Bool) (t : Transaction) (r : Refresh) (left : Nat) (h : TogglesOpposed s) :
    TogglesOpposed (probeAgain silent t r left s) := by
  unfold probeAgain stuck
  split
  · exact h
  · exact opposed_failAttempt _ _ (opposed_setPanel (h t.panel) h)

theorem opposed_takeSilence (t : Transaction) (h : TogglesOpposed s) : TogglesOpposed (takeSilence t s) := by
  have hcounted : TogglesOpposed (setPanel t.panel (silenced (panelAt s t.panel)) s) := opposed_setPanel (h t.panel) h
  unfold takeSilence
  dsimp only
  split_ifs
  · exact opposed_endTransaction h
  · exact opposed_endTransaction (opposed_goOffline _ hcounted)
  · split
    · exact opposed_endTransaction (opposed_setPanel (hcounted t.panel) hcounted)
    · unfold refreshSilent
      split
      · exact opposed_probeAgain _ _ _ _ hcounted
      · exact opposed_failAttempt _ _ hcounted

theorem opposed_replyWait (h : TogglesOpposed s) : TogglesOpposed (replyWait s) := by
  unfold replyWait
  split
  · split
    · exact opposed_takeSilence _ h
    · exact h
  · exact h

/-! ### Answers (R131 to R141) -/

theorem opposed_takeShow (t : Transaction) (r : Refresh) (h : TogglesOpposed s) : TogglesOpposed (takeShow t r s) := by
  have hdrawn : TogglesOpposed (setPanel t.panel { panelAt s t.panel with link := .refreshing } s) :=
    opposed_setPanel (h t.panel) h
  unfold takeShow
  dsimp only
  split
  · exact hdrawn
  · exact hdrawn

/-- A STATE writes both toggles at once: the one reported, and its other value. -/
theorem opposed_takeDrawingState (t : Transaction) (r : Refresh) (left : Nat) (toggle busy : Bool) (h : TogglesOpposed s) :
    TogglesOpposed (takeDrawingState t r left toggle busy s) := by
  unfold takeDrawingState
  dsimp only
  split_ifs
  · exact opposed_probeAgain _ _ _ _ h
  · exact opposed_endTransaction (opposed_setPanel rfl h)
  · exact opposed_failAttempt _ _ (opposed_setPanel rfl h)

theorem opposed_resynchronise (a : Addr) (toggle : Bool) (t : Int) (h : TogglesOpposed s) :
    TogglesOpposed (resynchronise a toggle t s) := by
  have hended {p : PanelRecord} (hp : p.Opposed) : TogglesOpposed (endTransaction (setPanel a p s)) :=
    opposed_endTransaction (opposed_setPanel hp h)
  unfold resynchronise
  dsimp only
  split_ifs
  · exact opposed_requestRefresh _ _ (hended rfl)
  · exact opposed_goCold _ (hended rfl)
  · exact opposed_requestRefresh _ _ (hended rfl)
  · exact opposed_goCold _ (hended rfl)

theorem opposed_takeProbeState (a : Addr) (toggle : Bool) (t : Int) (h : TogglesOpposed s) :
    TogglesOpposed (takeProbeState a toggle t s) := by
  unfold takeProbeState
  split
  · exact opposed_resynchronise _ _ _ h
  · exact opposed_resynchronise _ _ _ h
  · unfold takeColdState
    dsimp only
    split
    · exact opposed_requestRefresh _ _ (opposed_endTransaction (opposed_setPanel rfl h))
    · exact opposed_endTransaction (opposed_setPanel rfl h)
  · exact opposed_endTransaction h

theorem opposed_applyAnswer (t : Transaction) (answer : PanelAnswer) (h : TogglesOpposed s) :
    TogglesOpposed (applyAnswer t answer s) := by
  unfold applyAnswer
  split
  · exact h
  · exact opposed_takeShow _ _ h
  · exact opposed_endTransaction (opposed_setPanel (h t.panel) h)
  · exact opposed_failAttempt _ _ h
  · exact opposed_takeDrawingState _ _ _ _ _ h
  · exact opposed_takeProbeState _ _ _ h
  · exact h

theorem opposed_takeAnswer (t : Transaction) (answer : PanelAnswer) (h : TogglesOpposed s) :
    TogglesOpposed (takeAnswer t answer s) := by
  have hnoted : (noteAnswer answer (panelAt s t.panel)).Opposed := by cases answer <;> exact h t.panel
  unfold takeAnswer
  split
  · exact opposed_endTransaction h
  · exact opposed_applyAnswer _ _ (opposed_setPanel hnoted h)

theorem opposed_panelReplied (source : Addr) (ok : Bool) (answer : PanelAnswer) (h : TogglesOpposed s) :
    TogglesOpposed (panelReplied source ok answer s) := by
  unfold panelReplied
  split
  · split_ifs
    · exact h
    · exact opposed_takeAnswer _ _ h
    · exact opposed_takeSilence _ h
  · exact h

/-! ### Timers of the line and the rail, and PANEL-RESET -/

theorem opposed_drawingExpiry (h : TogglesOpposed s) : TogglesOpposed (drawingExpiry s) := by
  unfold drawingExpiry
  split <;> exact h

theorem opposed_intervalExpiry (h : TogglesOpposed s) : TogglesOpposed (intervalExpiry s) := by
  unfold intervalExpiry
  split <;> exact h

theorem opposed_retryExpiry (h : TogglesOpposed s) : TogglesOpposed (retryExpiry s) := by
  unfold retryExpiry
  split <;> exact h

theorem opposed_railSettled (h : TogglesOpposed s) : TogglesOpposed (railSettled s) := by
  have hfirst (t : Transaction) {u : State} (hu : TogglesOpposed u) : TogglesOpposed (firstFrame t u) := by
    unfold firstFrame
    split <;> exact hu
  unfold railSettled
  split
  · dsimp only
    split
    · split
      · exact hfirst _ h
      · exact h
    · exact h
  · exact h

theorem opposed_railIdleExpiry (h : TogglesOpposed s) : TogglesOpposed (railIdleExpiry s) := by
  unfold railIdleExpiry
  split <;> exact h

theorem opposed_probeTimerExpiry (link : LinkState) (a : Addr) (h : TogglesOpposed s) :
    TogglesOpposed (probeTimerExpiry link a s) := by
  unfold probeTimerExpiry
  dsimp only
  split
  · exact opposed_setPanel (h a) h
  · exact h

theorem opposed_panelResetRule (n : Nat) (h : TogglesOpposed s) : TogglesOpposed (panelResetRule n s).1 := by
  unfold panelResetRule
  split
  · exact h
  · dsimp only
    split_ifs
    · exact h
    · exact h
    · exact opposed_setPanel rfl h

/-! ### Profiles (R112) -/

theorem opposed_panelAbsent (a : Addr) (h : TogglesOpposed s) : TogglesOpposed (panelAbsent a s) := by
  have hgone : TogglesOpposed (setPanel a absentPanel s) := opposed_setPanel rfl h
  intro b
  rw [panelAbsent, panelAt, (discardTransaction_state a _).2]
  exact hgone b

theorem opposed_changeProfile (a : Addr) (p : Profile) (h : TogglesOpposed s) : TogglesOpposed (changeProfile a p s) := by
  unfold changeProfile
  dsimp only
  split
  · exact opposed_panelAbsent _ h
  · exact opposed_requestRefresh _ _ (opposed_setPanel rfl h)
  · split
    · exact h
    · exact opposed_requestRefresh _ _ h
  · exact h

theorem opposed_panelProfileRule (n : Nat) (presence : Option (Coded Bool)) (k : Option (Coded PanelKind))
    (rows : Option Nat) (f : Option (Coded DirFilter)) (th : Option Nat) (h : TogglesOpposed s) :
    TogglesOpposed (panelProfileRule n presence k rows f th s).1 := by
  unfold panelProfileRule
  split
  · exact h
  · split
    · exact h
    · exact opposed_changeProfile _ _ h

/-! ### The supply (R130, R176) -/

theorem opposed_restartPanel (present : Bool) : (if present then unknownPanel none else absentPanel).Opposed := by
  cases present <;> rfl

/-- A loss leaves every panel UNKNOWN or ABSENT, with unknown toggles. -/
theorem opposed_lose (s : State) : TogglesOpposed (lose s) := fun a => by
  have hrecord : panelAt (lose s) a = if (s.bdc.profiles.get a).isPresent then unknownPanel none else absentPanel :=
    Four.get_map _ _ a
  rw [hrecord]
  exact opposed_restartPanel _

theorem opposed_restartAt (strap : Bool) (s : State) : TogglesOpposed (restartAt strap s) := fun a => by
  obtain ⟨T, hT, -⟩ := restartAt_eq strap s
  rw [hT, panelAt_cameUp]
  split
  · rfl
  · exact opposed_restartPanel _

theorem opposed_supplyRule {c : Instr} {f : State → State} (hc : supplyRule c = some f) (h : TogglesOpposed s) :
    TogglesOpposed (f s) := by
  cases c <;> cases hc
  case powerOn strap =>
    unfold powerUp
    split
    · exact h
    · exact h
    · exact opposed_restartAt strap s
    · exact opposed_restartAt strap s
  case resetnAsserted =>
    unfold holdPart
    split <;> exact h
  case resetnReleased strap =>
    unfold releasePart
    split
    · exact opposed_restartAt strap s
    · exact h
    · exact h
    · exact h
  case powerLoss => exact opposed_lose s

/-- A millisecond moves the probe timers of the records alone. -/
theorem opposed_millisecond (h : TogglesOpposed s) : TogglesOpposed (millisecond s) := by
  unfold millisecond
  split
  · intro a
    have hrecord : panelAt (advance s) a = panelTick s.plc.rail (panelAt s a) := Four.get_map _ _ a
    rw [hrecord, panelTick_eq]
    split
    · exact h a
    · exact h a
  · exact h

end

end Sys2Proof.Machine
end

section
/-! SUPPORT. The same through the boards, the services, tables, tariffs, levels, sales, notices and the clock, which hold no
panel's record, up to the step; and StepKeepsTogglesOpposed. -/

namespace Sys2Proof.Machine

section
variable {s t : State}

/-! ### The boards (R115 to R124) -/

theorem opposed_keepMessages (f : HostEntry → Bool) (g : AutoEntry → Bool) (h : TogglesOpposed s) :
    TogglesOpposed (keepMessages f g s) := by
  obtain ⟨p, hp⟩ := keepMessages_eq f g s
  rw [hp]
  exact h

theorem opposed_removeHost (f : HostEntry → Bool) (h : TogglesOpposed s) : TogglesOpposed (removeHost f s) := by
  unfold removeHost
  dsimp only
  split
  · exact opposed_requestEach _ (opposed_keepMessages _ _ h)
  · exact opposed_keepMessages _ _ h

theorem opposed_tableEvent (h : TogglesOpposed s) : TogglesOpposed (tableEvent s) :=
  (opposed_keepMessages _ _ (opposed_requestEach _ h)).of_panels rfl

theorem opposed_boardsRollover (h : TogglesOpposed s) : TogglesOpposed (boardsRollover s) := by
  unfold boardsRollover requestAll
  exact opposed_requestEach _ (opposed_keepMessages _ _ h)

theorem opposed_addHost (id : Nat) (p : MsgPriority) (lines : List Text) (expiry : Option Nat) (kept : List HostEntry)
    (h : TogglesOpposed s) : TogglesOpposed (addHost id p lines expiry kept s) := by
  unfold addHost requestKind
  exact opposed_requestEach _ (h.of_panels rfl)

theorem opposed_placeHost (id : Nat) (p : MsgPriority) (lines : List Text) (expiry : Option Nat) (h : TogglesOpposed s) :
    TogglesOpposed (placeHost id p lines expiry s).1 := by
  have hadd (kept : List HostEntry) (x : Answer) : TogglesOpposed (addHost id p lines expiry kept s, x).1 := by
    dsimp only
    exact opposed_addHost id p lines expiry kept h
  unfold placeHost
  dsimp only
  split
  · exact hadd _ _
  · split
    · exact hadd _ _
    · split
      · exact h
      · exact hadd _ _

theorem opposed_boardTextRule (id : Nat) (p : Coded MsgPriority) (lines : List Text) (expiry : Option Nat)
    (h : TogglesOpposed s) : TogglesOpposed (boardTextRule id p lines expiry s).1 := by
  unfold boardTextRule
  split
  · exact h
  · split_ifs
    · exact h
    · exact h
    · exact opposed_placeHost _ _ _ _ h

theorem opposed_boardTextDropRule (id : Option Nat) (h : TogglesOpposed s) :
    TogglesOpposed (boardTextDropRule id s).1 := by
  unfold boardTextDropRule
  dsimp only
  split
  · exact h
  · exact opposed_removeHost _ h

theorem opposed_boardRefreshRule (n : Option Nat) (u : Coded Bool) (h : TogglesOpposed s) :
    TogglesOpposed (boardRefreshRule n u s).1 := by
  unfold boardRefreshRule
  split
  · exact h
  · exact opposed_requestEach _ h
  · split
    · exact h
    · split
      · exact opposed_requestRefresh _ _ h
      · exact h

theorem opposed_accrualExpiry (h : TogglesOpposed s) : TogglesOpposed (accrualExpiry s) := by
  unfold accrualExpiry
  split <;> exact h

theorem opposed_rotationExpiry (h : TogglesOpposed s) : TogglesOpposed (rotationExpiry s) := by
  unfold rotationExpiry
  split
  · exact opposed_requestEach _ h
  · exact h

theorem opposed_serveFirst (h : TogglesOpposed s) : TogglesOpposed (serveFirst s) := by
  unfold serveFirst
  split
  · exact (reacted_serve _ s).opposed h
  · exact h

theorem opposed_probeFirst (h : TogglesOpposed s) : TogglesOpposed (probeFirst s) := by
  unfold probeFirst
  cases probeReady s with
  | none => exact h
  | some a => exact (reacted_startProbe a s).opposed h

/-! ### Services and tables -/

theorem opposed_changeEvent (old new : Service) (c : ChangeCause) (h : TogglesOpposed s) :
    TogglesOpposed (changeEvent old new s c) := by
  cases c
  case cancel =>
    unfold changeEvent
    dsimp only
    split
    · exact opposed_requestEach _ h
    · exact opposed_requestEach _ h
  case reinstate => exact opposed_requestEach _ (opposed_keepMessages _ _ h)
  all_goals exact opposed_requestEach _ h

theorem opposed_statusEvent (p : Service × Service) (h : TogglesOpposed s) : TogglesOpposed (statusEvent s p) := by
  unfold statusEvent
  split
  · split
    · split
      · exact opposed_withdraw _ h
      · exact h
    · exact h
  · exact h

theorem opposed_approachStart (p : Service × Service) (h : TogglesOpposed s) : TogglesOpposed (approachStart s p) := by
  unfold approachStart
  split
  · exact opposed_internalEvent _ _ (opposed_activity h)
  · exact h

theorem opposed_handOn (pairs : List (Service × Service)) (h : TogglesOpposed s) : TogglesOpposed (handOn pairs s) := by
  have hstarts := TogglesOpposed.foldl opposed_approachStart pairs (opposed_retarget h)
  have hstatus := TogglesOpposed.foldl opposed_statusEvent pairs hstarts
  exact TogglesOpposed.foldl (f := changeEvents) (fun p hu => TogglesOpposed.foldl (opposed_changeEvent p.1 p.2) _ hu) pairs
    hstatus

theorem opposed_minuteEvaluation (now : Nat) (h : TogglesOpposed s) : TogglesOpposed (minuteEvaluation now s) := by
  unfold minuteEvaluation
  split
  · exact h
  · exact opposed_handOn _ h

theorem opposed_evaluateNow (h : TogglesOpposed s) : TogglesOpposed (evaluateNow s) := by
  unfold evaluateNow
  cases nowMinute s with
  | none => exact h
  | some m => exact opposed_minuteEvaluation m h

theorem opposed_runningRule (number stamp : Nat) (kind : Coded RunKind) (arg : Int) (h : TogglesOpposed s) :
    TogglesOpposed (runningRule number stamp kind arg s).1 := by
  cases kind with
  | other n => exact h
  | named k =>
    unfold runningRule
    dsimp only
    split
    · exact h
    · split
      · exact h
      · split
        · exact h
        · split_ifs
          · exact h
          · exact h
          · exact opposed_handOn _ h

theorem opposed_placeCurrent (c : Option CurrentTable) (h : TogglesOpposed s) : TogglesOpposed (placeCurrent c s) :=
  opposed_tableEvent (opposed_retarget (h.of_panels rfl))

theorem opposed_emptyCurrent (h : TogglesOpposed s) : TogglesOpposed (emptyCurrent s) :=
  (opposed_placeCurrent none h).of_panels rfl

theorem opposed_promote (x : NextTable) (h : TogglesOpposed s) : TogglesOpposed (promote x s) :=
  opposed_placeCurrent _ (h.of_panels rfl)

theorem opposed_tablePromoteRule (version : Nat) (h : TogglesOpposed s) : TogglesOpposed (tablePromoteRule version s).1 := by
  unfold tablePromoteRule
  split
  · split_ifs
    · exact h
    · exact h
    · exact h
    · exact opposed_evaluateNow (opposed_promote _ h)
  · exact h

theorem opposed_serviceSettingsRule (g w m : Option Nat) (h : TogglesOpposed s) :
    TogglesOpposed (serviceSettingsRule g w m s).1 := by
  unfold serviceSettingsRule
  dsimp only
  split_ifs
  · exact h
  · exact h
  · exact opposed_evaluateNow h

theorem opposed_ttsRollover (entered : Date) (cause : RolloverCause) (h : TogglesOpposed s) :
    TogglesOpposed (ttsRollover entered cause s) := by
  unfold ttsRollover rolloverTables
  split
  · exact opposed_tableEvent h
  · split
    · exact opposed_emptyCurrent h
    · split_ifs
      · exact opposed_emptyCurrent h
      · exact opposed_promote _ h
      · exact opposed_emptyCurrent (h.of_panels rfl)
      · exact opposed_emptyCurrent h

theorem opposed_tableOpenRule (date : Date) (k : Coded DayType) (a b v : Nat) (h : TogglesOpposed s) :
    TogglesOpposed (tableOpenRule date k a b v s).1 := by
  unfold tableOpenRule
  repeat' split
  all_goals exact h

theorem opposed_tableAddRule (number : Nat) (d : Coded Direction) (minute platform : Nat) (calls : List Nat)
    (h : TogglesOpposed s) : TogglesOpposed (tableAddRule number d minute platform calls s).1 := by
  unfold tableAddRule
  repeat' split
  all_goals exact h

theorem opposed_tableCloseRule (h : TogglesOpposed s) : TogglesOpposed (tableCloseRule s).1 := by
  unfold tableCloseRule
  split <;> exact h

/-! ### Tariffs -/

theorem opposed_activate (x : Tariff) (h : TogglesOpposed s) : TogglesOpposed (activate x s) := by
  have hactive : TogglesOpposed { s with tfe.active := some x, tfe.pending := none } := h
  unfold activate namesEvent
  exact opposed_requestEach _ (opposed_decideSales (opposed_withdraw _ hactive))

theorem opposed_tfeRollover (entered : Date) (h : TogglesOpposed s) : TogglesOpposed (tfeRollover entered s) := by
  unfold tfeRollover
  cases tariffDue entered s with
  | none => exact h
  | some x => exact opposed_activate x h

theorem opposed_tariffCloseRule (h : TogglesOpposed s) : TogglesOpposed (tariffCloseRule s).1 := by
  unfold tariffCloseRule
  split
  · exact h
  · split
    · exact h
    · split
      · exact h
      · split
        · exact opposed_activate _ h
        · exact h

theorem opposed_tariffOpenRule (v : Nat) (date : Date) (h : TogglesOpposed s) :
    TogglesOpposed (tariffOpenRule v date s).1 := by
  unfold tariffOpenRule
  split <;> exact h

theorem opposed_tariffStationRule (code : Nat) (name : Text) (distance : Nat) (side : Coded Direction)
    (h : TogglesOpposed s) : TogglesOpposed (tariffStationRule code name distance side s).1 := by
  unfold tariffStationRule
  repeat' split
  all_goals exact h

theorem opposed_tariffRulesRule (rules : Rules) (h : TogglesOpposed s) : TogglesOpposed (tariffRulesRule rules s).1 := by
  unfold tariffRulesRule
  repeat' split
  all_goals exact h

/-! ### Limits, ceiling and demand -/

theorem opposed_setBattery (l : Option Level) (h : TogglesOpposed s) : TogglesOpposed (setBattery l s) := by
  unfold setBattery
  dsimp only
  split_ifs
  · exact h
  · exact opposed_endBrief h
  · exact opposed_retarget h
  · exact opposed_judgeBriefStart (opposed_retarget h)
  · exact opposed_retarget h

theorem opposed_setQuiet (l : Option Level) (h : TogglesOpposed s) : TogglesOpposed (setQuiet l s) := by
  unfold setQuiet
  split
  · exact h
  · exact opposed_retarget h

theorem opposed_quietOnMinute (h : TogglesOpposed s) : TogglesOpposed (quietOnMinute s) := by
  unfold quietOnMinute
  dsimp only
  split
  · exact opposed_internalEvent _ _ (opposed_setQuiet _ h)
  · exact opposed_setQuiet _ h

theorem opposed_restartDemandTimer (h : TogglesOpposed s) : TogglesOpposed (restartDemandTimer s) :=
  (stores_restartDemandTimer s).opposed h

theorem opposed_followCeiling (h : TogglesOpposed s) : TogglesOpposed (followCeiling s) := by
  unfold followCeiling
  dsimp only
  split
  · exact h
  · exact opposed_restartDemandTimer h

theorem opposed_recomputeCeiling (h : TogglesOpposed s) : TogglesOpposed (recomputeCeiling s) :=
  opposed_retarget (opposed_followCeiling h)

theorem opposed_staleExpiry (h : TogglesOpposed s) : TogglesOpposed (staleExpiry s) := by
  unfold staleExpiry
  split
  · exact h
  · exact opposed_setBattery _ h

theorem opposed_demandExpiry (h : TogglesOpposed s) : TogglesOpposed (demandExpiry s) := by
  unfold demandExpiry
  split
  · exact opposed_retarget h
  · exact h

theorem opposed_returnExpiry (h : TogglesOpposed s) : TogglesOpposed (returnExpiry s) := by
  unfold returnExpiry
  split <;> exact h

theorem opposed_raiseSettled (h : TogglesOpposed s) : TogglesOpposed (raiseSettled s) := by
  unfold raiseSettled
  split
  · exact (reacted_completeAt _ s).opposed h
  · exact h

theorem opposed_drainFirst (h : TogglesOpposed s) : TogglesOpposed (drainFirst s) := by
  unfold drainFirst
  cases drainReady s with
  | none => exact h
  | some d => exact (reacted_completeLowering d s).opposed h

theorem opposed_returnFirst (h : TogglesOpposed s) : TogglesOpposed (returnFirst s) := by
  unfold returnFirst
  split
  · exact opposed_endBrief h
  · exact h

theorem opposed_applyEntry (l : Level) (e : LevelEntry) (h : TogglesOpposed s) : TogglesOpposed (applyEntry l e s) := by
  have hgiven : TogglesOpposed (entryGiven l e s) := by
    unfold entryGiven
    split <;> exact h
  rw [applyEntry_eq]
  split
  · exact opposed_recomputeCeiling hgiven
  · exact hgiven

theorem opposed_levelTableRule (sel : Coded Level) (a b c d e f : Option Nat) (h : TogglesOpposed s) :
    TogglesOpposed (levelTableRule sel a b c d e f s).1 := by
  unfold levelTableRule
  split
  · exact h
  · split_ifs
    · exact h
    · exact h
    · exact opposed_applyEntry _ _ h

theorem opposed_levelCeilingRule (v : Option Nat) (h : TogglesOpposed s) : TogglesOpposed (levelCeilingRule v s).1 := by
  unfold levelCeilingRule
  split
  · exact h
  · split
    · exact h
    · exact opposed_recomputeCeiling h

theorem opposed_levelLimitRule (v : LimitField) (h : TogglesOpposed s) : TogglesOpposed (levelLimitRule v s).1 := by
  have hstore (l : Option Level) : TogglesOpposed (storeHost l s).1 := by
    refine opposed_settle ?_
    unfold setHost
    split
    · exact h
    · exact opposed_retarget h
  unfold levelLimitRule
  split
  · exact h
  · exact hstore _
  · split
    · exact h
    · exact hstore _
  · exact h

theorem opposed_supplyCapacityRule (v : Option Nat) (h : TogglesOpposed s) :
    TogglesOpposed (supplyCapacityRule v s).1 := by
  unfold supplyCapacityRule
  split
  · exact h
  · split
    · exact h
    · exact opposed_recomputeCeiling h

theorem opposed_supplyReportRule (c : Int) (h : TogglesOpposed s) : TogglesOpposed (supplyReportRule c s).1 := by
  refine opposed_settle (opposed_setBattery _ ?_)
  split <;> exact h

theorem opposed_energySettingsRule (a b c d : Option Nat) (h : TogglesOpposed s) :
    TogglesOpposed (energySettingsRule a b c d s).1 := by
  unfold energySettingsRule
  dsimp only
  split_ifs
  · exact h
  · exact opposed_setQuiet _ h
  · exact h

/-! ### The field inputs, the wakes and the notices -/

theorem opposed_inputEvent (i : FieldInput) (high : Bool) (h : TogglesOpposed s) :
    TogglesOpposed (inputEvent i high s) := by
  have hwoken := opposed_wake (.field i) (some (if high then .rising else .falling)) h
  unfold inputEvent
  dsimp only
  split
  · split
    · exact hwoken
    · exact hwoken
  · split
    · exact opposed_activity h
    · exact h

theorem opposed_filteredChange (i : FieldInput) (high : Bool) (h : TogglesOpposed s) :
    TogglesOpposed (filteredChange i high s) := by
  have hdoor : TogglesOpposed (doorChange i high { s with awu.filtered := fiveSet s.awu.filtered i (some high) }) := by
    unfold doorChange
    split <;> exact h
  have hlock {u : State} (hu : TogglesOpposed u) :
      TogglesOpposed (if i = .call then { u with awu.lock := passLock high u.awu.lock } else u) := by
    split <;> exact hu
  have hpassed := hlock hdoor
  unfold filteredChange inputEdge
  dsimp only
  split
  · generalize (if i = .call then _ else _ : State) = v at hpassed ⊢
    split_ifs
    exacts [opposed_inputEvent i high hpassed, hpassed, opposed_inputEvent i high hpassed, hpassed]
  · exact h

theorem opposed_firstTaking (i : FieldInput) (high : Bool) (h : TogglesOpposed s) :
    TogglesOpposed (firstTaking i high s) := by
  unfold firstTaking
  dsimp only
  split_ifs <;> exact h

theorem opposed_wakeConfigRule (f : WakeFields) (h : TogglesOpposed s) : TogglesOpposed (wakeConfigRule f s).1 := by
  unfold wakeConfigRule
  dsimp only
  split <;> exact h

theorem opposed_noticeClearRule (l : List Nat) (h : TogglesOpposed s) : TogglesOpposed (noticeClearRule l s).1 := by
  have hcleared (l : List Nat) : TogglesOpposed (l.foldl clearNotice s) := .foldl (f := clearNotice) (fun _ hu => hu) l h
  unfold noticeClearRule
  dsimp only
  split
  · exact h
  · split
    · exact hcleared _
    · exact hcleared _

theorem opposed_noticeConfigRule (l : List NoticeField) (d : Option (Coded DoorSense)) (h : TogglesOpposed s) :
    TogglesOpposed (noticeConfigRule l d s).1 := by
  have hstored : TogglesOpposed (l.foldl storeNotice s) := .foldl (f := storeNotice) (fun _ hu => hu) l h
  unfold noticeConfigRule storeDoorSense
  dsimp only
  split
  · exact h
  · split
    · exact hstored
    · exact hstored

/-! ### The sales and the journal -/

theorem opposed_evaluateThresholds (h : TogglesOpposed s) : TogglesOpposed (evaluateThresholds s) := by
  rw [evaluateThresholds_eq]
  exact h

theorem opposed_reportFree (h : TogglesOpposed s) : TogglesOpposed (reportFree s) :=
  opposed_decideSales (opposed_evaluateThresholds h)

theorem opposed_putSlot (slot : Slot) (h : TogglesOpposed s) : TogglesOpposed (putSlot slot s) := by
  obtain ⟨timer, ht⟩ := putSlot_state slot s
  rw [ht]
  exact h

theorem opposed_offerSold (date : Date) (number quantity : Nat) (h : TogglesOpposed s) :
    TogglesOpposed (offerSold date number quantity s) := by
  rw [offerSold_state]
  exact h

theorem opposed_conclude (x : Sale) (kind : RecordKind) (h : TogglesOpposed s) : TogglesOpposed (conclude x kind s) := by
  unfold conclude
  dsimp only
  refine opposed_putSlot _ ?_
  split
  · split
    · exact opposed_offerSold _ _ _ h
    · exact h
  · exact h

theorem opposed_saleQuoteRule (code : Nat) (k : Coded TicketType) (cls q : Nat) (sel : Coded ServiceSel) (n : Option Nat)
    (h : TogglesOpposed s) : TogglesOpposed (saleQuoteRule code k cls q sel n s).1 := by
  have hbound (x : Tariff) (k : TicketType) (v : Option Service) : TogglesOpposed (quoteBound x code k cls q v s).1 := by
    unfold quoteBound
    dsimp only
    split
    · exact h
    · exact h
    · exact opposed_putSlot _ h
  have hfrom (x : Tariff) (k : TicketType) (sel : ServiceSel) : TogglesOpposed (quoteFrom x code k cls q sel n s).1 := by
    unfold quoteFrom
    split_ifs
    · exact h
    · exact h
    · split
      · exact h
      · exact h
      · exact hbound _ _ _
      · exact hbound _ _ _
  unfold saleQuoteRule
  split
  · split
    · exact h
    · split
      · exact h
      · split_ifs
        · exact h
        · exact h
        · exact h
        · exact h
        · exact hfrom _ _ _
  · exact h

theorem opposed_saleCommitRule (p : Coded Payment) (ref : Option Text) (h : TogglesOpposed s) :
    TogglesOpposed (saleCommitRule p ref s).1 := by
  cases p with
  | other n => exact h
  | named k =>
    unfold saleCommitRule
    dsimp only
    split
    · exact h
    · split
      · split
        · exact h
        · split
          · exact h
          · split
            · exact h
            · split
              · exact h
              · split
                · exact opposed_withdraw _ h
                · exact opposed_reportFree (opposed_putSlot _ h)
      · exact h

theorem opposed_salePrintedRule (n : Nat) (o : Coded PrintOutcome) (h : TogglesOpposed s) :
    TogglesOpposed (salePrintedRule n o s).1 := by
  unfold salePrintedRule
  split
  · exact h
  · split
    · exact h
    · split
      · split
        · exact opposed_conclude _ _ h
        · exact h
      · exact h

theorem opposed_saleCancelRule (h : TogglesOpposed s) : TogglesOpposed (saleCancelRule s).1 := by
  unfold saleCancelRule
  split
  · exact h
  · exact opposed_putSlot _ h

theorem opposed_saleSettingsRule (k : Option (List (Coded Payment))) (x : Option (List (Coded TicketType)))
    (h : TogglesOpposed s) : TogglesOpposed (saleSettingsRule k x s).1 := by
  unfold saleSettingsRule
  split <;> exact h

theorem opposed_saleRule {rule : State → State × Answer}
    (hrule : ∀ {s}, TogglesOpposed s → TogglesOpposed (rule s).1) (h : TogglesOpposed s) :
    TogglesOpposed (saleRule rule s).1 := hrule (opposed_settle (opposed_activity h))

theorem opposed_printExpiry (h : TogglesOpposed s) : TogglesOpposed (printExpiry s) := by
  unfold printExpiry
  split
  · exact opposed_conclude _ _ h
  · exact h

theorem opposed_journalReadRule (a b : Nat) (h : TogglesOpposed s) : TogglesOpposed (journalReadRule a b s).1 := by
  unfold journalReadRule
  dsimp only
  split_ifs <;> exact h

theorem opposed_journalReleaseRule (n : Nat) (h : TogglesOpposed s) : TogglesOpposed (journalReleaseRule n s).1 := by
  unfold journalReleaseRule
  dsimp only
  split
  · exact h
  · split
    · exact h
    · split
      · exact h
      · split
        · exact h
        · exact opposed_reportFree h

theorem opposed_journalSettingsRule (low : Option Nat) (h : TogglesOpposed s) :
    TogglesOpposed (journalSettingsRule low s).1 := by
  unfold journalSettingsRule
  dsimp only
  split
  · exact h
  · split
    · exact h
    · exact opposed_evaluateThresholds h

/-! ### The clock -/

theorem opposed_minuteEvent (e : MinuteEvent) (h : TogglesOpposed s) : TogglesOpposed (minuteEvent e s) :=
  opposed_quietOnMinute ((opposed_removeHost _ (opposed_minuteEvaluation _ h)).of_panels rfl)

theorem opposed_slotAndTariff (entered : Date) (h : TogglesOpposed s) : TogglesOpposed (slotAndTariff entered s) := by
  obtain ⟨n, hn | hn⟩ := slotAndTariff_cases entered s <;> rw [hn]
  · exact opposed_withdraw _ (opposed_tfeRollover _ h)
  · exact opposed_tfeRollover _ (opposed_withdraw _ h)

theorem opposed_rolloverEvent (e : RolloverEvent) (h : TogglesOpposed s) : TogglesOpposed (rolloverEvent e s) :=
  (opposed_internalEvent _ _
    (opposed_boardsRollover (opposed_slotAndTariff _ (opposed_ttsRollover _ _ h)))).of_panels rfl

theorem opposed_enterDate (c : ClockSetting) (left : Option Date) (day : RolloverCause) (m : MinuteCause)
    (h : TogglesOpposed s) : TogglesOpposed (enterDate c left day m s) :=
  opposed_minuteEvent _ (opposed_rolloverEvent _ h)

theorem opposed_clockSecondEvent (h : TogglesOpposed s) : TogglesOpposed (clockSecondEvent s) := by
  have htts : TogglesOpposed (ttsUnset { s with clock := none }) := opposed_retarget (h.of_panels rfl)
  have hlamp : TogglesOpposed (setLamp (decideSales (ttsUnset { s with clock := none }))) :=
    (opposed_decideSales htts).of_panels rfl
  have hunset : TogglesOpposed (unsetClock s) := opposed_setQuiet _ hlamp
  cases hc : s.clock with
  | none => rwa [clockSecondEvent_unset hc]
  | some c =>
    rw [clockSecondEvent_set hc]
    unfold clockTick
    dsimp only
    split_ifs
    · exact opposed_minuteEvent _ (h.of_panels rfl)
    · exact h.of_panels rfl
    · exact opposed_enterDate _ _ _ _ (h.of_panels rfl)
    · exact hunset

theorem opposed_clockSetRule (y mo d hh mi sec : Nat) (h : TogglesOpposed s) :
    TogglesOpposed (clockSetRule y mo d hh mi sec s).1 := by
  unfold clockSetRule
  dsimp only
  split
  · exact h
  · split
    · exact opposed_enterDate _ _ _ _ (opposed_decideSales (h.of_panels rfl))
    · unfold stepClock
      dsimp only
      split_ifs
      · exact h
      · exact h
      · exact opposed_minuteEvent _ (h.of_panels rfl)
      · exact opposed_enterDate _ _ _ _ (h.of_panels rfl)

/-! ### CLEAR-RETAINED -/

theorem opposed_clearEnergy (h : TogglesOpposed s) : TogglesOpposed (clearEnergy s) := by
  have hfollowed : TogglesOpposed (followCeiling (defaultEnergy s)) := opposed_followCeiling (h.of_panels rfl)
  unfold clearEnergy
  dsimp only
  refine opposed_retarget ?_
  split
  · exact hfollowed.of_panels rfl
  · exact hfollowed.of_panels rfl

theorem opposed_clearAll (h : TogglesOpposed s) : TogglesOpposed (clearAll s) := by
  have htables : TogglesOpposed (clearTables s) := opposed_placeCurrent none (h.of_panels rfl)
  have hsales : TogglesOpposed (clearSales (clearTables s)) := opposed_decideSales (htables.of_panels rfl)
  have hprofiles : TogglesOpposed (clearProfiles (clearSales (clearTables s))) :=
    TogglesOpposed.foldl (fun a => opposed_changeProfile a defaultProfile) allPanels hsales
  exact (opposed_clearEnergy hprofiles).of_panels rfl

theorem opposed_clearRetainedRule (h : TogglesOpposed s) : TogglesOpposed (clearRetainedRule s).1 := by
  unfold clearRetainedRule
  split
  · exact opposed_clearAll h
  · exact h

/-! ### Every owner's rule and every event -/

theorem opposed_ownerRule {c : Instr} {rule : State → State × Answer} (hc : ownerRule c = some rule)
    (h : TogglesOpposed s) : TogglesOpposed (rule s).1 := by
  cases c <;> cases hc
  case identify => exact h
  case restart => exact h
  case clearRetained => exact opposed_clearRetainedRule h
  case noticeRead => exact h
  case noticeClear => exact opposed_noticeClearRule _ h
  case noticeConfig => exact opposed_noticeConfigRule _ _ h
  case clockSet => exact opposed_clockSetRule _ _ _ _ _ _ h
  case clockRead => exact h
  case tableOpen => exact opposed_tableOpenRule _ _ _ _ _ h
  case tableAdd => exact opposed_tableAddRule _ _ _ _ _ h
  case tableClose => exact opposed_tableCloseRule h
  case tableDrop => exact h
  case tablePromote => exact opposed_tablePromoteRule _ h
  case tableRead => rwa [tableReadRule_state]
  case serviceSettings => exact opposed_serviceSettingsRule _ _ _ h
  case running => exact opposed_runningRule _ _ _ _ h
  case tariffOpen => exact opposed_tariffOpenRule _ _ h
  case tariffStation => exact opposed_tariffStationRule _ _ _ _ h
  case tariffRules => exact opposed_tariffRulesRule _ h
  case tariffClose => exact opposed_tariffCloseRule h
  case tariffRead => rwa [tariffReadRule_state]
  case fareTrial => rwa [fareTrialRule_state]
  case saleQuote => exact opposed_saleRule (opposed_saleQuoteRule _ _ _ _ _ _) h
  case saleCommit => exact opposed_saleRule (opposed_saleCommitRule _ _) h
  case salePrinted => exact opposed_saleRule (opposed_salePrintedRule _ _) h
  case saleCancel => exact opposed_saleRule opposed_saleCancelRule h
  case saleStatus => exact opposed_saleRule id h
  case salesClose => exact opposed_withdraw _ (opposed_decideSales h)
  case salesOpen => exact opposed_decideSales h
  case saleSettings => exact opposed_saleSettingsRule _ _ h
  case journalRead => exact opposed_journalReadRule _ _ h
  case journalRelease => exact opposed_journalReleaseRule _ h
  case takingsRead => exact h
  case journalSettings => exact opposed_journalSettingsRule _ h
  case panelProfile => exact opposed_panelProfileRule _ _ _ _ _ _ h
  case boardText => exact opposed_boardTextRule _ _ _ _ h
  case boardTextDrop => exact opposed_boardTextDropRule _ h
  case boardRefresh => exact opposed_boardRefreshRule _ _ h
  case boardStatus => exact h
  case panelReset => exact opposed_panelResetRule _ h
  case panelStatus => exact h
  case levelTable => exact opposed_levelTableRule _ _ _ _ _ _ _ h
  case levelCeiling => exact opposed_levelCeilingRule _ h
  case levelLimit => exact opposed_levelLimitRule _ h
  case supplyCapacity => exact opposed_supplyCapacityRule _ h
  case supplyReport => exact opposed_supplyReportRule _ h
  case energySettings => exact opposed_energySettingsRule _ _ _ _ h
  case energyStatus => exact h
  case activity => exact opposed_activity h
  case wakeConfig => exact opposed_wakeConfigRule _ h
  case wakeStatus => exact h

theorem opposed_eventRule {c : Instr} {f : State → State} (hc : eventRule c = some f) (h : TogglesOpposed s) :
    TogglesOpposed (f s) := by
  cases c <;> cases hc
  case clockSecond => exact opposed_clockSecondEvent h
  case quoteTimerExpiry => exact opposed_withdraw _ h
  case printTimerExpiry => exact opposed_printExpiry h
  case accrualTimerExpiry => exact opposed_accrualExpiry h
  case rotationTimerExpiry => exact opposed_rotationExpiry h
  case serveEntry => exact opposed_serveFirst h
  case probeStart => exact opposed_probeFirst h
  case railSettleExpiry => exact opposed_railSettled h
  case panelReply => exact opposed_panelReplied _ _ _ h
  case replyWaitExpiry => exact opposed_replyWait h
  case drawingWaitExpiry => exact opposed_drawingExpiry h
  case probeIntervalExpiry => exact opposed_intervalExpiry h
  case retryWaitExpiry => exact opposed_retryExpiry h
  case unknownReprobeDelay => exact opposed_probeTimerExpiry _ _ h
  case offlineProbeTimerExpiry => exact opposed_probeTimerExpiry _ _ h
  case coldProbeTimerExpiry => exact opposed_probeTimerExpiry _ _ h
  case railIdleExpiry => exact opposed_railIdleExpiry h
  case raiseSettleExpiry => exact opposed_raiseSettled h
  case loweringComplete => exact opposed_drainFirst h
  case staleTimerExpiry => exact opposed_staleExpiry h
  case fieldInputEdge => exact opposed_filteredChange _ _ h
  case filterInitialLevel => exact opposed_firstTaking _ _ h
  case demandTimerExpiry => exact opposed_demandExpiry h
  case briefEpisodeStart => exact opposed_judgeBriefStart h
  case returnTimerExpiry => exact opposed_returnExpiry h
  case briefEpisodeReturn => exact opposed_returnFirst h

/-! ### Requests, frames and the step -/

theorem opposed_takeRequest (k g : Byte) {rule : State → State × Answer}
    (hrule : ∀ {s}, TogglesOpposed s → TogglesOpposed (rule s).1) (h : TogglesOpposed s) :
    TogglesOpposed (takeRequest k g rule s) :=
  (opposed_settle (hrule ((stores_beginTaking s).opposed h))).of_panels rfl

theorem opposed_takeRow (c : Instr) (h : TogglesOpposed s) : TogglesOpposed (takeRow c s) := by
  unfold takeRow
  split
  next hr => exact opposed_takeRequest _ _ (opposed_ownerRule hr) h
  next => exact h

theorem opposed_takeFrame (f : Frame) (h : TogglesOpposed s) : TogglesOpposed (takeFrame f s) := by
  refine opposed_takeRequest _ _ (fun {u} hu => ?_) h
  unfold frameRule
  split
  · cases hr : (readBody f.kind f.body).bind ownerRule with
    | none => exact hu
    | some rule =>
      obtain ⟨c, _, hc⟩ := Option.bind_eq_some_iff.mp hr
      exact opposed_ownerRule hc hu
  · exact hu

theorem opposed_arrived (a : Arrival) {take : State → State}
    (htake : ∀ {s}, TogglesOpposed s → TogglesOpposed (take s)) (h : TogglesOpposed s) :
    TogglesOpposed (arrived a take s) := by
  unfold arrived
  split
  · exact htake h
  · split
    · exact h
    · exact h

theorem opposed_replyEnded (h : TogglesOpposed s) : TogglesOpposed (replyEnded s) := by
  unfold replyEnded
  split
  · exact h
  · split
    · exact opposed_restartAt _ _
    · split
      · exact h
      · exact opposed_takeFrame _ h
      · exact opposed_takeRow _ h

theorem opposed_byteReceived (b : Byte) (h : TogglesOpposed s) : TogglesOpposed (byteReceived b s) := by
  unfold byteReceived
  split
  · split
    · exact h
    · exact h
  next bytes _ =>
    unfold frameByte
    split
    · exact h
    · split
      · cases checkedFrame (bytes ++ [b]) with
        | none => exact h
        | some f => exact opposed_arrived _ (opposed_takeFrame f) h
      · exact h

theorem opposed_lineRule {c : Instr} {f : State → State} (hc : lineRule c = some f) (h : TogglesOpposed s) :
    TogglesOpposed (f s) := by
  cases c <;> cases hc
  case frameComplete => exact opposed_arrived _ (opposed_takeFrame _) h
  case interByteGap => exact h
  case replySent => exact opposed_replyEnded h
  case hostByteReceived b => exact opposed_byteReceived b h

theorem opposed_whenOn {f : State → State} (hf : ∀ {s}, TogglesOpposed s → TogglesOpposed (f s))
    (h : TogglesOpposed s) : TogglesOpposed (whenOn f s) := by
  unfold whenOn
  split
  · exact hf h
  · exact h

theorem opposed_exec {c : Instr} (he : exec c s = .next t) (h : TogglesOpposed s) : TogglesOpposed t := by
  rcases command_cases c with ⟨rule, hr⟩ | ⟨f, hf⟩ | ⟨f, hf⟩ | ⟨f, hf⟩
  · rw [exec_of_ownerRule hr] at he
    cases he
    exact opposed_whenOn (opposed_arrived _ (opposed_takeRow c)) h
  · rw [exec_of_eventRule hf] at he
    cases he
    exact opposed_whenOn (fun hu => opposed_settle (opposed_eventRule hf hu)) h
  · rw [exec_of_lineRule hf] at he
    cases he
    exact opposed_whenOn (opposed_lineRule hf) h
  · rw [exec_of_supplyRule hf] at he
    cases he
    exact opposed_supplyRule hf h

end

/-- Settles O58: on an empty queue the millisecond writes no toggle; every command writes the two of a record together, as a
panel reported the one, or makes both unknown. -/
theorem stepKeepsTogglesOpposed : Obligations.StepKeepsTogglesOpposed := by
  intro s t h hs
  cases hp : s.pending with
  | nil =>
    rw [step_of_empty hp] at hs
    cases hs
    exact opposed_millisecond h
  | cons c rest =>
    rw [step_of_pending hp] at hs
    have hrest : TogglesOpposed { s with pending := rest } := h
    exact opposed_exec hs hrest

end Sys2Proof.Machine
end

section
/-! SUPPORT. The operations of the boards, of the panel line, and of the requests that load, sell and configure, which leave the
Energy Manager alone. -/

namespace Sys2Proof.Machine

/-! ### Refreshes, the slot and the demand timer -/

@[simp] theorem requestRefresh_enm (urgent : Bool) (s : State) (a : Addr) : (requestRefresh urgent s a).enm = s.enm := by
  rw [requestRefresh_state]

@[simp] theorem requestEach_enm (want : Profile → Option Bool) (s : State) : (requestEach want s).enm = s.enm := by
  rw [requestEach_state]

@[simp] theorem decideSales_enm (s : State) : (decideSales s).enm = s.enm := enm_decideSales s

@[simp] theorem withdraw_enm (why : Withdrawal) (s : State) : (withdraw why s).enm = s.enm := enm_withdraw why s

@[simp] theorem keepMessages_enm (f : HostEntry → Bool) (g : AutoEntry → Bool) (s : State) :
    (keepMessages f g s).enm = s.enm := by
  obtain ⟨p, hp⟩ := keepMessages_eq f g s
  rw [hp]

@[simp] theorem putSlot_enm (slot : Slot) (s : State) : (putSlot slot s).enm = s.enm := by
  obtain ⟨timer, ht⟩ := putSlot_state slot s
  rw [ht]

@[simp] theorem offerSold_enm (date : Date) (number quantity : Nat) (s : State) :
    (offerSold date number quantity s).enm = s.enm := by rw [offerSold_state]

@[simp] theorem evaluateThresholds_enm (s : State) : (evaluateThresholds s).enm = s.enm := by rw [evaluateThresholds_eq]

@[simp] theorem reportFree_enm (s : State) : (reportFree s).enm = s.enm := by simp [reportFree]

/-- A fold of operations that leave the Energy Manager alone. -/
theorem foldl_enm {α : Type} {f : State → α → State} (hf : ∀ s a, (f s a).enm = s.enm) (l : List α) (s : State) :
    (l.foldl f s).enm = s.enm := by
  induction l generalizing s with
  | nil => rfl
  | cons a l ih => exact (ih (f s a)).trans (hf s a)

/-! ### The panel line (R131 to R143) -/

@[simp] theorem beginTransaction_enm (a : Addr) (w : Work) (p : LinePhase) (s : State) :
    (beginTransaction a w p s).enm = s.enm := by
  unfold beginTransaction
  dsimp only
  split_ifs <;> rfl

@[simp] theorem endTransaction_enm (s : State) : (endTransaction s).enm = s.enm := by
  unfold endTransaction
  dsimp only
  split
  · rfl
  · split_ifs <;> rfl
  · rfl

@[simp] theorem goOffline_enm (a : Addr) (s : State) : (goOffline a s).enm = s.enm := rfl

@[simp] theorem goCold_enm (a : Addr) (s : State) : (goCold a s).enm = s.enm := rfl

@[simp] theorem startProbe_enm (a : Addr) (s : State) : (startProbe a s).enm = s.enm := by simp [startProbe]

@[simp] theorem startRefresh_enm (a : Addr) (page : Page) (s : State) : (startRefresh a page s).enm = s.enm := by
  unfold startRefresh
  dsimp only
  split_ifs <;> simp

@[simp] theorem serve_enm (a : Addr) (s : State) : (serve a s).enm = s.enm := by
  have hsettled : (if (s.bdc.profiles.get a).kind = .messages then settlePosition s else s).enm = s.enm := by
    split <;> rfl
  unfold serve
  dsimp only
  generalize (if (s.bdc.profiles.get a).kind = .messages then settlePosition s else s) = u at hsettled ⊢
  split_ifs
  · exact hsettled
  · rw [startRefresh_enm]
    exact hsettled

@[simp] theorem failAttempt_enm (silent : Bool) (t : Transaction) (s : State) : (failAttempt silent t s).enm = s.enm := by
  unfold failAttempt
  dsimp only
  split_ifs <;> simp

@[simp] theorem probeAgain_enm (silent : Bool) (t : Transaction) (r : Refresh) (left : Nat) (s : State) :
    (probeAgain silent t r left s).enm = s.enm := by
  unfold probeAgain stuck
  split_ifs <;> simp

@[simp] theorem takeShow_enm (t : Transaction) (r : Refresh) (s : State) : (takeShow t r s).enm = s.enm := by
  unfold takeShow
  dsimp only
  split_ifs <;> simp

@[simp] theorem takeDrawingState_enm (t : Transaction) (r : Refresh) (left : Nat) (toggle busy : Bool) (s : State) :
    (takeDrawingState t r left toggle busy s).enm = s.enm := by
  unfold takeDrawingState
  dsimp only
  split_ifs <;> simp

@[simp] theorem resynchronise_enm (a : Addr) (toggle : Bool) (t : Int) (s : State) :
    (resynchronise a toggle t s).enm = s.enm := by
  unfold resynchronise
  dsimp only
  split_ifs <;> simp

@[simp] theorem takeColdState_enm (a : Addr) (toggle : Bool) (t : Int) (s : State) :
    (takeColdState a toggle t s).enm = s.enm := by
  unfold takeColdState
  dsimp only
  split_ifs <;> simp

@[simp] theorem takeProbeState_enm (a : Addr) (toggle : Bool) (t : Int) (s : State) :
    (takeProbeState a toggle t s).enm = s.enm := by
  unfold takeProbeState
  split <;> simp

@[simp] theorem applyAnswer_enm (t : Transaction) (answer : PanelAnswer) (s : State) :
    (applyAnswer t answer s).enm = s.enm := by
  unfold applyAnswer takeFault
  split <;> simp

@[simp] theorem takeAnswer_enm (t : Transaction) (answer : PanelAnswer) (s : State) :
    (takeAnswer t answer s).enm = s.enm := by
  unfold takeAnswer
  split_ifs <;> simp

@[simp] theorem refreshSilent_enm (t : Transaction) (r : Refresh) (s : State) : (refreshSilent t r s).enm = s.enm := by
  unfold refreshSilent
  split <;> simp

@[simp] theorem takeSilence_enm (t : Transaction) (s : State) : (takeSilence t s).enm = s.enm := by
  unfold takeSilence probeSilent
  dsimp only
  split_ifs
  · simp
  · simp
  · split <;> simp

@[simp] theorem replyWait_enm (s : State) : (replyWait s).enm = s.enm := by
  unfold replyWait
  split
  · split_ifs <;> simp
  · rfl

@[simp] theorem panelReplied_enm (source : Addr) (ok : Bool) (answer : PanelAnswer) (s : State) :
    (panelReplied source ok answer s).enm = s.enm := by
  unfold panelReplied
  split
  · split_ifs <;> simp
  · rfl

@[simp] theorem drawingExpiry_enm (s : State) : (drawingExpiry s).enm = s.enm := by
  unfold drawingExpiry
  split <;> rfl

@[simp] theorem intervalExpiry_enm (s : State) : (intervalExpiry s).enm = s.enm := by
  unfold intervalExpiry
  split <;> rfl

@[simp] theorem retryExpiry_enm (s : State) : (retryExpiry s).enm = s.enm := by
  unfold retryExpiry
  split <;> rfl

@[simp] theorem firstFrame_enm (t : Transaction) (s : State) : (firstFrame t s).enm = s.enm := by
  unfold firstFrame
  split <;> rfl

@[simp] theorem railSettled_enm (s : State) : (railSettled s).enm = s.enm := by
  unfold railSettled
  split
  · dsimp only
    split
    · split_ifs <;> simp
    · rfl
  · rfl

@[simp] theorem railIdleExpiry_enm (s : State) : (railIdleExpiry s).enm = s.enm := by
  unfold railIdleExpiry
  split_ifs <;> rfl

@[simp] theorem probeTimerExpiry_enm (link : LinkState) (a : Addr) (s : State) :
    (probeTimerExpiry link a s).enm = s.enm := by
  unfold probeTimerExpiry
  dsimp only
  split_ifs <;> rfl

@[simp] theorem panelAbsent_enm (a : Addr) (s : State) : (panelAbsent a s).enm = s.enm := by
  rw [panelAbsent, (discardTransaction_state a _).1]
  rfl

@[simp] theorem serveFirst_enm (s : State) : (serveFirst s).enm = s.enm := by
  unfold serveFirst
  split <;> simp

@[simp] theorem probeFirst_enm (s : State) : (probeFirst s).enm = s.enm := by
  unfold probeFirst
  cases probeReady s <;> simp

@[simp] theorem panelResetRule_enm (n : Nat) (s : State) : (panelResetRule n s).1.enm = s.enm := by
  unfold panelResetRule
  split
  · rfl
  · dsimp only
    split_ifs <;> rfl

/-! ### The boards (R111 to R122) -/

@[simp] theorem removeHost_enm (f : HostEntry → Bool) (s : State) : (removeHost f s).enm = s.enm := by
  unfold removeHost requestKind
  dsimp only
  split_ifs <;> simp

@[simp] theorem tableEvent_enm (s : State) : (tableEvent s).enm = s.enm := by simp [tableEvent]

@[simp] theorem boardsRollover_enm (s : State) : (boardsRollover s).enm = s.enm := by simp [boardsRollover, requestAll]

@[simp] theorem changeEvent_enm (old new : Service) (s : State) (c : ChangeCause) :
    (changeEvent old new s c).enm = s.enm := by
  cases c
  case cancel =>
    unfold changeEvent
    dsimp only
    split_ifs
    · rw [requestEach_enm]
      rfl
    · exact requestEach_enm _ s
  all_goals simp [changeEvent]

@[simp] theorem changeEvents_enm (s : State) (p : Service × Service) : (changeEvents s p).enm = s.enm :=
  foldl_enm (changeEvent_enm p.1 p.2) _ s

@[simp] theorem changeProfile_enm (a : Addr) (p : Profile) (s : State) : (changeProfile a p s).enm = s.enm := by
  unfold changeProfile panelPresent
  dsimp only
  split
  · simp
  · simp
  · split_ifs <;> simp
  · rfl

@[simp] theorem panelProfileRule_enm (n : Nat) (presence : Option (Coded Bool)) (k : Option (Coded PanelKind))
    (rows : Option Nat) (f : Option (Coded DirFilter)) (th : Option Nat) (s : State) :
    (panelProfileRule n presence k rows f th s).1.enm = s.enm := by
  unfold panelProfileRule
  split
  · rfl
  · split_ifs <;> simp

@[simp] theorem addHost_enm (id : Nat) (p : MsgPriority) (lines : List Text) (expiry : Option Nat) (kept : List HostEntry)
    (s : State) : (addHost id p lines expiry kept s).enm = s.enm := by simp [addHost, requestKind]

@[simp] theorem boardTextRule_enm (id : Nat) (p : Coded MsgPriority) (lines : List Text) (expiry : Option Nat) (s : State) :
    (boardTextRule id p lines expiry s).1.enm = s.enm := by
  have hplaced (k : MsgPriority) : (placeHost id k lines expiry s).1.enm = s.enm := by
    unfold placeHost
    dsimp only
    split_ifs
    · simp
    · simp
    · split <;> simp
  unfold boardTextRule
  split
  · rfl
  · split_ifs <;> simp [hplaced]

@[simp] theorem boardTextDropRule_enm (id : Option Nat) (s : State) : (boardTextDropRule id s).1.enm = s.enm := by
  unfold boardTextDropRule
  dsimp only
  split_ifs <;> simp

@[simp] theorem boardRefreshRule_enm (n : Option Nat) (u : Coded Bool) (s : State) :
    (boardRefreshRule n u s).1.enm = s.enm := by
  unfold boardRefreshRule requestAll
  split
  · rfl
  · simp
  · split
    · rfl
    · split_ifs <;> simp

@[simp] theorem accrualExpiry_enm (s : State) : (accrualExpiry s).enm = s.enm := by
  unfold accrualExpiry
  split_ifs <;> rfl

@[simp] theorem rotationExpiry_enm (s : State) : (rotationExpiry s).enm = s.enm := by
  unfold rotationExpiry requestKind
  split_ifs <;> simp

/-! ### Tables and tariffs loaded, and the journal -/

@[simp] theorem tableOpenRule_enm (date : Date) (k : Coded DayType) (a b v : Nat) (s : State) :
    (tableOpenRule date k a b v s).1.enm = s.enm := by
  unfold tableOpenRule
  split
  · rfl
  · split_ifs <;> rfl

@[simp] theorem tableAddRule_enm (number : Nat) (d : Coded Direction) (minute platform : Nat) (calls : List Nat) (s : State) :
    (tableAddRule number d minute platform calls s).1.enm = s.enm := by
  unfold tableAddRule
  repeat' split
  all_goals rfl

@[simp] theorem tableCloseRule_enm (s : State) : (tableCloseRule s).1.enm = s.enm := by
  unfold tableCloseRule
  split <;> rfl

@[simp] theorem tariffOpenRule_enm (v : Nat) (date : Date) (s : State) : (tariffOpenRule v date s).1.enm = s.enm := by
  unfold tariffOpenRule
  split_ifs <;> rfl

@[simp] theorem tariffStationRule_enm (code : Nat) (name : Text) (distance : Nat) (side : Coded Direction) (s : State) :
    (tariffStationRule code name distance side s).1.enm = s.enm := by
  unfold tariffStationRule
  repeat' split
  all_goals rfl

@[simp] theorem tariffRulesRule_enm (rules : Rules) (s : State) : (tariffRulesRule rules s).1.enm = s.enm := by
  unfold tariffRulesRule
  repeat' split
  all_goals rfl

@[simp] theorem activate_enm (t : Tariff) (s : State) : (activate t s).enm = s.enm := by simp [activate, namesEvent]

@[simp] theorem tfeRollover_enm (entered : Date) (s : State) : (tfeRollover entered s).enm = s.enm := by
  unfold tfeRollover
  cases tariffDue entered s <;> simp

@[simp] theorem slotAndTariff_enm (entered : Date) (s : State) : (slotAndTariff entered s).enm = s.enm := by
  obtain ⟨n, hn | hn⟩ := slotAndTariff_cases entered s <;> simp [hn]

@[simp] theorem tariffCloseRule_enm (s : State) : (tariffCloseRule s).1.enm = s.enm := by
  unfold tariffCloseRule
  split
  · rfl
  · split
    · rfl
    · split
      · rfl
      · split
        · exact activate_enm _ s
        · rfl

@[simp] theorem journalReadRule_enm (a b : Nat) (s : State) : (journalReadRule a b s).1.enm = s.enm := by
  unfold journalReadRule
  dsimp only
  split_ifs <;> rfl

@[simp] theorem journalReleaseRule_enm (n : Nat) (s : State) : (journalReleaseRule n s).1.enm = s.enm := by
  unfold journalReleaseRule
  dsimp only
  split
  · rfl
  · split
    · rfl
    · split
      · rfl
      · split
        · rfl
        · exact reportFree_enm _

@[simp] theorem journalSettingsRule_enm (low : Option Nat) (s : State) : (journalSettingsRule low s).1.enm = s.enm := by
  unfold journalSettingsRule
  dsimp only
  split
  · rfl
  · split_ifs <;> simp

/-! ### The sales (R75 to R92) -/

@[simp] theorem saleSettingsRule_enm (k : Option (List (Coded Payment))) (t : Option (List (Coded TicketType))) (s : State) :
    (saleSettingsRule k t s).1.enm = s.enm := by
  unfold saleSettingsRule
  split <;> rfl

@[simp] theorem quoteBound_enm (t : Tariff) (code : Nat) (k : TicketType) (cls q : Nat) (v : Option Service) (s : State) :
    (quoteBound t code k cls q v s).1.enm = s.enm := by
  unfold quoteBound formQuote
  dsimp only
  split <;> simp

@[simp] theorem quoteFrom_enm (t : Tariff) (code : Nat) (k : TicketType) (cls q : Nat) (sel : ServiceSel) (n : Option Nat)
    (s : State) : (quoteFrom t code k cls q sel n s).1.enm = s.enm := by
  unfold quoteFrom
  split_ifs
  · rfl
  · rfl
  · split <;> simp

@[simp] theorem saleQuoteRule_enm (code : Nat) (k : Coded TicketType) (cls q : Nat) (sel : Coded ServiceSel) (n : Option Nat)
    (s : State) : (saleQuoteRule code k cls q sel n s).1.enm = s.enm := by
  unfold saleQuoteRule
  split
  · split
    · rfl
    · split
      · rfl
      · split_ifs
        · rfl
        · rfl
        · rfl
        · rfl
        · exact quoteFrom_enm _ _ _ _ _ _ _ s
  · rfl

@[simp] theorem saleCommitRule_enm (p : Coded Payment) (r : Option Text) (s : State) :
    (saleCommitRule p r s).1.enm = s.enm := by
  unfold saleCommitRule commit
  split
  · rfl
  · split
    · rfl
    · split
      · split
        · rfl
        · split
          · rfl
          · split
            · rfl
            · split_ifs <;> simp
      · rfl

@[simp] theorem conclude_enm (x : Sale) (k : RecordKind) (s : State) : (conclude x k s).enm = s.enm := by
  unfold conclude append
  dsimp only
  split
  · split_ifs <;> simp
  · simp

@[simp] theorem salePrintedRule_enm (n : Nat) (o : Coded PrintOutcome) (s : State) :
    (salePrintedRule n o s).1.enm = s.enm := by
  unfold salePrintedRule
  split
  · rfl
  · split_ifs
    · rfl
    · split
      · split_ifs <;> simp
      · rfl

@[simp] theorem saleCancelRule_enm (s : State) : (saleCancelRule s).1.enm = s.enm := by
  unfold saleCancelRule
  split <;> simp

@[simp] theorem printExpiry_enm (s : State) : (printExpiry s).enm = s.enm := by
  unfold printExpiry
  split <;> simp

@[simp] theorem statusEvent_enm (s : State) (p : Service × Service) : (statusEvent s p).enm = s.enm := by
  unfold statusEvent
  split_ifs
  · split
    · split_ifs <;> simp
    · rfl
  · rfl

/-! ### Notices, the field inputs and the wakes -/

@[simp] theorem noticeClearRule_enm (l : List Nat) (s : State) : (noticeClearRule l s).1.enm = s.enm := by
  have hcleared (l : List Nat) : (l.foldl clearNotice s).enm = s.enm := foldl_enm (f := clearNotice) (fun _ _ => rfl) l s
  unfold noticeClearRule
  dsimp only
  split_ifs <;> simp [hcleared]

@[simp] theorem noticeConfigRule_enm (l : List NoticeField) (d : Option (Coded DoorSense)) (s : State) :
    (noticeConfigRule l d s).1.enm = s.enm := by
  have hstored : (l.foldl storeNotice s).enm = s.enm := foldl_enm (f := storeNotice) (fun _ _ => rfl) l s
  unfold noticeConfigRule storeDoorSense
  dsimp only
  split_ifs <;> simp [hstored]

@[simp] theorem wakeConfigRule_enm (f : WakeFields) (s : State) : (wakeConfigRule f s).1.enm = s.enm := by
  unfold wakeConfigRule
  dsimp only
  split_ifs <;> rfl

@[simp] theorem firstTaking_enm (i : FieldInput) (high : Bool) (s : State) : (firstTaking i high s).enm = s.enm := by
  unfold firstTaking
  dsimp only
  split_ifs <;> rfl

@[simp] theorem returnExpiry_enm (s : State) : (returnExpiry s).enm = s.enm := by
  unfold returnExpiry
  split <;> rfl

end Sys2Proof.Machine
end

section
/-! SUPPORT. The present level at the target (R156): every operation that moves one of the two or a transition ends with the target
computed again, up to the step; and StepKeepsLevelAtTarget. -/

namespace Sys2Proof.Machine

/-! ### What computes the target, and the reactions -/

/-- The level table, the limits, the demand, the brief flag and the tables decide the target (R155). -/
theorem computeTarget_congr {s t : State} (he : t.enm = s.enm) (ha : t.awu = s.awu) (ht : t.tts = s.tts) :
    computeTarget t = computeTarget s := by
  unfold computeTarget clampedDemand highestEnabled levelEnabled levelEntry activeLimits approachCondition
  rw [he, ha, ht]

/-- An operation computes the target as its last act on levels, or leaves alone the Energy Manager and what the target is
computed from. -/
def Steers (s t : State) : Prop := (∃ v, t = retarget v) ∨ (t.enm = s.enm ∧ computeTarget t = computeTarget s)

theorem steers_retarget (s v : State) : Steers s (retarget v) := .inl ⟨v, rfl⟩

theorem steers_judgeBriefStart {s t : State} (h : t.enm = s.enm ∧ computeTarget t = computeTarget s) :
    Steers s (judgeBriefStart t) := by
  rw [judgeBriefStart_eq]
  split
  · exact steers_retarget s _
  · exact .inr h

theorem steers_setCold {s t : State} (l : Option Level) (h : t.enm = s.enm ∧ computeTarget t = computeTarget s) :
    Steers s (setCold l t) := by
  unfold setCold
  split
  · exact .inr h
  · exact steers_retarget s _

theorem beginTransaction_awu (a : Addr) (w : Work) (p : LinePhase) (s : State) : (beginTransaction a w p s).awu = s.awu := by
  unfold beginTransaction
  dsimp only
  split_ifs <;> rfl

theorem serve_awu (a : Addr) (s : State) : (serve a s).awu = s.awu := by
  have hsettled : (if (s.bdc.profiles.get a).kind = .messages then settlePosition s else s).awu = s.awu := by
    split <;> rfl
  unfold serve startRefresh
  dsimp only
  generalize (if (s.bdc.profiles.get a).kind = .messages then settlePosition s else s) = u at hsettled ⊢
  split_ifs
  · exact hsettled
  · exact hsettled
  · exact (beginTransaction_awu _ _ _ _).trans hsettled

/-- Every reaction does one or the other (R126, R132, R142, R159, R174). -/
theorem steers_react {s t : State} (h : react s = some t) : Steers s t := by
  unfold react at h
  split at h
  · cases h
    unfold reportUrgent
    dsimp only
    split
    · exact steers_judgeBriefStart ⟨rfl, rfl⟩
    · exact .inr ⟨rfl, rfl⟩
  split at h
  · cases h
    exact steers_setCold _ ⟨rfl, rfl⟩
  split at h
  next a _ =>
    cases h
    exact .inr ⟨startProbe_enm a s,
      computeTarget_congr (startProbe_enm a s) (beginTransaction_awu _ _ _ _) (reacted_startProbe a s).tts⟩
  next e _ _ =>
    cases h
    exact .inr ⟨serve_enm _ s, computeTarget_congr (serve_enm _ s) (serve_awu _ s) (reacted_serve _ s).tts⟩
  · split at h
    · cases h
      exact steers_retarget s _
    · obtain ⟨d, -, rfl⟩ := Option.map_eq_some_iff.mp h
      exact steers_retarget s _

/-- What each reaction keeps, a taking's end keeps. -/
theorem settle_induction {P : State → Prop} (hreact : ∀ {s t}, react s = some t → P s → P t)
    (hrotation : ∀ s, P s → P (restartRotation s)) {s : State} (h : P s) : P (settle s) := by
  have hloop : ∀ n s, P s → P (settleLoop n s) := by
    intro n
    induction n with
    | zero => exact fun _ h => h
    | succ n ih =>
      intro s h
      unfold settleLoop
      cases hr : react s with
      | none => exact h
      | some t => exact ih t (hreact hr h)
  unfold settle followRotation
  split
  · exact hloop _ s h
  · exact hrotation _ (hloop _ s h)

/-- The target stands as computed through what a taking brings about. -/
theorem targetTold_settle {s : State} (h : TargetTold s) : TargetTold (settle s) := by
  refine settle_induction (fun {s t} hr h => ?_) (fun _ h => h) h
  rcases steers_react hr with ⟨v, rfl⟩ | ⟨henm, htarget⟩
  · exact targetTold_retarget v
  · rw [TargetTold, henm, htarget]
    exact h

section
variable {s t : State}

/-- The invariant speaks of the Energy Manager alone. -/
theorem LevelAtTarget.of_enm (h : LevelAtTarget s) (he : t.enm = s.enm) : LevelAtTarget t := by
  rw [LevelAtTarget, he]
  exact h

theorem Steers.atTarget (hs : Steers s t) (h : LevelAtTarget s) : LevelAtTarget t := by
  rcases hs with ⟨v, rfl⟩ | ⟨henm, -⟩
  · exact levelAtTarget_retarget v
  · exact h.of_enm henm

theorem LevelAtTarget.foldl {α : Type} {f : State → α → State} (hf : ∀ {s} a, LevelAtTarget s → LevelAtTarget (f s a))
    (l : List α) (h : LevelAtTarget s) : LevelAtTarget (l.foldl f s) := by
  induction l generalizing s with
  | nil => exact h
  | cons a l ih => exact ih (hf a h)

theorem atTarget_settle (h : LevelAtTarget s) : LevelAtTarget (settle s) :=
  settle_induction (fun hr => (steers_react hr).atTarget) (fun _ h => h) h

theorem atTarget_judgeBriefStart (h : LevelAtTarget s) : LevelAtTarget (judgeBriefStart s) :=
  (steers_judgeBriefStart ⟨rfl, rfl⟩).atTarget h

/-- A completion ends with the target compared again (R156, R160). -/
theorem atTarget_completeAt (d : Level) (s : State) : LevelAtTarget (completeAt d s) := levelAtTarget_retarget _

/-! ### Activity, wakes and the field inputs -/

theorem atTarget_activity (s : State) : LevelAtTarget (activity s) := by
  unfold activity
  dsimp only
  split <;> exact levelAtTarget_retarget _

theorem atTarget_wake (source : WokeSource) (edge : Option Edge) (s : State) : LevelAtTarget (wake source edge s) := by
  have h := atTarget_activity s
  cases source <;> exact h

theorem atTarget_internalEvent (flag : Bool) (source : WokeSource) (h : LevelAtTarget s) :
    LevelAtTarget (internalEvent flag source s) := by
  unfold internalEvent
  split
  · exact atTarget_wake _ _ s
  · exact h

theorem atTarget_inputEvent (i : FieldInput) (high : Bool) (h : LevelAtTarget s) : LevelAtTarget (inputEvent i high s) := by
  have hwoken := atTarget_wake (.field i) (some (if high then .rising else .falling)) s
  unfold inputEvent
  dsimp only
  split
  · split <;> exact hwoken
  · split
    · exact atTarget_activity s
    · exact h

theorem atTarget_filteredChange (i : FieldInput) (high : Bool) (h : LevelAtTarget s) :
    LevelAtTarget (filteredChange i high s) := by
  have hdoor : LevelAtTarget (doorChange i high { s with awu.filtered := fiveSet s.awu.filtered i (some high) }) := by
    unfold doorChange
    split <;> exact h
  have hpassed {u : State} (hu : LevelAtTarget u) :
      LevelAtTarget (if i = .call then { u with awu.lock := passLock high u.awu.lock } else u) := by
    split <;> exact hu
  have hadmitted (admitted : Bool) {u : State} (hu : LevelAtTarget u) :
      LevelAtTarget (if admitted then inputEvent i high u else u) := by
    split
    · exact atTarget_inputEvent i high hu
    · exact hu
  unfold filteredChange
  split
  · exact hadmitted _ (hpassed hdoor)
  · exact h

/-! ### Services, tables and the clock -/

theorem atTarget_approachStart (p : Service × Service) (h : LevelAtTarget s) : LevelAtTarget (approachStart s p) := by
  unfold approachStart
  split
  · exact atTarget_internalEvent _ _ (atTarget_activity s)
  · exact h

theorem atTarget_handOn (pairs : List (Service × Service)) (s : State) : LevelAtTarget (handOn pairs s) := by
  have hstarts := LevelAtTarget.foldl atTarget_approachStart pairs (levelAtTarget_retarget s)
  exact (hstarts.of_enm (foldl_enm statusEvent_enm pairs _)).of_enm (foldl_enm changeEvents_enm pairs _)

theorem atTarget_minuteEvaluation (now : Nat) (h : LevelAtTarget s) : LevelAtTarget (minuteEvaluation now s) := by
  unfold minuteEvaluation
  split
  · exact h
  · exact atTarget_handOn _ _

theorem atTarget_evaluateNow (h : LevelAtTarget s) : LevelAtTarget (evaluateNow s) := by
  unfold evaluateNow
  cases nowMinute s with
  | none => exact h
  | some m => exact atTarget_minuteEvaluation m h

theorem atTarget_runningRule (number stamp : Nat) (kind : Coded RunKind) (arg : Int) (h : LevelAtTarget s) :
    LevelAtTarget (runningRule number stamp kind arg s).1 := by
  unfold runningRule
  split
  · exact h
  · split
    · exact h
    · split
      · exact h
      · split
        · exact h
        · split_ifs
          · exact h
          · exact h
          · exact atTarget_handOn _ _

theorem atTarget_placeCurrent (c : Option CurrentTable) (s : State) : LevelAtTarget (placeCurrent c s) :=
  (levelAtTarget_retarget _).of_enm (tableEvent_enm _)

theorem atTarget_ttsRollover (entered : Date) (cause : RolloverCause) (h : LevelAtTarget s) :
    LevelAtTarget (ttsRollover entered cause s) := by
  have hempty (u : State) : LevelAtTarget (emptyCurrent u) := atTarget_placeCurrent none u
  unfold ttsRollover rolloverTables
  split
  · exact h.of_enm (tableEvent_enm s)
  · split
    · exact hempty s
    · split_ifs
      · exact hempty s
      · exact atTarget_placeCurrent _ _
      · exact hempty _
      · exact hempty s

theorem atTarget_tablePromoteRule (version : Nat) (h : LevelAtTarget s) : LevelAtTarget (tablePromoteRule version s).1 := by
  unfold tablePromoteRule
  split
  · split_ifs
    · exact h
    · exact h
    · exact h
    · exact atTarget_evaluateNow (atTarget_placeCurrent _ _)
  · exact h

theorem atTarget_serviceSettingsRule (g w m : Option Nat) (h : LevelAtTarget s) :
    LevelAtTarget (serviceSettingsRule g w m s).1 := by
  unfold serviceSettingsRule
  dsimp only
  split_ifs
  · exact h
  · exact h
  · exact atTarget_evaluateNow h

theorem atTarget_setQuiet (l : Option Level) (h : LevelAtTarget s) : LevelAtTarget (setQuiet l s) := by
  unfold setQuiet
  split
  · exact h
  · exact levelAtTarget_retarget _

theorem atTarget_quietOnMinute (h : LevelAtTarget s) : LevelAtTarget (quietOnMinute s) := by
  unfold quietOnMinute
  dsimp only
  split
  · exact atTarget_internalEvent _ _ (atTarget_setQuiet _ h)
  · exact atTarget_setQuiet _ h

theorem atTarget_minuteEvent (e : MinuteEvent) (h : LevelAtTarget s) : LevelAtTarget (minuteEvent e s) :=
  atTarget_quietOnMinute ((atTarget_minuteEvaluation e.minute h).of_enm (removeHost_enm _ _))

theorem atTarget_enterDate (c : ClockSetting) (left : Option Date) (day : RolloverCause) (m : MinuteCause)
    (h : LevelAtTarget s) : LevelAtTarget (enterDate c left day m s) := by
  have htables := atTarget_ttsRollover c.date day h
  have hboards := (htables.of_enm (slotAndTariff_enm c.date _)).of_enm (boardsRollover_enm _)
  exact atTarget_minuteEvent _ (atTarget_internalEvent _ _ hboards)

/-- The unset signal clears the approach flags with a target computed. -/
theorem atTarget_unsetClock (s : State) : LevelAtTarget (unsetClock s) := by
  have htts : LevelAtTarget (ttsUnset { s with clock := none }) := levelAtTarget_retarget _
  exact atTarget_setQuiet _ (htts.of_enm (decideSales_enm _))

theorem atTarget_clockSecondEvent (h : LevelAtTarget s) : LevelAtTarget (clockSecondEvent s) := by
  cases hc : s.clock with
  | none => rwa [clockSecondEvent_unset hc]
  | some c =>
    rw [clockSecondEvent_set hc]
    unfold clockTick
    dsimp only
    split_ifs
    · exact atTarget_minuteEvent _ h
    · exact h
    · exact atTarget_enterDate _ _ _ _ h
    · exact atTarget_unsetClock s

theorem atTarget_clockSetRule (y mo d hh mi sec : Nat) (h : LevelAtTarget s) :
    LevelAtTarget (clockSetRule y mo d hh mi sec s).1 := by
  have hlamp (c : ClockSetting) : LevelAtTarget (setLamp (placeClock c s)) := h
  unfold clockSetRule
  dsimp only
  split
  · exact h
  · split
    · exact atTarget_enterDate _ _ _ _ ((hlamp _).of_enm (decideSales_enm _))
    · unfold stepClock
      dsimp only
      split_ifs
      · exact h
      · exact h
      · exact atTarget_minuteEvent _ h
      · exact atTarget_enterDate _ _ _ _ h

/-! ### Limits, ceiling, demand and the ends of the transitions -/

theorem atTarget_setBattery (l : Option Level) (h : LevelAtTarget s) : LevelAtTarget (setBattery l s) := by
  unfold setBattery
  dsimp only
  split_ifs
  · exact h
  · exact levelAtTarget_retarget _
  · exact levelAtTarget_retarget _
  · exact atTarget_judgeBriefStart (levelAtTarget_retarget _)
  · exact levelAtTarget_retarget _

theorem atTarget_staleExpiry (h : LevelAtTarget s) : LevelAtTarget (staleExpiry s) := by
  unfold staleExpiry
  split
  · exact h
  · exact atTarget_setBattery _ h

theorem atTarget_demandExpiry (h : LevelAtTarget s) : LevelAtTarget (demandExpiry s) := by
  unfold demandExpiry
  split
  · exact levelAtTarget_retarget _
  · exact h

theorem atTarget_raiseSettled (h : LevelAtTarget s) : LevelAtTarget (raiseSettled s) := by
  unfold raiseSettled
  split
  · exact atTarget_completeAt _ s
  · exact h

theorem atTarget_drainFirst (h : LevelAtTarget s) : LevelAtTarget (drainFirst s) := by
  unfold drainFirst
  cases drainReady s with
  | none => exact h
  | some d => exact atTarget_completeAt d _

theorem atTarget_returnFirst (h : LevelAtTarget s) : LevelAtTarget (returnFirst s) := by
  unfold returnFirst
  split
  · exact levelAtTarget_retarget _
  · exact h

theorem atTarget_levelTableRule (sel : Coded Level) (a b c d e f : Option Nat) (h : LevelAtTarget s) :
    LevelAtTarget (levelTableRule sel a b c d e f s).1 := by
  have happlied (l : Level) (e : LevelEntry) : LevelAtTarget (applyEntry l e s) := by
    rw [applyEntry_eq]
    split
    · exact levelAtTarget_retarget _
    · rw [LevelAtTarget, (entryGiven_enm_awu l e s).1]
      exact h
  unfold levelTableRule
  split
  · exact h
  · split_ifs
    · exact h
    · exact h
    · exact happlied _ _

theorem atTarget_levelCeilingRule (v : Option Nat) (h : LevelAtTarget s) : LevelAtTarget (levelCeilingRule v s).1 := by
  unfold levelCeilingRule
  split
  · exact h
  · split
    · exact h
    · exact levelAtTarget_retarget _

theorem atTarget_levelLimitRule (v : LimitField) (h : LevelAtTarget s) : LevelAtTarget (levelLimitRule v s).1 := by
  have hstored (l : Option Level) : LevelAtTarget (storeHost l s).1 := by
    refine atTarget_settle ?_
    unfold setHost
    split
    · exact h
    · exact levelAtTarget_retarget _
  unfold levelLimitRule
  split
  · exact h
  · exact hstored _
  · split
    · exact h
    · exact hstored _
  · exact h

theorem atTarget_supplyCapacityRule (v : Option Nat) (h : LevelAtTarget s) : LevelAtTarget (supplyCapacityRule v s).1 := by
  unfold supplyCapacityRule
  split
  · exact h
  · split
    · exact h
    · exact levelAtTarget_retarget _

theorem atTarget_supplyReportRule (c : Int) (h : LevelAtTarget s) : LevelAtTarget (supplyReportRule c s).1 := by
  refine atTarget_settle (atTarget_setBattery _ ?_)
  split <;> exact h

theorem atTarget_energySettingsRule (a b c d : Option Nat) (h : LevelAtTarget s) :
    LevelAtTarget (energySettingsRule a b c d s).1 := by
  unfold energySettingsRule
  dsimp only
  split_ifs
  · exact h
  · exact atTarget_setQuiet _ h
  · exact h

/-- CLEAR-RETAINED computes the target last of what moves it. -/
theorem atTarget_clearRetainedRule (h : LevelAtTarget s) : LevelAtTarget (clearRetainedRule s).1 := by
  have hcleared (u : State) : LevelAtTarget (clearNotices (clearWakes (clearEnergy u))) :=
    (levelAtTarget_retarget _).of_enm rfl
  unfold clearRetainedRule
  split
  · exact hcleared _
  · exact h

/-! ### Every owner's rule and every event -/

/-- A SALE-* request is activity first (R165). -/
theorem atTarget_saleRule {rule : State → State × Answer} (hrule : ∀ s, (rule s).1.enm = s.enm) (s : State) :
    LevelAtTarget (saleRule rule s).1 := (atTarget_settle (atTarget_activity s)).of_enm (hrule _)

theorem atTarget_ownerRule {c : Instr} {rule : State → State × Answer} (hc : ownerRule c = some rule)
    (h : LevelAtTarget s) : LevelAtTarget (rule s).1 := by
  cases c <;> cases hc
  case identify => exact h
  case restart => exact h
  case clearRetained => exact atTarget_clearRetainedRule h
  case noticeRead => exact h
  case noticeClear => exact h.of_enm (noticeClearRule_enm _ s)
  case noticeConfig => exact h.of_enm (noticeConfigRule_enm _ _ s)
  case clockSet => exact atTarget_clockSetRule _ _ _ _ _ _ h
  case clockRead => exact h
  case tableOpen => exact h.of_enm (tableOpenRule_enm _ _ _ _ _ s)
  case tableAdd => exact h.of_enm (tableAddRule_enm _ _ _ _ _ s)
  case tableClose => exact h.of_enm (tableCloseRule_enm s)
  case tableDrop => exact h
  case tablePromote => exact atTarget_tablePromoteRule _ h
  case tableRead => rwa [tableReadRule_state]
  case serviceSettings => exact atTarget_serviceSettingsRule _ _ _ h
  case running => exact atTarget_runningRule _ _ _ _ h
  case tariffOpen => exact h.of_enm (tariffOpenRule_enm _ _ s)
  case tariffStation => exact h.of_enm (tariffStationRule_enm _ _ _ _ s)
  case tariffRules => exact h.of_enm (tariffRulesRule_enm _ s)
  case tariffClose => exact h.of_enm (tariffCloseRule_enm s)
  case tariffRead => rwa [tariffReadRule_state]
  case fareTrial => rwa [fareTrialRule_state]
  case saleQuote => exact atTarget_saleRule (saleQuoteRule_enm _ _ _ _ _ _) s
  case saleCommit => exact atTarget_saleRule (saleCommitRule_enm _ _) s
  case salePrinted => exact atTarget_saleRule (salePrintedRule_enm _ _) s
  case saleCancel => exact atTarget_saleRule saleCancelRule_enm s
  case saleStatus => exact atTarget_saleRule (fun _ => rfl) s
  case salesClose => exact h.of_enm ((withdraw_enm _ _).trans (decideSales_enm _))
  case salesOpen => exact h.of_enm (decideSales_enm _)
  case saleSettings => exact h.of_enm (saleSettingsRule_enm _ _ s)
  case journalRead => exact h.of_enm (journalReadRule_enm _ _ s)
  case journalRelease => exact h.of_enm (journalReleaseRule_enm _ s)
  case takingsRead => exact h
  case journalSettings => exact h.of_enm (journalSettingsRule_enm _ s)
  case panelProfile => exact h.of_enm (panelProfileRule_enm _ _ _ _ _ _ s)
  case boardText => exact h.of_enm (boardTextRule_enm _ _ _ _ s)
  case boardTextDrop => exact h.of_enm (boardTextDropRule_enm _ s)
  case boardRefresh => exact h.of_enm (boardRefreshRule_enm _ _ s)
  case boardStatus => exact h
  case panelReset => exact h.of_enm (panelResetRule_enm _ s)
  case panelStatus => exact h
  case levelTable => exact atTarget_levelTableRule _ _ _ _ _ _ _ h
  case levelCeiling => exact atTarget_levelCeilingRule _ h
  case levelLimit => exact atTarget_levelLimitRule _ h
  case supplyCapacity => exact atTarget_supplyCapacityRule _ h
  case supplyReport => exact atTarget_supplyReportRule _ h
  case energySettings => exact atTarget_energySettingsRule _ _ _ _ h
  case energyStatus => exact h
  case activity => exact atTarget_activity s
  case wakeConfig => exact h.of_enm (wakeConfigRule_enm _ s)
  case wakeStatus => exact h

theorem atTarget_eventRule {c : Instr} {f : State → State} (hc : eventRule c = some f) (h : LevelAtTarget s) :
    LevelAtTarget (f s) := by
  cases c <;> cases hc
  case clockSecond => exact atTarget_clockSecondEvent h
  case quoteTimerExpiry => exact h.of_enm (withdraw_enm _ s)
  case printTimerExpiry => exact h.of_enm (printExpiry_enm s)
  case accrualTimerExpiry => exact h.of_enm (accrualExpiry_enm s)
  case rotationTimerExpiry => exact h.of_enm (rotationExpiry_enm s)
  case serveEntry => exact h.of_enm (serveFirst_enm s)
  case probeStart => exact h.of_enm (probeFirst_enm s)
  case railSettleExpiry => exact h.of_enm (railSettled_enm s)
  case panelReply => exact h.of_enm (panelReplied_enm _ _ _ s)
  case replyWaitExpiry => exact h.of_enm (replyWait_enm s)
  case drawingWaitExpiry => exact h.of_enm (drawingExpiry_enm s)
  case probeIntervalExpiry => exact h.of_enm (intervalExpiry_enm s)
  case retryWaitExpiry => exact h.of_enm (retryExpiry_enm s)
  case unknownReprobeDelay => exact h.of_enm (probeTimerExpiry_enm _ _ s)
  case offlineProbeTimerExpiry => exact h.of_enm (probeTimerExpiry_enm _ _ s)
  case coldProbeTimerExpiry => exact h.of_enm (probeTimerExpiry_enm _ _ s)
  case railIdleExpiry => exact h.of_enm (railIdleExpiry_enm s)
  case raiseSettleExpiry => exact atTarget_raiseSettled h
  case loweringComplete => exact atTarget_drainFirst h
  case staleTimerExpiry => exact atTarget_staleExpiry h
  case fieldInputEdge => exact atTarget_filteredChange _ _ h
  case filterInitialLevel => exact h.of_enm (firstTaking_enm _ _ s)
  case demandTimerExpiry => exact atTarget_demandExpiry h
  case briefEpisodeStart => exact atTarget_judgeBriefStart h
  case returnTimerExpiry => exact h.of_enm (returnExpiry_enm s)
  case briefEpisodeReturn => exact atTarget_returnFirst h

/-! ### Requests, frames, restarts and the step -/

theorem atTarget_takeRequest (k g : Byte) {rule : State → State × Answer}
    (hrule : ∀ {s}, LevelAtTarget s → LevelAtTarget (rule s).1) (h : LevelAtTarget s) :
    LevelAtTarget (takeRequest k g rule s) := by
  have hheld : LevelAtTarget { s with hlk.hold := false } := h
  have hbegun : LevelAtTarget (beginTaking s) := atTarget_settle (atTarget_internalEvent _ _ hheld)
  exact (atTarget_settle (hrule hbegun)).of_enm (sendReply_enm _ _ _ _)

theorem atTarget_takeRow (c : Instr) (h : LevelAtTarget s) : LevelAtTarget (takeRow c s) := by
  unfold takeRow
  split
  next hr => exact atTarget_takeRequest _ _ (atTarget_ownerRule hr) h
  next => exact h

theorem atTarget_takeFrame (f : Frame) (h : LevelAtTarget s) : LevelAtTarget (takeFrame f s) := by
  refine atTarget_takeRequest _ _ (fun {u} hu => ?_) h
  unfold frameRule
  split
  · cases hr : (readBody f.kind f.body).bind ownerRule with
    | none => exact hu
    | some rule =>
      obtain ⟨c, _, hc⟩ := Option.bind_eq_some_iff.mp hr
      exact atTarget_ownerRule hc hu
  · exact hu

theorem atTarget_arrived (a : Arrival) {take : State → State} (htake : LevelAtTarget s → LevelAtTarget (take s))
    (h : LevelAtTarget s) : LevelAtTarget (arrived a take s) := by
  unfold arrived
  split
  · exact htake h
  · split <;> exact h

/-- The part comes up with a target computed (R162). -/
theorem atTarget_restartAt (strap : Bool) (s : State) : LevelAtTarget (restartAt strap s) :=
  atTarget_settle (levelAtTarget_retarget _)

theorem atTarget_replyEnded (h : LevelAtTarget s) : LevelAtTarget (replyEnded s) := by
  unfold replyEnded
  split
  · exact h
  · split
    · exact atTarget_restartAt _ _
    · split
      · exact h
      · exact atTarget_takeFrame _ h
      · exact atTarget_takeRow _ h

theorem atTarget_byteReceived (b : Byte) (h : LevelAtTarget s) : LevelAtTarget (byteReceived b s) := by
  unfold byteReceived
  split
  · split <;> exact h
  next bytes _ =>
    unfold frameByte
    split
    · exact h
    · split
      · cases checkedFrame (bytes ++ [b]) with
        | none => exact h
        | some f => exact atTarget_arrived _ (atTarget_takeFrame f) h
      · exact h

theorem atTarget_lineRule {c : Instr} {f : State → State} (hc : lineRule c = some f) (h : LevelAtTarget s) :
    LevelAtTarget (f s) := by
  cases c <;> cases hc
  case frameComplete => exact atTarget_arrived _ (atTarget_takeFrame _) h
  case interByteGap => exact h
  case replySent => exact atTarget_replyEnded h
  case hostByteReceived b => exact atTarget_byteReceived b h

/-- A lost state has its present level and its target at EL4 (R162, R187). -/
theorem atTarget_supplyRule {c : Instr} {f : State → State} (hc : supplyRule c = some f) (h : LevelAtTarget s) :
    LevelAtTarget (f s) := by
  cases c <;> cases hc
  case powerOn strap =>
    unfold powerUp
    split
    · exact h
    · exact h
    · exact atTarget_restartAt strap s
    · exact atTarget_restartAt strap s
  case resetnAsserted =>
    unfold holdPart
    split <;> exact h
  case resetnReleased strap =>
    unfold releasePart
    split
    · exact atTarget_restartAt strap s
    · exact h
    · exact h
    · exact h
  case powerLoss => exact fun _ => rfl

theorem atTarget_whenOn {f : State → State} (hf : LevelAtTarget s → LevelAtTarget (f s)) (h : LevelAtTarget s) :
    LevelAtTarget (whenOn f s) := by
  unfold whenOn
  split
  · exact hf h
  · exact h

theorem atTarget_exec {c : Instr} (he : exec c s = .next t) (h : LevelAtTarget s) : LevelAtTarget t := by
  rcases command_cases c with ⟨rule, hr⟩ | ⟨f, hf⟩ | ⟨f, hf⟩ | ⟨f, hf⟩
  · rw [exec_of_ownerRule hr] at he
    cases he
    exact atTarget_whenOn (atTarget_arrived _ (atTarget_takeRow c)) h
  · rw [exec_of_eventRule hf] at he
    cases he
    exact atTarget_whenOn (fun hu => atTarget_settle (atTarget_eventRule hf hu)) h
  · rw [exec_of_lineRule hf] at he
    cases he
    exact atTarget_whenOn (atTarget_lineRule hf) h
  · rw [exec_of_supplyRule hf] at he
    cases he
    exact atTarget_supplyRule hf h

/-- A millisecond moves the settle timer of a raise, and neither starts nor ends a transition. -/
theorem atTarget_millisecond (h : LevelAtTarget s) : LevelAtTarget (millisecond s) := by
  unfold millisecond
  split
  · intro ht
    refine h ?_
    cases hs : s.enm.transition with
    | none => rfl
    | raising d n =>
      simp only [advance, transitionTick, hs] at ht
      cases ht
    | lowering d =>
      simp only [advance, transitionTick, hs] at ht
      cases ht
  · exact h

end

/-- Settles O55: on an empty queue the millisecond moves no level; every command computes the target again where it has moved a
level, a transition or the target. -/
theorem stepKeepsLevelAtTarget : Obligations.StepKeepsLevelAtTarget := by
  intro s t h hs
  cases hp : s.pending with
  | nil =>
    rw [step_of_empty hp] at hs
    cases hs
    exact atTarget_millisecond h
  | cons c rest =>
    rw [step_of_pending hp] at hs
    have hrest : LevelAtTarget { s with pending := rest } := h
    exact atTarget_exec hs hrest

end Sys2Proof.Machine
end

section
/-! SUPPORT. The limits (R150 to R154): the bands with their hysteresis, what a changed limit brings about in its taking, and what
LEVEL-LIMIT and SUPPLY-REPORT are read as; and LimitsFollowReportsByTheBands. -/

namespace Sys2Proof.Machine

/-! ### The bands (Table 9-4, R150) -/

/-- The band of a charge by the lower bounds. -/
theorem bandOf_eq (c : Nat) : bandOf c = if 60 ≤ c then none else if 40 ≤ c then some .el1 else if 25 ≤ c then some .el2
    else if 12 ≤ c then some .el3 else if 5 ≤ c then some .el4 else some .el5 := by
  split_ifs <;> simp [bandOf, batteryBands, *]

/-- How strict the band of a charge is, by the lower bounds. -/
theorem strictness_bandOf (c : Nat) : strictness (bandOf c) = if 60 ≤ c then 0 else if 40 ≤ c then 3 else if 25 ≤ c then 4
    else if 12 ≤ c then 5 else if 5 ≤ c then 6 else 7 := by
  rw [bandOf_eq]
  split_ifs <;> rfl

/-- A lower charge has no less strict a band. -/
theorem strictness_bandOf_anti {b c : Nat} (h : b ≤ c) : strictness (bandOf c) ≤ strictness (bandOf b) := by
  rw [strictness_bandOf, strictness_bandOf]
  grind

theorem strictness_le (l : Option Level) : strictness l ≤ 7 := by
  cases l with
  | none => exact Nat.zero_le _
  | some x => exact Nat.succ_le_succ (levelRank_le x)

theorem batteryAfter_of_stricter {c : Nat} {l : Option Level} (h : strictness l ≤ strictness (bandOf c)) :
    batteryAfter c l = bandOf c := if_pos h

/-- The hysteresis takes the band of the charge less 3: every lower bound is asked for with 3 more. -/
theorem batteryAfter_of_weaker {c : Nat} {l : Option Level} (h : strictness (bandOf c) < strictness l) (hc : 3 ≤ c) :
    batteryAfter c l = bandOf (c - 3) := by
  have hbound (n : Nat) : (n ≤ c - 3) = (n + 3 ≤ c) := by
    rw [Nat.le_sub_iff_add_le hc]
  have hfound : ∃ b, (batteryBands.find? fun b => decide (b.2 + 3 ≤ c)) = some b := by
    refine Option.isSome_iff_exists.mp (List.find?_isSome.mpr ⟨(some .el5, 0), by decide, ?_⟩)
    simpa using hc
  obtain ⟨b, hb⟩ := hfound
  rw [batteryAfter, if_neg (Nat.not_le.mpr h), bandOf]
  simp only [hbound, hb]
  rfl

/-- No report leaves a limit less strict than the band of its charge. -/
theorem strictness_bandOf_le_batteryAfter (c : Nat) (l : Option Level) :
    strictness (bandOf c) ≤ strictness (batteryAfter c l) := by
  by_cases h : strictness l ≤ strictness (bandOf c)
  · rw [batteryAfter_of_stricter h]
  · have hc : 3 ≤ c := by
      have hl := strictness_le l
      rw [strictness_bandOf] at h
      split_ifs at h <;> omega
    rw [batteryAfter_of_weaker (Nat.not_le.mp h) hc]
    exact strictness_bandOf_anti (Nat.sub_le c 3)

/-! ### A changed limit (R153, R154) -/

section
variable {s : State} {l : Option Level}

theorem setHost_eq (l : Option Level) (s : State) : setHost l s =
    if l = s.enm.hostLimit then s
    else retarget { s with enm.hostLimit := l, hlk.notices := raisedAt 11 s.hlk.notices } := rfl

theorem setBattery_eq (l : Option Level) (s : State) : setBattery l s =
    if l = s.enm.battery then s
    else
      let changed := { s with enm.battery := l, hlk.notices := raisedAt 11 s.hlk.notices }
      if l = some .el5 then (if s.awu.brief then endBrief changed else retarget changed)
      else if s.enm.battery = some .el5 then judgeBriefStart (retarget changed) else retarget changed := rfl

/-- The HOST limit stands as given, and a changed one is told with a target computed. -/
theorem setHost_spec (hlen : s.hlk.notices.length = sourceCount) : (setHost l s).enm.hostLimit = l ∧
    (l ≠ s.enm.hostLimit → (noticeAt (setHost l s) 11).pending = true ∧ TargetTold (setHost l s)) := by
  unfold setHost
  split
  next h => exact ⟨h.symm, fun hne => absurd h hne⟩
  next h =>
    have hreacted := reacted_retarget (raiseNotice .limitChanged { s with enm.hostLimit := l })
    exact ⟨hreacted.hostLimit, fun _ => ⟨hreacted.raised 11 (raiseNotice_raises (hlen ▸ by decide)).1, targetTold_retarget _⟩⟩

/-- Of a report nothing else is moved with the BATTERY limit. -/
theorem reacted_setBattery (l : Option Level) (s : State) : Reacted { s with enm.battery := l } (setBattery l s) := by
  by_cases h : l = s.enm.battery
  · subst h
    rw [setBattery_of_same rfl]
    exact .refl s
  · exact (reacted_raiseNotice _ _).trans (setBattery_changed h).1

theorem setBattery_pending {n : Nat} (h : (noticeAt s n).pending = true) : (noticeAt (setBattery l s) n).pending = true :=
  (reacted_setBattery l s).raised n h

/-- A changed BATTERY limit is told with a target computed. -/
theorem setBattery_told (hlen : s.hlk.notices.length = sourceCount) (h : l ≠ s.enm.battery) :
    (noticeAt (setBattery l s) 11).pending = true ∧ TargetTold (setBattery l s) :=
  ⟨(setBattery_changed h).1.raised 11 (raiseNotice_raises (hlen ▸ by decide)).1, (setBattery_changed h).2⟩

/-! ### LEVEL-LIMIT -/

theorem levelLimitRule_range {n : Nat} (h : 5 < n) (w : State) :
    levelLimitRule (.level n) w = (w, refuse .range .field) := by
  unfold levelLimitRule
  dsimp only
  rw [levelOf_of_large h]

/-- "No limit" and a level store the HOST limit; the reply carries the target after all that it brings about. -/
theorem levelLimitRule_stores {f : LimitField} (h : (f = .noLimit ∧ l = none) ∨ (∃ n, f = .level n ∧ levelOf n = l ∧ l.isSome))
    (w : State) : levelLimitRule f w = (settle (setHost l w), limitAnswer (settle (setHost l w))) := by
  rcases h with ⟨rfl, rfl⟩ | ⟨n, rfl, hn, hl⟩
  · rfl
  · obtain ⟨x, rfl⟩ := Option.isSome_iff_exists.mp hl
    unfold levelLimitRule
    dsimp only
    rw [hn]
    rfl

/-! ### SUPPLY-REPORT -/

/-- A report taken, as statements write it: the charge with a fresh stale timer, and SUPPLY-CRITICAL for one below 5. -/
def chargeTold (c : Int) (w : State) : State := { w with
  enm.charge := some (clampInt 0 100 c).toNat, enm.stale := false, enm.staleTimer := some 900000
  hlk.notices := if c < 5 then raisedAt 0 w.hlk.notices else w.hlk.notices }

theorem clampInt_toNat_lt_five (c : Int) : (clampInt 0 100 c).toNat < 5 ↔ c < 5 := by
  unfold clampInt
  split_ifs <;> omega

theorem takeCharge_eq (c : Int) (w : State) : takeCharge (clampInt 0 100 c).toNat w =
    setBattery (batteryAfter (clampInt 0 100 c).toNat w.enm.battery) (chargeTold c w) := by
  unfold takeCharge chargeTold
  simp only [clampInt_toNat_lt_five]
  split_ifs <;> rfl

theorem length_chargeTold (c : Int) (w : State) : (chargeTold c w).hlk.notices.length = w.hlk.notices.length := by
  unfold chargeTold
  dsimp only
  split_ifs
  · exact List.length_modify _ _ _
  · rfl

theorem pending_chargeTold {c : Int} {w : State} (hlen : w.hlk.notices.length = sourceCount) (h : c < 5) :
    (noticeAt (chargeTold c w) 0).pending = true := by
  rw [noticeAt_eq, chargeTold, if_pos h, noticeIn_raisedAt, if_pos ⟨rfl, by rw [hlen]; decide⟩]

/-- The reply carries the BATTERY limit that the report brings and the target after all that follows. -/
theorem supplyReportRule_eq (c : Int) (w : State) : supplyReportRule c w =
    let limit := batteryAfter (clampInt 0 100 c).toNat w.enm.battery
    let u := settle (setBattery limit (chargeTold c w))
    (u, done (.supply (clampInt 0 100 c).toNat limit (hostLevel u.enm.target))) := by
  have hbattery (l : Option Level) : (settle (setBattery l (chargeTold c w))).enm.battery = l :=
    ((reacted_setBattery l _).trans (reacted_settle _)).battery
  unfold supplyReportRule
  dsimp only
  rw [takeCharge_eq, hbattery]

end

/-! ### LimitsFollowReportsByTheBands -/

/-- Settles O50: the bands by their lower bounds; each request by what it is read as, with what its limit brings about kept to the
taking's end. -/
theorem limitsFollowReportsByTheBands : Obligations.LimitsFollowReportsByTheBands := by
  refine ⟨fun c l _ => ⟨bandOf_eq c, batteryAfter_of_stricter, batteryAfter_of_weaker,
    strictness_bandOf_le_batteryAfter c l⟩, fun s hl hs => ?_⟩
  intro w
  have hlen : w.hlk.notices.length = sourceCount := (atOwner_notices_length s).trans hs
  have hhost : w.enm.hostLimit = s.enm.hostLimit := atOwner_enm_hostLimit s
  have hbattery : w.enm.battery = s.enm.battery := atOwner_enm_battery s
  refine ⟨fun n hn => does_of_rule hl rfl rfl rfl (levelLimitRule_range hn w),
    fun n => does_of_rule hl rfl rfl rfl rfl, ?_, fun f l hf => ?limit, fun c => ?report⟩
  · refine does_of_rule hl rfl rfl rfl ?_
    rw [← hhost]
    rfl
  case limit =>
    intro v u
    have hv : setHost l w = v := by rw [setHost_eq, hhost]
    obtain ⟨hstored, htold⟩ := setHost_spec (l := l) hlen
    rw [hv, hhost] at htold
    rw [hv] at hstored
    have hreacted : Reacted v u := reacted_settle v
    have hlimit : u.enm.hostLimit = l := hreacted.hostLimit.trans hstored
    refine ⟨does_of_rule hl rfl rfl rfl ((levelLimitRule_stores hf w).trans ?_), hreacted, hlimit, fun hne => ?_⟩
    · rw [hv, limitAnswer, show settle v = u from rfl, hlimit]
    · obtain ⟨hpending, htarget⟩ := htold hne
      exact ⟨hreacted.raised 11 hpending, targetTold_settle htarget⟩
  case report =>
    intro n limit told changed v u
    have htoldBattery : (chargeTold c w).enm.battery = s.enm.battery := hbattery
    have hv : setBattery limit (chargeTold c w) = v := by
      rw [setBattery_eq, htoldBattery]
      rfl
    have hrule := supplyReportRule_eq c w
    rw [hbattery] at hrule
    have hset := reacted_setBattery limit (chargeTold c w)
    have hchanged := setBattery_told (l := limit) ((length_chargeTold c w).trans hlen)
    have hcritical (hc : c < 5) := setBattery_pending (l := limit) (pending_chargeTold hlen hc)
    rw [htoldBattery, hv] at hchanged
    rw [hv] at hset hcritical
    have hreacted : Reacted v u := reacted_settle v
    have hall := hset.trans hreacted
    refine ⟨does_of_rule hl rfl rfl rfl (hrule.trans ?_), hreacted, hall.battery, hall.charge, hall.stale, hall.staleTimer,
      fun hc => hreacted.raised 0 (hcritical hc), fun hne => ?_⟩
    · exact congrArg (fun x => (settle x, done (.supply n limit (hostLevel (settle x).enm.target)))) hv
    · obtain ⟨hpending, htarget⟩ := hchanged hne
      exact ⟨hreacted.raised 11 hpending, targetTold_settle htarget⟩

end Sys2Proof.Machine
end

section
/-! SUPPORT. The field inputs (R168, R170, R171, R184): what an edge leaves before it is judged, what the judgement makes of it,
and the first taking of a level; and FieldInputsWake. -/

namespace Sys2Proof.Machine

/-! ### Edges before they are judged (R168, R171, R184) -/

section
variable {i : FieldInput} {high : Bool} {s : State}

/-- The new level taken, the door reported and CALL's re-wake lock passed: what an edge leaves before it is judged. -/
def edgeTaken (i : FieldInput) (high : Bool) (s : State) : State := { s with
  awu.filtered := fiveSet s.awu.filtered i (some high)
  awu.lock := if i = .call then passLock high s.awu.lock else s.awu.lock
  hlk.notices := if i = .door ∧ high = true then raisedAt 1 s.hlk.notices else s.hlk.notices }

theorem doorChange_eq (i : FieldInput) (high : Bool) (s : State) : doorChange i high s =
    { s with hlk.notices := if i = .door ∧ high = true then raisedAt 1 s.hlk.notices else s.hlk.notices } := by
  by_cases h : i = .door ∧ high = true
  · obtain ⟨rfl, rfl⟩ := h
    rfl
  · rw [doorChange, if_neg (by simpa using h), if_neg h]

theorem inputEdge_eq (i : FieldInput) (high : Bool) (s : State) : inputEdge i high s =
    if admits (fiveGet s.awu.config.inputs i).sense (if high then .rising else .falling) then
      inputEvent i high (edgeTaken i high s)
    else edgeTaken i high s := by
  have htaken : edgeTaken i high s =
      if i = .call then
        { doorChange i high { s with awu.filtered := fiveSet s.awu.filtered i (some high) } with
          awu.lock := passLock high s.awu.lock }
      else doorChange i high { s with awu.filtered := fiveSet s.awu.filtered i (some high) } := by
    rw [doorChange_eq, edgeTaken]
    by_cases hc : i = .call
    · simp only [if_pos hc]
    · simp only [if_neg hc]
  rw [htaken, inputEdge, doorChange_eq]

theorem filteredChange_edge (h : fiveGet s.awu.filtered i = some !high) : filteredChange i high s = inputEdge i high s :=
  if_pos h

theorem filteredChange_same (h : fiveGet s.awu.filtered i ≠ some !high) : filteredChange i high s = s := if_neg h

theorem admits_iff (sense : Sense) (high : Bool) : admits sense (if high then .rising else .falling) = true ↔
    sense = .either ∨ (sense = .rising ∧ high = true) ∨ (sense = .falling ∧ high = false) := by
  cases sense <;> cases high <;> decide

/-! ### The judgement of an edge (R168, R170, R171) -/

/-- A wake by a field input: its flag is set, the part rests, and CALL's lock does not hold it back. -/
def InputWakes (i : FieldInput) (s : State) : Prop :=
  (fiveGet s.awu.config.inputs i).wake = true ∧ (s.enm.present = .el4 ∨ s.enm.present = .el5) ∧
    ¬(i = .call ∧ s.awu.lock.isSome)

theorem inputWakes_iff : ((fiveGet s.awu.config.inputs i).wake && resting s.enm.present &&
    !(decide (i = .call) && s.awu.lock.isSome)) = true ↔ InputWakes i s := by
  simp [InputWakes, resting_iff, and_assoc, imp_iff_not_or]

theorem inputEvent_wakes (h : InputWakes i s) : inputEvent i high s =
    let woke := woken (.field i) (some (if high then .rising else .falling)) s
    { woke with awu.lock := if i = .call then some ⟨high, false⟩ else woke.awu.lock } := by
  unfold inputEvent
  dsimp only
  rw [if_pos (inputWakes_iff.mpr h), wake_eq]
  by_cases hc : i = .call
  · simp only [if_pos hc]
  · simp only [if_neg hc]

theorem inputEvent_active (h : ¬InputWakes i s) (ha : (fiveGet s.awu.config.inputs i).activity = true) :
    inputEvent i high s = activated s := by
  unfold inputEvent
  dsimp only
  rw [if_neg (mt inputWakes_iff.mp h), if_pos ha, activity_eq]

theorem inputEvent_idle (h : ¬InputWakes i s) (ha : (fiveGet s.awu.config.inputs i).activity = false) :
    inputEvent i high s = s := by
  unfold inputEvent
  dsimp only
  rw [if_neg (mt inputWakes_iff.mp h), if_neg (by simp [ha])]

/-! ### The first taking (R168, R184) -/

theorem firstTaking_taken (h : (fiveGet s.awu.filtered i).isSome) : firstTaking i high s = s := if_pos h

theorem firstTaking_first (h : fiveGet s.awu.filtered i = none) : firstTaking i high s = { s with
    awu.filtered := fiveSet s.awu.filtered i (some high)
    hlk.notices := if i = .door ∧ high = true ∧ s.hlk.doorSense = .level then raisedAt 1 s.hlk.notices
      else s.hlk.notices } := by
  unfold firstTaking
  dsimp only
  rw [if_neg (by simp [h])]
  by_cases hd : i = .door ∧ high = true ∧ s.hlk.doorSense = .level
  · rw [if_pos hd, if_pos hd]
    rfl
  · rw [if_neg hd, if_neg hd]

end

/-- Settles O53: the level taken before is the same, the other one or none; a change by what an edge leaves and what the
judgement makes of it. -/
theorem fieldInputsWake : Obligations.FieldInputsWake := by
  intro i high s hp c edge passed lock w admitted wakes woke
  have hpassed : passLock high s.awu.lock = passed := by
    cases hl : s.awu.lock with
    | none => simp only [passed, passLock, hl]
    | some k => simp only [passed, passLock, hl, ne_eq, ite_not]
  have hw : edgeTaken i high s = w := by
    rw [edgeTaken, hpassed]
  have hadmits : admits c.sense edge = true ↔ admitted := admits_iff c.sense high
  have hedge (h : fiveGet s.awu.filtered i = some !high) :
      filteredChange i high s = if admits c.sense edge then inputEvent i high w else w := by
    rw [filteredChange_edge h, inputEdge_eq, hw]
  refine ⟨fun h => ?same, fun h => ?change, fun h => ?first⟩
  case same =>
    exact ⟨happens_of_rule hp rfl (filteredChange_same (by simp [h])),
      happens_of_rule hp rfl (firstTaking_taken (by simp [h]))⟩
  case change =>
    have hadmitted (ha : admitted) : filteredChange i high s = inputEvent i high w :=
      (hedge h).trans (if_pos (hadmits.mpr ha))
    refine ⟨fun ha => ?_, fun ha hwakes => ?_, fun ha hwakes hactive => ?_, fun ha hwakes hidle => ?_, ?_⟩
    · exact happens_of_rule hp rfl ((hedge h).trans (if_neg (mt hadmits.mp ha)))
    · exact happens_of_rule hp rfl ((hadmitted ha).trans (inputEvent_wakes (s := w) hwakes))
    · exact happens_of_rule hp rfl ((hadmitted ha).trans (inputEvent_active (s := w) hwakes hactive))
    · exact happens_of_rule hp rfl ((hadmitted ha).trans (inputEvent_idle (s := w) hwakes hidle))
    · exact happens_of_rule hp rfl (firstTaking_taken (by simp [h]))
  case first =>
    exact ⟨happens_of_rule hp rfl (filteredChange_same (by simp [h])), happens_of_rule hp rfl (firstTaking_first h)⟩

end Sys2Proof.Machine
end

section
/-! SUPPORT. The host link (R170, R177 to R179): the kinds of the catalogue, a frame that completes, the beginning of a taking,
what a frame's body asks for, and the bytes of answers and fields; and FramesWaitAndFieldlessFramesAnswer. -/

namespace Sys2Proof.Machine

/-! ### The catalogue (Table 11-3) -/

theorem ownerRule_of_kindOf {c : Instr} {kind : Byte} (h : kindOf c = some kind) : ∃ rule, ownerRule c = some rule := by
  cases c <;> cases h <;> exact ⟨_, rfl⟩

theorem mem_catalogue_of_kindOf {c : Instr} {kind : Byte} (h : kindOf c = some kind) : kind ∈ catalogue := by
  cases c <;> cases h <;> decide

theorem exec_of_kindOf {c : Instr} {kind : Byte} (h : kindOf c = some kind) (s : State) : exec c s = request c s :=
  let ⟨_, hr⟩ := ownerRule_of_kindOf h
  exec_of_ownerRule hr s

/-- A request without fields is of the kind that names it. -/
theorem kindOf_of_fieldless {kind : Byte} {i : Instr} (h : fieldless kind = some i) : kindOf i = some kind := by
  unfold fieldless at h
  split at h
  case h_19 => cases h
  all_goals
    next hk =>
      cases h
      exact congrArg some (BitVec.eq_of_toNat_eq hk.symm)

theorem readBody_fieldless {kind : Byte} {i : Instr} (h : fieldless kind = some i) (body : List Byte) :
    readBody kind body = if body.isEmpty then some i else none := by
  have hadd : kind ≠ 0x21#8 := by
    rintro rfl
    cases h
  rw [readBody, if_neg hadd, h]

/-! ### A frame completes (R178) -/

section
variable {a : Arrival} {take : State → State} {s : State}

theorem arrived_taken (h : s.hlk.reply = none) : arrived a take s = take s := by
  unfold arrived
  rw [h]

theorem arrived_waits (h : s.hlk.reply.isSome) (hw : s.hlk.waiting.length < 2) :
    arrived a take s = { s with hlk.waiting := s.hlk.waiting ++ [a] } := by
  obtain ⟨r, hr⟩ := Option.isSome_iff_exists.mp h
  unfold arrived
  rw [hr]
  exact if_pos hw

theorem arrived_discarded (h : s.hlk.reply.isSome) (hw : 2 ≤ s.hlk.waiting.length) : arrived a take s = s := by
  obtain ⟨r, hr⟩ := Option.isSome_iff_exists.mp h
  unfold arrived
  rw [hr]
  exact if_neg (Nat.not_lt.mpr hw)

/-- The end of a reply other than RESTART's, by what waits. -/
theorem replyEnded_eq (h : s.hlk.reply.isSome) (hd : s.hlk.restartDue = false) : replyEnded s =
    match s.hlk.waiting with
    | [] => { s with hlk.reply := none }
    | .frame f :: rest => takeFrame f { s with hlk.reply := none, hlk.waiting := rest }
    | .request c :: rest => takeRow c { s with hlk.reply := none, hlk.waiting := rest } := by
  obtain ⟨r, hr⟩ := Option.isSome_iff_exists.mp h
  unfold replyEnded
  rw [hr]
  exact if_neg (by simp [hd])

end

section
variable {s : State}

theorem exec_frameComplete (kind tag : Byte) (body : List Byte) (hp : s.power = .on) :
    exec (.frameComplete kind tag body) s = .next (frameArrived ⟨kind, tag, body⟩ s) := by
  rw [exec_of_lineRule rfl, whenOn, if_pos hp]

theorem exec_replySent (hp : s.power = .on) : exec .replySent s = .next (replyEnded s) := by
  rw [exec_of_lineRule rfl, whenOn, if_pos hp]

theorem exec_request {c : Instr} {kind : Byte} (hk : kindOf c = some kind) (hp : s.power = .on) :
    exec c s = .next (arrived (.request c) (takeRow c) s) := by
  rw [exec_of_kindOf hk, request, whenOn, if_pos hp]

theorem exec_frameComplete_taken (f : Frame) (hl : Listens s) :
    exec (.frameComplete f.kind f.tag f.body) s = .next (takeFrame f s) := by
  rw [exec_frameComplete _ _ _ hl.power, frameArrived, arrived_taken hl.reply]

theorem exec_request_taken {c : Instr} {kind : Byte} (hk : kindOf c = some kind) (hl : Listens s) :
    exec c s = .next (takeRow c s) := by
  rw [exec_request hk hl.power, arrived_taken hl.reply]

end

/-! ### The taking (R170, R179) -/

theorem activated_hold (s : State) : (activated s).hlk.hold = s.hlk.hold := by
  unfold activated
  dsimp only
  split
  · rw [(reacted_retarget _).hold, (reacted_followRailMode _).hold]
  · rw [(reacted_retarget _).hold]

theorem internalEvent_wakes {flag : Bool} {s : State} (src : WokeSource) (hf : flag = true)
    (hp : s.enm.present = .el4 ∨ s.enm.present = .el5) : internalEvent flag src s = woken src none s := by
  rw [internalEvent, if_pos (by rw [hf, (resting_iff _).mpr hp]; rfl), wake_eq]

theorem internalEvent_idle {flag : Bool} {s : State} (src : WokeSource)
    (h : flag = false ∨ (s.enm.present ≠ .el4 ∧ s.enm.present ≠ .el5)) : internalEvent flag src s = s :=
  if_neg (by simpa [resting_iff, imp_iff_not_or] using h)

theorem internalEvent_hold (flag : Bool) (src : WokeSource) (s : State) :
    (internalEvent flag src s).hlk.hold = s.hlk.hold := by
  unfold internalEvent
  split
  · rw [wake_eq]
    exact activated_hold s
  · rfl

theorem atOwner_hold (s : State) : (atOwner s).hlk.hold = false :=
  (reacted_settle _).hold.trans (internalEvent_hold _ _ _)

theorem stores_sendReply (kind tag : Byte) (a : Answer) (s : State) : StoresKept s (sendReply kind tag a s) := by
  constructor <;> first | rfl | exact .inl ⟨rfl, rfl⟩ | exact fun _ => rfl | exact fun _ h => h

/-! ### What a frame asks for (R179) -/

theorem frameRule_unknownKind {f : Frame} (h : f.kind ∉ catalogue) (s : State) :
    frameRule f s = (s, refuse .unknownKind .none) := by
  rw [frameRule, if_neg (mt List.contains_iff_mem.mp h)]

theorem frameRule_malformed {f : Frame} (h : f.kind ∈ catalogue) (hb : readBody f.kind f.body = none) (s : State) :
    frameRule f s = (s, refuse .malformed .none) := by
  rw [frameRule, if_pos (List.contains_iff_mem.mpr h), hb]
  rfl

theorem frameRule_request {f : Frame} {i : Instr} {rule : State → State × Answer} (h : f.kind ∈ catalogue)
    (hb : readBody f.kind f.body = some i) (hr : ownerRule i = some rule) : frameRule f = rule := by
  rw [frameRule, if_pos (List.contains_iff_mem.mpr h), hb, Option.bind_some, hr]
  rfl

/-- A frame with tag 0 that spells a request is taken as the request's row is (log 1). -/
theorem takeFrame_request {kind : Byte} {body : List Byte} {i : Instr} (hk : kindOf i = some kind)
    (hb : readBody kind body = some i) : takeFrame ⟨kind, 0#8, body⟩ = takeRow i := by
  obtain ⟨rule, hr⟩ := ownerRule_of_kindOf hk
  funext s
  rw [takeFrame, frameRule_request (mem_catalogue_of_kindOf hk) hb hr, takeRow, hk, hr]

/-- A frame that changes nothing but is answered: its reply, the end of the attention hold, and the stores as they were. -/
theorem takeFrame_answered {f : Frame} {a : Answer} (h : ∀ s, frameRule f s = (s, a)) (s : State) :
    (takeFrame f s).hlk.reply = some ⟨f.kind ||| 0x80#8, f.tag, a⟩ ∧ (takeFrame f s).hlk.hold = false ∧
      StoresKept s (takeFrame f s) := by
  have htaken : takeFrame f s = sendReply f.kind f.tag a (settle (atOwner s)) := by
    rw [takeFrame, takeRequest, h]
    rfl
  have hsettled : Reacted (atOwner s) (settle (atOwner s)) := reacted_settle _
  have hkept : StoresKept s (settle (atOwner s)) := (stores_beginTaking s).trans hsettled.toStoresKept
  rw [htaken]
  exact ⟨rfl, (sendReply_hlk_hold _ _ _ _).trans (hsettled.hold.trans (atOwner_hold s)),
    hkept.trans (stores_sendReply _ _ _ _)⟩

/-! ### Bytes (R179, Table 11-2) -/

theorem answerBytes_nothing (kind : Byte) (st : ReplyStatus) (d : Detail) : answerBytes kind ⟨st, d, .nothing⟩ =
    if st = .done then [0#8] else [statusByte st, detailByte d] := by
  cases st <;> rfl

theorem replyBytes_refuse {s : State} {kind tag : Byte} {st : ReplyStatus} {d : Detail}
    (h : s.hlk.reply = some ⟨kind, tag, refuse st d⟩) (hst : st ≠ .done) :
    let r : Frame := ⟨kind, tag, [statusByte st, detailByte d]⟩
    replyBytes s = some (frameBytes r (frameCheck r)) := by
  have hbytes : answerBytes kind (refuse st d) = [statusByte st, detailByte d] :=
    (answerBytes_nothing kind st d).trans (if_neg hst)
  rw [replyBytes, h, Option.map_some, replyFrame, hbytes]

theorem length_bigEndian (width n : Nat) : (bigEndian width n).length = width := by
  induction width generalizing n with
  | zero => rfl
  | succ width ih => rw [bigEndian, List.length_append, ih, List.length_singleton]

/-- The bytes of a number, read most significant first, are the number in so many bytes. -/
theorem fromBytes_bigEndian (width n : Nat) : fromBytes (bigEndian width n) = n % 256 ^ width := by
  induction width generalizing n with
  | zero => rw [pow_zero, Nat.mod_one]; rfl
  | succ width ih =>
    calc fromBytes (bigEndian (width + 1) n)
        = 256 * fromBytes (bigEndian width (n / 256)) + (BitVec.ofNat 8 n).toNat := by
          rw [bigEndian, fromBytes, List.foldl_append]
          rfl
      _ = 256 * (n / 256 % 256 ^ width) + n % 256 := by rw [ih, BitVec.toNat_ofNat]
      _ = n % 256 ^ (width + 1) := by
          rw [pow_succ', Nat.mod_mul, Nat.add_comm]

/-- A number of either sign at a place of a body: its width, and its code most significant byte first. -/
theorem spells_signedCode (width : Nat) (i : Int) : (bigEndian width (signedCode width i)).length = width ∧
    fromBytes (bigEndian width (signedCode width i)) = signedCode width i % 256 ^ width :=
  ⟨length_bigEndian _ _, fromBytes_bigEndian _ _⟩

/-- Settles O8: a frame by whether a reply is being sent and what waits, the LINK event by its flag and the level, a body by
whether it is empty, and the bytes by what each field is. -/
theorem framesWaitAndFieldlessFramesAnswer : Obligations.FramesWaitAndFieldlessFramesAnswer := by
  refine ⟨fun f s hp => ⟨fun hr hk => ?unknown, fun hr hw => ?waits, fun hr hw => ?discarded, fun hr hd hw => ?last,
      fun rest hr hd hw => ?next⟩,
    fun c kind s hp hk hr => ⟨fun hw => ?rowWaits, fun hw => ?rowDiscarded, fun rest hd hw => ?rowNext⟩,
    fun s => ⟨fun hf hl => ?link, fun h => ?noLink⟩, fun kind tag body i s hl hi => ?fieldless, answerBytes_nothing,
    fun kind place => ⟨fun t => rfl, fun d => rfl, fun n => ?number⟩, by decide, by decide⟩
  case unknown =>
    obtain ⟨hreply, hhold, hkept⟩ := takeFrame_answered (frameRule_unknownKind hk) s
    exact ⟨takeFrame f s, exec_frameComplete_taken f ⟨hp, hr⟩, hreply, hhold, replyBytes_refuse hreply nofun, hkept⟩
  case waits => rw [exec_frameComplete _ _ _ hp, frameArrived, arrived_waits hr hw]
  case discarded => rw [exec_frameComplete _ _ _ hp, frameArrived, arrived_discarded hr hw]
  case last => rw [exec_replySent hp, replyEnded_eq hr hd, hw]
  case next =>
    have hl : Listens { s with hlk.reply := none, hlk.waiting := rest } := ⟨hp, rfl⟩
    rw [exec_replySent hp, replyEnded_eq hr hd, hw]
    exact (exec_frameComplete_taken f hl).symm
  case rowWaits => rw [exec_request hk hp, arrived_waits hr hw]
  case rowDiscarded => rw [exec_request hk hp, arrived_discarded hr hw]
  case rowNext =>
    have hl : Listens { s with hlk.reply := none, hlk.waiting := rest } := ⟨hp, rfl⟩
    rw [exec_replySent hp, replyEnded_eq hr hd, hw]
    exact (exec_request_taken hk hl).symm
  case link => exact congrArg settle (internalEvent_wakes (s := { s with hlk.hold := false }) .link hf hl)
  case noLink => exact congrArg settle (internalEvent_idle (s := { s with hlk.hold := false }) .link h)
  case fieldless =>
    have hk := kindOf_of_fieldless hi
    refine ⟨?_, fun hb => ?_⟩
    · rw [exec_request_taken hk hl, exec_frameComplete_taken ⟨kind, 0#8, []⟩ hl,
        takeFrame_request hk (readBody_fieldless hi [])]
    · have hbody : readBody kind body = none := (readBody_fieldless hi body).trans (if_neg (by simpa using hb))
      obtain ⟨hreply, -, hkept⟩ :=
        takeFrame_answered (frameRule_malformed (f := ⟨kind, tag, body⟩) (mem_catalogue_of_kindOf hk) hbody) s
      exact ⟨_, exec_frameComplete_taken ⟨kind, tag, body⟩ hl, hreply, replyBytes_refuse hreply nofun, hkept⟩
  case number =>
    intro width spells
    refine ⟨⟨length_bigEndian _ _, fromBytes_bigEndian _ _⟩, spells_signedCode width n, ?_⟩
    rw [show -1 - (n : Int) = Int.negSucc n by omega]
    exact spells_signedCode width (Int.negSucc n)

end Sys2Proof.Machine
end

section
/-! SUPPORT. A part held by RESETN or without supply, and the causes of a restart (R176, R180): what each row of the supply does
in each state of it; InactivePartDoesNothing and ResetInputHoldsAndRestarts. -/

namespace Sys2Proof.Machine

/-! ### An inactive part -/

/-- The rows of the supply and of RESETN are four. -/
theorem supplyRule_rows {c : Instr} {f : State → State} (h : supplyRule c = some f) :
    (∃ b, c = .powerOn b) ∨ (∃ b, c = .resetnReleased b) ∨ c = .resetnAsserted ∨ c = .powerLoss := by
  unfold supplyRule at h
  split at h
  case h_1 b => exact .inl ⟨b, rfl⟩
  case h_2 => exact .inr (.inr (.inl rfl))
  case h_3 b => exact .inr (.inl ⟨b, rfl⟩)
  case h_4 => exact .inr (.inr (.inr rfl))
  case h_5 => cases h

/-- Settles O2: every row but the four of the supply is taken by a powered part alone. -/
theorem inactivePartDoesNothing : Obligations.InactivePartDoesNothing := by
  intro c s hp hon hreleased hasserted hloss
  obtain ⟨rule, h⟩ | ⟨f, h⟩ | ⟨f, h⟩ | ⟨f, h⟩ := command_cases c
  · rw [exec_of_ownerRule h, request, whenOn_off hp]
  · rw [exec_of_eventRule h, event, whenOn_off hp]
  · rw [exec_of_lineRule h, whenOn_off hp]
  · obtain ⟨b, hc⟩ | ⟨b, hc⟩ | hc | hc := supplyRule_rows h
    · exact absurd hc (hon b)
    · exact absurd hc (hreleased b)
    · exact absurd hc hasserted
    · exact absurd hc hloss

/-! ### The restart -/

theorem restartAt_power (strap : Bool) (s : State) : (restartAt strap s).power = .on := by
  obtain ⟨T, hT, -⟩ := restartAt_eq strap s
  rw [hT]
  rfl

/-- A restart does not look at the supply it came from. -/
theorem restartAt_of_power (strap : Bool) (p : Power) (s : State) :
    restartAt strap { s with power := p } = restartAt strap s := rfl

theorem replyEnded_restart {s : State} (h : s.hlk.reply.isSome) (hd : s.hlk.restartDue = true) :
    replyEnded s = restartAsked s := by
  obtain ⟨r, hr⟩ := Option.isSome_iff_exists.mp h
  unfold replyEnded
  rw [hr]
  exact if_pos hd

/-! ### The rows of the supply, by its state -/

section
variable {strap : Bool} {s : State}

theorem holdPart_on (h : s.power = .on) : holdPart s = { s with
    power := .held
    hlk := { s.hlk with
      notices := clearedNotices s.hlk.notices, receiver := .hunting, waiting := [], reply := none, restartDue := false }
    plc := { s.plc with rail := .off, idle := none }
    bdc.lamp := 0 } := by
  unfold holdPart
  rw [h]

theorem holdPart_off (h : s.power = .off) : holdPart s = { s with power := .offHeld } := by
  unfold holdPart
  rw [h]

theorem holdPart_low (h : resetLow s.power = true) : holdPart s = s := by
  unfold holdPart
  split
  next hp =>
    rw [hp] at h
    cases h
  next hp =>
    rw [hp] at h
    cases h
  · rfl
  · rfl

theorem powerUp_held (h : s.power = .held) : powerUp strap s = s := by
  unfold powerUp
  rw [h]

theorem powerUp_offHeld (h : s.power = .offHeld) : powerUp strap s = { s with power := .held } := by
  unfold powerUp
  rw [h]

theorem releasePart_held (h : s.power = .held) : releasePart strap s = restartAt strap s := by
  unfold releasePart
  rw [h]

theorem releasePart_offHeld (h : s.power = .offHeld) : releasePart strap s = { s with power := .off } := by
  unfold releasePart
  rw [h]

theorem releasePart_high (h : resetLow s.power = false) : releasePart strap s = s := by
  unfold releasePart
  split
  next hp =>
    rw [hp] at h
    cases h
  next hp =>
    rw [hp] at h
    cases h
  · rfl
  · rfl

end

/-- Settles O4: the hold field by field, then the rows of RESETN and of the supply by the state of the supply. -/
theorem resetInputHoldsAndRestarts : Obligations.ResetInputHoldsAndRestarts := by
  refine ⟨fun s hp => ?hold, fun strap s => ⟨fun hp => ?held, fun hp => ?off, fun hp => ?offHeld, fun hp => ?high⟩,
    fun s hp hr hd => ?restart⟩
  case hold =>
    refine ⟨holdPart s, exec_of_supplyRule rfl s, ?_⟩
    rw [holdPart_on hp]
    exact ⟨rfl, rfl, rfl, rfl, List.forall_mem_map.mpr fun _ _ => rfl, rfl, rfl, rfl, rfl, rfl, rfl, rfl, rfl, rfl, rfl,
      clearedNotices_config _⟩
  case held =>
    have hreleased : exec (.resetnReleased strap) s = .next (restartAt strap s) := by
      rw [exec_of_supplyRule rfl, releasePart_held hp]
    refine ⟨⟨_, hreleased, restartAt_power strap s⟩, ?_, ?_, ?_⟩
    · rw [hreleased, exec_of_supplyRule rfl, powerUp_restarts rfl]
      exact congrArg Host.Outcome.next (restartAt_of_power strap .off s).symm
    · rw [exec_of_supplyRule rfl, powerUp_held hp]
    · rw [exec_of_supplyRule rfl, holdPart_low (by rw [hp]; rfl)]
  case off => rw [exec_of_supplyRule rfl, holdPart_off hp]
  case offHeld =>
    refine ⟨?_, ?_, ?_⟩
    · rw [exec_of_supplyRule rfl, powerUp_offHeld hp]
    · rw [exec_of_supplyRule rfl, releasePart_offHeld hp]
    · rw [exec_of_supplyRule rfl, holdPart_low (by rw [hp]; rfl)]
  case high => rw [exec_of_supplyRule rfl, releasePart_high hp]
  case restart =>
    have hhigh : resetLow { s with free := s.free + 1 }.power = false := congrArg resetLow hp
    rw [exec_replySent hp, replyEnded_restart hr hd, exec_of_supplyRule rfl, powerUp_restarts hhigh]
    rfl

end Sys2Proof.Machine
end

section
/-! SUPPORT. The receiver (R177): what a byte does to a hunting receiver and inside a frame, the check, and the bytes of a whole
frame; ReceiverHuntsAndAbandons and BytesMakeTheFrame. -/

namespace Sys2Proof.Machine

/-! ### One byte -/

section
variable {s : State}

theorem exec_hostByteReceived (b : Byte) (hp : s.power = .on) :
    exec (.hostByteReceived b) s = .next (byteReceived b s) := by
  rw [exec_of_lineRule rfl, whenOn, if_pos hp]

theorem byteReceived_hunting (b : Byte) (h : s.hlk.receiver = .hunting) :
    byteReceived b s = if b = 0xA5#8 then setReceiver (.inFrame []) s else s := by
  unfold byteReceived
  rw [h]

theorem byteReceived_inFrame (b : Byte) {bytes : List Byte} (h : s.hlk.receiver = .inFrame bytes) :
    byteReceived b s = frameByte (bytes ++ [b]) s := by
  unfold byteReceived
  rw [h]

theorem setReceiver_setReceiver (r q : Receiver) (s : State) : setReceiver r (setReceiver q s) = setReceiver r s := rfl

theorem setReceiver_self {r : Receiver} (h : s.hlk.receiver = r) : setReceiver r s = s := by
  subst h
  rfl

theorem tooLong_iff {bytes : List Byte} {l : Byte} (h : bytes.head? = some l) :
    tooLong bytes = true ↔ 250 < l.toNat := by
  rw [tooLong, h]
  exact decide_eq_true_iff

theorem wholeFrame_iff {bytes : List Byte} {l : Byte} (h : bytes.head? = some l) :
    wholeFrame bytes = true ↔ bytes.length = l.toNat + 5 := by
  rw [wholeFrame, h]
  exact decide_eq_true_iff

/-- Bytes short of a whole frame are kept. -/
theorem frameByte_partial {bytes : List Byte} {l : Byte} (h : bytes.head? = some l) (hl : l.toNat ≤ 250)
    (hlen : bytes.length < l.toNat + 5) : frameByte bytes s = setReceiver (.inFrame bytes) s := by
  rw [frameByte, if_neg (mt (tooLong_iff h).mp (by omega)), if_neg (mt (wholeFrame_iff h).mp (by omega))]

/-- The last byte of a frame hands it on if its check matches; the receiver hunts again. -/
theorem frameByte_whole {bytes : List Byte} {l : Byte} (h : bytes.head? = some l) (hl : l.toNat ≤ 250)
    (hlen : bytes.length = l.toNat + 5) : frameByte bytes s =
      (checkedFrame bytes).elim (setReceiver .hunting s) fun f => frameArrived f (setReceiver .hunting s) := by
  rw [frameByte, if_neg (mt (tooLong_iff h).mp (by omega)), if_pos ((wholeFrame_iff h).mpr hlen)]

end

/-- Settles O7: a byte by the receiver, and the length by the limit. -/
theorem receiverHuntsAndAbandons : Obligations.ReceiverHuntsAndAbandons := by
  refine fun b s hp => ⟨fun hr hb => ?_, fun hr hb => ?_, ?_⟩
  · rw [exec_hostByteReceived b hp, byteReceived_hunting b hr, if_neg hb]
  · rw [exec_hostByteReceived b hp, byteReceived_inFrame b hr, frameByte, if_pos ((tooLong_iff rfl).mpr hb)]
    rfl
  · rw [exec_of_lineRule rfl, whenOn, if_pos hp]
    rfl

/-! ### Bytes one after another -/

theorem runCommands_cons {c : Instr} {l : List Instr} {s t : State} (h : exec c s = .next t) :
    runCommands (c :: l) s = runCommands l t := by
  rw [runCommands, h]

theorem runCommands_append {l m : List Instr} {s t : State} (h : runCommands l s = .next t) :
    runCommands (l ++ m) s = runCommands m t := by
  induction l generalizing s with
  | nil =>
    cases h
    rfl
  | cons c l ih =>
    obtain ⟨u, hu⟩ := exec_answers c s
    rw [runCommands_cons hu] at h
    rw [List.cons_append, runCommands_cons hu, ih h]

/-- The receiver keeps the bytes of a frame that is not yet whole. -/
theorem runCommands_partial {bytes kept : List Byte} {l : Byte} {s : State} (hp : s.power = .on)
    (hr : s.hlk.receiver = .inFrame kept) (h : (kept ++ bytes).head? = some l) (hl : l.toNat ≤ 250)
    (hlen : (kept ++ bytes).length < l.toNat + 5) :
    runCommands (bytes.map .hostByteReceived) s = .next (setReceiver (.inFrame (kept ++ bytes)) s) := by
  induction bytes generalizing kept s with
  | nil =>
    rw [List.append_nil, setReceiver_self hr]
    rfl
  | cons b bytes ih =>
    have hsplit : kept ++ b :: bytes = (kept ++ [b]) ++ bytes := by rw [List.append_assoc, List.singleton_append]
    have hhead : (kept ++ [b]).head? = some l := by simpa using h
    have hshort : (kept ++ [b]).length < l.toNat + 5 := by
      rw [hsplit, List.length_append] at hlen
      omega
    have hbyte : exec (.hostByteReceived b) s = .next (setReceiver (.inFrame (kept ++ [b])) s) := by
      rw [exec_hostByteReceived b hp, byteReceived_inFrame b hr, frameByte_partial hhead hl hshort]
    rw [hsplit] at h hlen ⊢
    rw [List.map_cons, runCommands_cons hbyte, ih (s := setReceiver (.inFrame (kept ++ [b])) s) hp rfl h hlen,
      setReceiver_setReceiver]

/-- The start byte and the bytes of a whole frame: it is handed on if its check matches, and nothing else comes of them. -/
theorem runCommands_whole {bytes : List Byte} {l : Byte} {s : State} (hp : s.power = .on)
    (hr : s.hlk.receiver = .hunting) (h : bytes.head? = some l) (hl : l.toNat ≤ 250) (hlen : bytes.length = l.toNat + 5) :
    runCommands ((0xA5#8 :: bytes).map .hostByteReceived) s =
      .next ((checkedFrame bytes).elim s fun f => frameArrived f s) := by
  have hstart : exec (.hostByteReceived 0xA5#8) s = .next (setReceiver (.inFrame []) s) := by
    rw [exec_hostByteReceived _ hp, byteReceived_hunting _ hr, if_pos rfl]
  obtain ⟨first, last, rfl⟩ : ∃ first last, bytes = first ++ [last] :=
    (List.eq_nil_or_concat' bytes).resolve_left (by rintro rfl; cases h)
  have hfirst : first.head? = some l := by
    cases first with
    | nil => simp at hlen
    | cons b first => exact h
  have hlast : exec (.hostByteReceived last) (setReceiver (.inFrame first) s) =
      .next ((checkedFrame (first ++ [last])).elim s fun f => frameArrived f s) := by
    rw [exec_hostByteReceived last (s := setReceiver (.inFrame first) s) hp, byteReceived_inFrame last rfl,
      frameByte_whole h hl hlen, setReceiver_setReceiver, setReceiver_self hr]
  have hkept := runCommands_partial (s := setReceiver (.inFrame []) s) hp rfl hfirst hl
    (by rw [List.length_append, List.length_singleton] at hlen; rw [List.nil_append]; omega)
  rw [List.map_cons, runCommands_cons hstart, List.map_append, runCommands_append hkept, setReceiver_setReceiver,
    List.nil_append, List.map_singleton, runCommands_cons hlast]
  rfl

/-! ### The check -/

theorem toNat_byte {n : Nat} (h : n < 256) : (BitVec.ofNat 8 n).toNat = n :=
  (BitVec.toNat_ofNat n 8).trans (Nat.mod_eq_of_lt h)

/-- Two checks are sent as the same bytes only if they are the same. -/
theorem checkBytes_inj {c d : BitVec 16} : checkBytes c = checkBytes d ↔ c = d := by
  refine ⟨fun h => BitVec.eq_of_toNat_eq ?_, congrArg checkBytes⟩
  have hvalue : ∀ c : BitVec 16, fromBytes (checkBytes c) = c.toNat := fun c =>
    (fromBytes_bigEndian 2 c.toNat).trans (Nat.mod_eq_of_lt c.isLt)
  rw [← hvalue c, ← hvalue d, h]

/-- The bytes of a frame after its start byte. -/
def bytesAfterStart (f : Frame) (check : BitVec 16) : List Byte :=
  BitVec.ofNat 8 f.body.length :: f.kind :: f.tag :: (f.body ++ checkBytes check)

theorem frameBytes_eq (f : Frame) (check : BitVec 16) : frameBytes f check = 0xA5#8 :: bytesAfterStart f check := rfl

theorem length_bytesAfterStart (f : Frame) (check : BitVec 16) :
    (bytesAfterStart f check).length = f.body.length + 5 := by
  simp [bytesAfterStart, checkBytes, length_bigEndian]

theorem checkedFrame_bytesAfterStart {f : Frame} (h : f.body.length < 256) (check : BitVec 16) :
    checkedFrame (bytesAfterStart f check) = if check = frameCheck f then some f else none := by
  unfold bytesAfterStart checkedFrame
  simp only [toNat_byte h, List.take_left, List.drop_left, checkBytes_inj]
  rfl

/-- Settles O6: the bytes of a frame are a whole frame, and its check decides what is handed on. -/
theorem bytesMakeTheFrame : Obligations.BytesMakeTheFrame := by
  intro f s check hp hr hbody
  have hl : (BitVec.ofNat 8 f.body.length).toNat = f.body.length := toNat_byte (by omega)
  have hrun : runCommands ((frameBytes f check).map .hostByteReceived) s =
      .next ((if check = frameCheck f then some f else none).elim s fun f => frameArrived f s) := by
    rw [frameBytes_eq, ← checkedFrame_bytesAfterStart (by omega)]
    exact runCommands_whole hp hr rfl (by rw [hl]; exact hbody) (by rw [length_bytesAfterStart, hl])
  refine ⟨fun hc => ?_, fun hc => ?_⟩
  · rw [hrun, if_pos hc, exec_frameComplete _ _ _ hp]
    rfl
  · rw [hrun, if_neg hc]
    rfl

end Sys2Proof.Machine
end

section
/-! SUPPORT. The body of TABLE-ADD (Table 11-7, R178, R179): what reading gives back field by field, and the bodies it refuses;
ServiceRecordRoundTrip. -/

namespace Sys2Proof.Machine

/-! ### The fields -/

theorem directionOf_directionByte {d : Coded Direction} (h : ∀ n, d = .other n → 2 ≤ n ∧ n < 256) :
    directionOf (directionByte d) = d := by
  cases d with
  | named d => cases d <;> rfl
  | other n =>
    obtain ⟨hlow, hhigh⟩ := h n rfl
    have hvalue := toNat_byte hhigh
    unfold directionOf directionByte
    dsimp only
    split
    next h0 => omega
    next h1 => omega
    next m _ _ => rw [hvalue]

theorem map_toNat_ofNat {l : List Nat} (h : ∀ c ∈ l, c < 256) : (l.map (BitVec.ofNat 8)).map BitVec.toNat = l := by
  rw [List.map_map]
  exact (List.map_congr_left fun c hc => toNat_byte (h c hc)).trans (List.map_id' l)

/-- Table 11-7 as readService takes a body apart: seven bytes and the calls. -/
theorem serviceBytes_eq (number : Nat) (d : Coded Direction) (minute platform : Nat) (calls : List Nat) :
    serviceBytes number d minute platform calls =
      BitVec.ofNat 8 (number / 256) :: BitVec.ofNat 8 number :: directionByte d :: BitVec.ofNat 8 (minute / 256) ::
        BitVec.ofNat 8 minute :: BitVec.ofNat 8 platform :: BitVec.ofNat 8 calls.length ::
          calls.map (BitVec.ofNat 8) := rfl

theorem fromBytes_pair {n : Nat} (h : n < 65536) : fromBytes [BitVec.ofNat 8 (n / 256), BitVec.ofNat 8 n] = n :=
  (fromBytes_bigEndian 2 n).trans (Nat.mod_eq_of_lt h)

/-! ### The body -/

theorem readService_serviceBytes {number minute platform : Nat} {d : Coded Direction} {calls : List Nat}
    (hnumber : number < 65536) (hminute : minute < 65536) (hplatform : platform < 256) (hcount : calls.length < 256)
    (hcalls : ∀ c ∈ calls, c < 256) (hd : ∀ n, d = .other n → 2 ≤ n ∧ n < 256) :
    readService (serviceBytes number d minute platform calls) = some (.tableAdd number d minute platform calls) := by
  have hlength : (calls.map (BitVec.ofNat 8)).length = (BitVec.ofNat 8 calls.length).toNat := by
    rw [List.length_map, toNat_byte hcount]
  rw [serviceBytes_eq, readService, if_pos hlength, fromBytes_pair hnumber, fromBytes_pair hminute,
    directionOf_directionByte hd, toNat_byte hplatform, map_toNat_ofNat hcalls]

theorem readService_short {body : List Byte} (h : body.length < 7) : readService body = none := by
  unfold readService
  split
  · simp only [List.length_cons] at h
    omega
  · rfl

/-- TABLE-ADD's body is read by Table 11-7. -/
theorem readBody_tableAdd (body : List Byte) : readBody 0x21#8 body = readService body := if_pos rfl

/-- Settles O9: the record read back field by field; the frame then asks what the row asks, or is malformed. -/
theorem serviceRecordRoundTrip : Obligations.ServiceRecordRoundTrip := by
  refine ⟨fun number d minute platform calls hnumber hminute hplatform hcount hcalls hd => ?_,
    fun body h => readService_short h, fun a b c d e f n calls h => if_neg h, fun tag body s hl hbody => ?_⟩
  · have hread := readService_serviceBytes hnumber hminute hplatform hcount hcalls hd
    refine ⟨hread, fun s hl => ?_⟩
    have hframe := exec_frameComplete_taken ⟨0x21#8, 0#8, serviceBytes number d minute platform calls⟩ hl
    rw [hframe, takeFrame_request (i := .tableAdd number d minute platform calls) rfl ((readBody_tableAdd _).trans hread)]
    exact (exec_request_taken rfl hl).symm
  · have hadd : (0x21#8 : Byte) ∈ catalogue := by decide
    obtain ⟨hreply, -, hkept⟩ := takeFrame_answered (frameRule_malformed (f := ⟨0x21#8, tag, body⟩) hadd
      ((readBody_tableAdd body).trans hbody)) s
    exact ⟨_, exec_frameComplete_taken ⟨0x21#8, tag, body⟩ hl, by simpa using hreply, hkept⟩

end Sys2Proof.Machine
end

section
/-! SUPPORT. The notice requests (R183, R184, R186): lists of sources read after an update of one, the marks of NOTICE-READ, the
configuration stored, the flags cleared, and the attention output; NoticesReadAndConfigured and NoticeClearClearsTheSeen. -/

namespace Sys2Proof.Machine

/-! ### Reading a source after an update -/

theorem noticeIn_modify (g : Notice → Notice) (n m : Nat) (l : List Notice) : noticeIn (l.modify n g) m =
    if n = m ∧ m < l.length then g (noticeIn l m) else noticeIn l m := by
  simp only [noticeIn, List.getD_eq_getElem?_getD, List.getElem?_modify]
  by_cases hn : n = m <;> by_cases hm : m < l.length <;> simp [hn, hm]

theorem noticeIn_beyond {l : List Notice} {n : Nat} (h : l.length ≤ n) : noticeIn l n = quietNotice .low := by
  rw [noticeIn, List.getD_eq_getElem?_getD, List.getElem?_eq_none h]
  rfl

/-- A list of sources is what is read at its numbers. -/
theorem eq_map_noticeIn (l : List Notice) : l = (List.range l.length).map (noticeIn l) := by
  refine List.ext_getElem (by simp) fun i hi _ => ?_
  rw [List.getElem_map, List.getElem_range, noticeIn, List.getD_eq_getElem _ _ hi]

/-! ### NOTICE-READ (R183) -/

theorem markSeen_eq (s : State) : markSeen s =
    { s with hlk.notices := s.hlk.notices.map fun n => { n with seen := n.seen || n.pending } } := by
  have hmark : ∀ n : Notice, (if n.pending then { n with seen := true } else n) = { n with seen := n.seen || n.pending } := by
    rintro ⟨pending, seen, enable, priority⟩
    cases pending <;> cases seen <;> rfl
  simp only [markSeen, hmark]

/-! ### NOTICE-CONFIG (R184) -/

/-- The sources with the carried fields stored, one after another. -/
def storedNotices (fields : List NoticeField) (l : List Notice) : List Notice :=
  fields.foldl (fun l f => l.modify f.source (configured f)) l

theorem foldl_storeNotice (fields : List NoticeField) (s : State) :
    fields.foldl storeNotice s = { s with hlk.notices := storedNotices fields s.hlk.notices } := by
  induction fields generalizing s with
  | nil => rfl
  | cons f fields ih => exact ih (storeNotice s f)

theorem length_storedNotices (fields : List NoticeField) (l : List Notice) :
    (storedNotices fields l).length = l.length := by
  induction fields generalizing l with
  | nil => rfl
  | cons f fields ih => exact (ih _).trans (List.length_modify _ _ _)

/-- A source without a carried field is as it was. -/
theorem noticeIn_storedNotices_other {fields : List NoticeField} {m : Nat} (h : ∀ f ∈ fields, f.source ≠ m)
    (l : List Notice) : noticeIn (storedNotices fields l) m = noticeIn l m := by
  induction fields generalizing l with
  | nil => rfl
  | cons f fields ih =>
    obtain ⟨hf, hfields⟩ := List.forall_mem_cons.mp h
    refine (ih hfields (l.modify f.source (configured f))).trans ?_
    rw [noticeIn_modify, if_neg fun hm => hf hm.1]

/-- A source with one carried field has what it carries. -/
theorem noticeIn_storedNotices_carried {fields : List NoticeField} (hd : (fields.map (·.source)).Nodup) {f : NoticeField}
    (hf : f ∈ fields) {l : List Notice} (hl : f.source < l.length) :
    noticeIn (storedNotices fields l) f.source = configured f (noticeIn l f.source) := by
  induction fields generalizing l with
  | nil => cases hf
  | cons g fields ih =>
    obtain ⟨hg, hfields⟩ := List.nodup_cons.mp hd
    change noticeIn (storedNotices fields (l.modify g.source (configured g))) f.source = _
    rcases List.mem_cons.mp hf with rfl | hmem
    · rw [noticeIn_storedNotices_other fun e he hs => hg (List.mem_map.mpr ⟨e, he, hs⟩), noticeIn_modify,
        if_pos ⟨rfl, hl⟩]
    · have hne : g.source ≠ f.source := fun hs => hg (List.mem_map.mpr ⟨f, hmem, hs.symm⟩)
      rw [ih hfields hmem (by rwa [List.length_modify]), noticeIn_modify, if_neg fun hm => hne hm.1]

theorem pending_storedNotices (fields : List NoticeField) (l : List Notice) (m : Nat) :
    (noticeIn (storedNotices fields l) m).pending = (noticeIn l m).pending := by
  induction fields generalizing l with
  | nil => rfl
  | cons f fields ih =>
    refine (ih (l.modify f.source (configured f))).trans ?_
    rw [noticeIn_modify]
    split <;> rfl

/-- Whether a sense stored for the door raises DOOR-OPEN: a change to LEVEL with the door open and the flag clear. -/
def senseRaises (sense : DoorSense) (s : State) : Bool :=
  s.hlk.doorSense == .edge && sense == .level && doorOpen s && !(noticeAt s 1).pending

theorem storeDoorSense_eq (sense : DoorSense) (s : State) : storeDoorSense sense s = { s with
    hlk.doorSense := sense
    hlk.notices := raisedIf (senseRaises sense s) 1 s.hlk.notices } := by
  have hraises : senseRaises sense s = true ↔ s.hlk.doorSense = .edge ∧ sense = .level ∧ doorOpen s = true ∧
      (noticeOf s .doorOpen).pending = false := by
    change senseRaises sense s = true ↔ _ ∧ _ ∧ _ ∧ (noticeAt s 1).pending = false
    simp [senseRaises, and_assoc]
  unfold storeDoorSense
  by_cases h : senseRaises sense s = true
  · rw [if_pos (hraises.mp h), h]
    rfl
  · rw [if_neg (mt hraises.mpr h), eq_false_of_ne_true h]
    rfl

theorem noticesInRange_iff (fields : List NoticeField) (sense : Option (Coded DoorSense)) :
    noticesInRange fields sense = true ↔
      (∀ f ∈ fields, 1 ≤ f.source ∧ f.source ≤ 15 ∧ ∀ n, f.priority ≠ some (.other n)) ∧
        ∀ n, sense ≠ some (.other n) := by
  simp only [noticesInRange, Bool.and_eq_true, List.all_eq_true, within_iff, optNames_iff, and_assoc]

/-- What a NOTICE-CONFIG in range leaves. -/
def noticesConfigured (fields : List NoticeField) (sense : Option (Coded DoorSense)) (s : State) : State := { s with
  hlk.doorSense := optCoded s.hlk.doorSense sense
  hlk.notices := raisedIf (senseRaises (optCoded s.hlk.doorSense sense) s) 1 (storedNotices fields s.hlk.notices) }

section
variable {fields : List NoticeField} {sense : Option (Coded DoorSense)} {s : State}

theorem noticeConfigRule_outside (h : noticesInRange fields sense = false) :
    noticeConfigRule fields sense s = (s, refuse .range .field) := by
  unfold noticeConfigRule
  rw [h]
  rfl

theorem noticeConfigRule_stored (h : noticesInRange fields sense = true) : noticeConfigRule fields sense s =
    (noticesConfigured fields sense s, done (.noticeSettings (noticeSettings (noticesConfigured fields sense s))
      (noticesConfigured fields sense s).hlk.doorSense)) := by
  have hsense : senseRaises (optCoded s.hlk.doorSense sense) (fields.foldl storeNotice s) =
      senseRaises (optCoded s.hlk.doorSense sense) s := by
    simp only [foldl_storeNotice, senseRaises, noticeAt_eq, pending_storedNotices]
    rfl
  have hstored : storeDoorSense (optCoded s.hlk.doorSense sense) (fields.foldl storeNotice s) =
      noticesConfigured fields sense s := by
    rw [storeDoorSense_eq, hsense, foldl_storeNotice]
    rfl
  unfold noticeConfigRule
  dsimp only
  rw [h, hstored]
  rfl

theorem config_noticesConfigured (m : Nat) : (noticeAt (noticesConfigured fields sense s) m).config =
    (noticeIn (storedNotices fields s.hlk.notices) m).config := by
  have hstored := noticeAt_config (fields.foldl storeNotice s) m
  rw [foldl_storeNotice] at hstored
  rw [noticeAt_config, noticesConfigured, config_raisedIf]
  exact hstored.symm

/-- Of the flags DOOR-OPEN's alone may be raised. -/
theorem pending_noticesConfigured (hl : s.hlk.notices.length = sourceCount) (m : Nat) :
    (noticeAt (noticesConfigured fields sense s) m).pending = true ↔
      (senseRaises (optCoded s.hlk.doorSense sense) s = true ∧ m = 1) ∨ (noticeAt s m).pending = true := by
  have h1 : 1 < (storedNotices fields s.hlk.notices).length := by
    rw [length_storedNotices, hl]
    decide
  have hraised := pending_raisedIf (b := senseRaises (optCoded s.hlk.doorSense sense) s) (m := m) h1
  rwa [pending_storedNotices] at hraised

theorem pending_doorOpen_noticesConfigured (hl : s.hlk.notices.length = sourceCount) :
    (noticeAt (noticesConfigured fields sense s) 1).pending = ((noticeAt s 1).pending ||
      (s.hlk.doorSense == .edge && optCoded s.hlk.doorSense sense == .level && doorOpen s)) := by
  rw [Bool.eq_iff_iff, pending_noticesConfigured hl, senseRaises]
  cases (noticeAt s 1).pending <;> simp

end

/-! ### The attention output (R186) -/

theorem attnAsserted_iff (s : State) : attnAsserted s = true ↔
    s.power = .on ∧ s.hlk.hold = false ∧ ∃ n ∈ s.hlk.notices, n.enable = true ∧ n.pending = true := by
  simp only [attnAsserted, Bool.and_eq_true, decide_eq_true_eq, Bool.not_eq_true', List.any_eq_true, and_assoc,
    and_comm (a := Notice.pending _ = true)]

/-- Settles O12: NOTICE-READ by what its rule marks, NOTICE-CONFIG by whether it is in range. -/
theorem noticesReadAndConfigured : Obligations.NoticesReadAndConfigured := by
  refine ⟨fun s hl => does_of_rule hl rfl rfl rfl (Prod.ext (markSeen_eq _) rfl), fun fields sense s hl hlen => ?_,
    attnAsserted_iff⟩
  have hlen' : (atOwner s).hlk.notices.length = sourceCount := (atOwner_notices_length s).trans hlen
  refine ⟨fun hbad => ?outside, fun hgood hd => ?stored⟩
  case outside =>
    exact does_of_rule hl rfl rfl rfl
      (noticeConfigRule_outside (eq_false_of_ne_true (mt (noticesInRange_iff fields sense).mp hbad)))
  case stored =>
    refine ⟨noticesConfigured fields sense (atOwner s), does_of_rule hl rfl rfl rfl
      (noticeConfigRule_stored ((noticesInRange_iff fields sense).mpr hgood)), ?_, fun f hf => ?_, fun m hm => ?_,
      fun m hm => ?_, ?_⟩
    · rw [← atOwner_hlk_doorSense s]
      rfl
    · have hsource : f.source < (atOwner s).hlk.notices.length := by
        obtain ⟨-, hhigh, -⟩ := hgood.1 f hf
        rw [hlen']
        exact Nat.lt_succ_of_le hhigh
      rw [config_noticesConfigured, noticeIn_storedNotices_carried hd hf hsource]
      rfl
    · rw [config_noticesConfigured, noticeIn_storedNotices_other hm, noticeAt_eq]
    · rw [Bool.eq_iff_iff, pending_noticesConfigured hlen']
      simp [hm]
    · rw [pending_doorOpen_noticesConfigured hlen', ← atOwner_hlk_doorSense s]
      rfl

/-! ### NOTICE-CLEAR (R183) -/

/-- The sources with the flags of some numbers cleared. -/
def clearedAt (numbers : List Nat) (l : List Notice) : List Notice :=
  numbers.foldl (fun l n => l.modify n fun x => { x with pending := false }) l

theorem foldl_clearNotice (numbers : List Nat) (s : State) :
    numbers.foldl clearNotice s = { s with hlk.notices := clearedAt numbers s.hlk.notices } := by
  induction numbers generalizing s with
  | nil => rfl
  | cons n numbers ih => exact ih (clearNotice s n)

/-- The sources after the flags are cleared and DOOR-OPEN is raised again where a condition holds. -/
theorem raiseDoor_foldl_clearNotice (b : Bool) (numbers : List Nat) (s : State) :
    (if b then raiseNotice .doorOpen (numbers.foldl clearNotice s) else numbers.foldl clearNotice s) =
      { s with hlk.notices := raisedIf b 1 (clearedAt numbers s.hlk.notices) } := by
  rw [foldl_clearNotice]
  cases b <;> rfl

theorem length_clearedAt (numbers : List Nat) (l : List Notice) : (clearedAt numbers l).length = l.length := by
  induction numbers generalizing l with
  | nil => rfl
  | cons n numbers ih => exact (ih _).trans (List.length_modify _ _ _)

theorem noticeIn_clearedAt (numbers : List Nat) (l : List Notice) (m : Nat) : noticeIn (clearedAt numbers l) m =
    if m ∈ numbers then { noticeIn l m with pending := false } else noticeIn l m := by
  induction numbers generalizing l with
  | nil => rfl
  | cons n numbers ih =>
    refine (ih (l.modify n fun x => { x with pending := false })).trans ?_
    have hone : noticeIn (l.modify n fun x => { x with pending := false }) m =
        if m = n then { noticeIn l m with pending := false } else noticeIn l m := by
      rw [noticeIn_modify]
      by_cases hm : m < l.length
      · simp [hm, eq_comm]
      · simp [hm, noticeIn_beyond (Nat.le_of_not_lt hm), quietNotice]
    rw [hone]
    by_cases hn : m = n <;> by_cases hr : m ∈ numbers <;> simp [hn, hr]

/-- Whether a NOTICE-CLEAR that names some sources clears one: named, pending and seen. -/
def goesAt (sources : List Nat) (s : State) (n : Nat) : Bool :=
  sources.contains n && (noticeAt s n).pending && (noticeAt s n).seen

/-- What a NOTICE-CLEAR leaves of a source: under sense LEVEL an open door raises a cleared DOOR-OPEN again (R184). -/
def leftAt (sources : List Nat) (s : State) (n : Nat) : Notice :=
  if n = 1 ∧ goesAt sources s 1 = true ∧ s.hlk.doorSense = .level ∧ s.awu.filtered.door = some true then
    { noticeAt s n with pending := true, seen := false }
  else if goesAt sources s n then { noticeAt s n with pending := false } else noticeAt s n

section
variable {sources : List Nat} {s : State}

theorem noticeClearRule_outside (h : ∃ n ∈ sources, 15 < n) :
    noticeClearRule sources s = (s, refuse .range .field) := by
  unfold noticeClearRule
  rw [if_pos (by simpa using h)]

/-- The named sources that the rule clears. -/
theorem filter_clears : ((List.range sourceCount).filter fun n => sources.contains n).filter (clears s) =
    (List.range 16).filter (goesAt sources s) := by
  rw [List.filter_filter]
  refine List.filter_congr fun n _ => ?_
  rw [goesAt, clears, Bool.and_comm, Bool.and_assoc]

/-- The flags cleared and DOOR-OPEN raised again are what is left of each source. -/
theorem notices_cleared (hl : s.hlk.notices.length = sourceCount) :
    raisedIf (goesAt sources s 1 && s.hlk.doorSense == .level && doorOpen s) 1
      (clearedAt ((List.range 16).filter (goesAt sources s)) s.hlk.notices) =
        (List.range 16).map (leftAt sources s) := by
  have hlen : (clearedAt ((List.range 16).filter (goesAt sources s)) s.hlk.notices).length = 16 :=
    (length_clearedAt _ _).trans hl
  rw [eq_map_noticeIn (raisedIf _ _ _), length_raisedIf, hlen]
  refine List.map_congr_left fun n hn => ?_
  have hcleared : noticeIn (clearedAt ((List.range 16).filter (goesAt sources s)) s.hlk.notices) n =
      if goesAt sources s n then { noticeAt s n with pending := false } else noticeAt s n := by
    simp only [noticeIn_clearedAt, List.mem_filter, hn, true_and, noticeAt_eq]
  have hraised : (goesAt sources s 1 && s.hlk.doorSense == .level && doorOpen s) = true ↔
      goesAt sources s 1 = true ∧ s.hlk.doorSense = .level ∧ s.awu.filtered.door = some true := by
    simp [doorOpen, and_assoc]
  simp only [leftAt, ← hraised]
  cases hb : goesAt sources s 1 && s.hlk.doorSense == .level && doorOpen s with
  | false => simp [raisedIf, hcleared]
  | true =>
    rw [raisedIf, if_pos rfl, noticeIn_raisedAt, hlen, hcleared]
    by_cases h1 : n = 1
    · subst h1
      simp [(hraised.mp hb).1]
    · simp [h1, Ne.symm h1]

theorem noticeClearRule_cleared (h : ∀ n ∈ sources, n ≤ 15) (hl : s.hlk.notices.length = sourceCount) :
    noticeClearRule sources s = ({ s with hlk.notices := (List.range 16).map (leftAt sources s) },
      done (.noticesCleared ((List.range 16).filter (goesAt sources s))
        ((List.range 16).filter fun n => sources.contains n && (leftAt sources s n).pending))) := by
  have hdoor : ((List.range 16).filter (goesAt sources s)).contains Source.doorOpen.number = goesAt sources s 1 := by
    rw [Bool.eq_iff_iff, List.contains_iff_mem, List.mem_filter]
    exact and_iff_right (by decide)
  have hleft : (((List.range sourceCount).filter fun n => sources.contains n).filter fun n =>
      (noticeAt { s with hlk.notices := (List.range 16).map (leftAt sources s) } n).pending) =
        (List.range 16).filter fun n => sources.contains n && (leftAt sources s n).pending := by
    rw [List.filter_filter]
    refine List.filter_congr fun n hn => ?_
    have hread : noticeAt { s with hlk.notices := (List.range 16).map (leftAt sources s) } n = leftAt sources s n := by
      have hn16 : n < 16 := List.mem_range.mp hn
      simp [noticeAt, List.getD_eq_getElem?_getD, hn16]
    rw [hread, Bool.and_comm]
  unfold noticeClearRule
  dsimp only
  rw [if_neg (by simpa using h), filter_clears, hdoor, raiseDoor_foldl_clearNotice,
    notices_cleared hl, hleft]

end

/-- Settles O13: what is left of each source, and of a number outside the list nothing changes. -/
theorem noticeClearClearsTheSeen : Obligations.NoticeClearClearsTheSeen := by
  intro sources s hl
  refine ⟨fun h => does_of_rule hl rfl rfl rfl (noticeClearRule_outside h), fun h hlen => ?_⟩
  exact does_of_rule hl rfl rfl rfl (noticeClearRule_cleared h ((atOwner_notices_length s).trans hlen))

end Sys2Proof.Machine
end
